-- ==== Sys2Proof/Word.lean ====
section
/-! DEFINITION. The word types of the machine (00_scope.md rule R5: bit 0 is the least significant bit). -/

namespace Sys2Proof

/-- One byte of data memory. -/
abbrev Byte := BitVec 8

/-- A 32-bit word: an instruction (rule R60), the program counter (rule R22), a general register (rule R21). -/
abbrev Word := BitVec 32

/-- A 64-bit doubleword register of the Advanced SIMD file (rule R27). -/
abbrev DWord := BitVec 64

/-- A 128-bit quadword register of the Advanced SIMD file (rule R27). -/
abbrev QWord := BitVec 128

end Sys2Proof
end

