-- ==== Sys2Proof/Machine/Crypto.lean ====
section
/-! DEFINITION. The Cryptographic Extension's functions on 128-bit values: one AES round without its key schedule, SHA1
and SHA256 hash updates and schedules (rules R131, R137, R152, R159, R168, R172, R183, R205 to R208, R224, R232, R233). The
spec names the functions; their bits are those of the family and of FIPS 180-4 and FIPS 197 (PRESUMED,
notes/assumptions/10.md). -/

namespace Sys2Proof.Machine

/-! ## AES -/

/-- The substitution table of AES: byte `i` of the table is the image of `i`. -/
def aesSubTable : BitVec 2048 :=
  0x16BB54B00F2D99416842E6BF0D89A18C#128 ++
  0xDF2855CEE9871E9B948ED9691198F8E1#128 ++
  0x9E1DC186B95735610EF6034866B53E70#128 ++
  0x8A8BBD4B1F74DDE8C6B4A61C2E2578BA#128 ++
  0x08AE7A65EAF4566CA94ED58D6D37C8E7#128 ++
  0x79E4959162ACD3C25C2406490A3A32E0#128 ++
  0xDB0B5EDE14B8EE4688902A22DC4F8160#128 ++
  0x73195D643D7EA7C41744975FEC130CCD#128 ++
  0xD2F3FF1021DAB6BCF5389D928F40A351#128 ++
  0xA89F3C507F02F94585334D43FBAAEFD0#128 ++
  0xCF584C4A39BECB6A5BB1FC20ED00D153#128 ++
  0x842FE329B3D63B52A05A6E1B1A2C8309#128 ++
  0x75B227EBE28012079A059618C323C704#128 ++
  0x1531D871F1E5A534CCF73F362693FDB7#128 ++
  0xC072A49CAFA2D4ADF04759FA7DC982CA#128 ++
  0x76ABD7FE2B670130C56F6BF27B777C63#128

/-- The inverse substitution table of AES: byte `i` of the table is the image of `i`. -/
def aesInvSubTable : BitVec 2048 :=
  0x7D0C2155631469E126D677BA7E042B17#128 ++
  0x619953833CBBEBC8B0F52AAE4D3BE0A0#128 ++
  0xEF9CC9939F7AE52D0D4AB519A97F5160#128 ++
  0x5FEC8027591012B131C7078833A8DD1F#128 ++
  0xF45ACD78FEC0DB9A2079D2C64B3E56FC#128 ++
  0x1BBE18AA0E62B76F89C5291D711AF147#128 ++
  0x6EDF751CE837F9E28535ADE72274AC96#128 ++
  0x73E6B4F0CECFF297EADC674F4111913A#128 ++
  0x6B8A130103BDAFC1020F3FCA8F1E2CD0#128 ++
  0x0645B3B80558E4F70AD3BC8C00ABD890#128 ++
  0x849D8DA75746155EDAB9EDFD5048706C#128 ++
  0x92B6655DCC5CA4D41698688664F6F872#128 ++
  0x25D18B6D49A25B76B224D92866A12E08#128 ++
  0x4EC3FA420B954CEE3D23C2A632947B54#128 ++
  0xCBE9DEC444438E3487FF2F9B8239E37C#128 ++
  0xFBD7F3819EA340BF38A53630D56A0952#128

/-- Byte `i` of a quadword. -/
def byteOf (x : QWord) (i : Nat) : BitVec 8 := x.extractLsb' (8 * i) 8

/-- The quadword whose byte `i` is `g i`, for `i` below `n`. -/
def quadOfBytes (g : Nat → BitVec 8) : Nat → QWord
  | 0 => 0#128
  | n + 1 => quadOfBytes g n ||| (g n).setWidth 128 <<< (8 * n)

/-- Each byte replaced by its entry of a table. -/
def aesSub (table : BitVec 2048) (x : QWord) : QWord :=
  quadOfBytes (fun i => table.extractLsb' (8 * (byteOf x i).toNat) 8) 16

/-- ShiftRows: byte 4c + r comes from column c + r (the state is column by column). -/
def aesShiftRows (x : QWord) : QWord := quadOfBytes (fun i => byteOf x ((i / 4 + i % 4) % 4 * 4 + i % 4)) 16

/-- InvShiftRows: byte 4c + r comes from column c - r. -/
def aesInvShiftRows (x : QWord) : QWord := quadOfBytes (fun i => byteOf x ((i / 4 + 4 - i % 4) % 4 * 4 + i % 4)) 16

/-- Multiplication by x in GF(2^8) with the polynomial 11B. -/
def gfDouble (x : BitVec 8) : BitVec 8 := (x <<< 1) ^^^ (if x.getLsbD 7 then 0x1B#8 else 0#8)

/-- The product of a byte and a constant below 16 in GF(2^8). -/
def gfMul (k : BitVec 4) (x : BitVec 8) : BitVec 8 :=
  (if k.getLsbD 0 then x else 0#8) ^^^ (if k.getLsbD 1 then gfDouble x else 0#8) ^^^
    (if k.getLsbD 2 then gfDouble (gfDouble x) else 0#8) ^^^
    (if k.getLsbD 3 then gfDouble (gfDouble (gfDouble x)) else 0#8)

/-- Each column multiplied by the circulant matrix whose first row is `a b c d`. -/
def aesMix (a b c d : BitVec 4) (x : QWord) : QWord :=
  quadOfBytes (fun i =>
    let at' (r : Nat) := byteOf x (i / 4 * 4 + (i + r) % 4)
    gfMul a (at' 0) ^^^ gfMul b (at' 1) ^^^ gfMul c (at' 2) ^^^ gfMul d (at' 3)) 16

/-- AES single round encryption (rule R205). -/
def aesEncrypt (d m : QWord) : QWord := aesSub aesSubTable (aesShiftRows (d ^^^ m))

/-- AES single round decryption (rule R206). -/
def aesDecrypt (d m : QWord) : QWord := aesSub aesInvSubTable (aesInvShiftRows (d ^^^ m))

/-- AES mix columns (rule R207). -/
def aesMixColumns (m : QWord) : QWord := aesMix 2#4 3#4 1#4 1#4 m

/-- AES inverse mix columns (rule R208). -/
def aesInvMixColumns (m : QWord) : QWord := aesMix 14#4 11#4 13#4 9#4 m

/-! ## SHA1 and SHA256 -/

/-- Word `i` of a quadword. -/
def wordOf (x : QWord) (i : Nat) : Word := x.extractLsb' (32 * i) 32

/-- The quadword of four words, the highest first. -/
def quadOfWords (w3 w2 w1 w0 : Word) : QWord := w3 ++ w2 ++ w1 ++ w0

/-- The function Ch of the SHA standard. -/
def shaChoose (x y z : Word) : Word := ((y ^^^ z) &&& x) ^^^ z

/-- The function Parity. -/
def shaParity (x y z : Word) : Word := x ^^^ y ^^^ z

/-- The function Maj. -/
def shaMajority (x y z : Word) : Word := (x &&& y) ||| ((x ||| y) &&& z)

/-- The rounds of SHA1 with one function, for the words of `w` from `e` on: X holds a to d, Y holds e. -/
def sha1Rounds (g : Word → Word → Word → Word) (w : QWord) : Nat → Nat → QWord → Word → QWord
  | 0, _, X, _ => X
  | k + 1, e, X, Y =>
    let t := g (wordOf X 1) (wordOf X 2) (wordOf X 3)
    let y := Y + (wordOf X 0).rotateLeft 5 + t + wordOf w e
    let x := quadOfWords (wordOf X 3) (wordOf X 2) ((wordOf X 1).rotateLeft 30) (wordOf X 0)
    sha1Rounds g w k (e + 1) (quadOfWords (wordOf x 2) (wordOf x 1) (wordOf x 0) y) (wordOf x 3)

/-- SHA1 hash update with one function (rules R131, R137, R152). -/
def sha1Update (g : Word → Word → Word → Word) (d n m : QWord) : QWord := sha1Rounds g m 4 0 d (wordOf n 0)

/-- SHA1 fixed rotate (rule R224). -/
def sha1FixedRotate (m : QWord) : QWord := ((wordOf m 0).rotateLeft 30).setWidth 128

/-- SHA1 schedule update 0 (rule R159). -/
def sha1Schedule0 (d n m : QWord) : QWord := (n.extractLsb' 0 64 ++ d.extractLsb' 64 64) ^^^ d ^^^ m

/-- SHA1 schedule update 1 (rule R232). -/
def sha1Schedule1 (d m : QWord) : QWord :=
  let t := d ^^^ (m >>> 32)
  quadOfWords ((wordOf t 3).rotateLeft 1 ^^^ (wordOf t 0).rotateLeft 2) ((wordOf t 2).rotateLeft 1)
    ((wordOf t 1).rotateLeft 1) ((wordOf t 0).rotateLeft 1)

/-- The rounds of SHA256 for the words of `w` from `e` on: X holds a to d, Y holds e to h. -/
def sha256Rounds (w : QWord) : Nat → Nat → QWord → QWord → QWord × QWord
  | 0, _, X, Y => (X, Y)
  | k + 1, e, X, Y =>
    let y0 := wordOf Y 0
    let x0 := wordOf X 0
    let s1 := y0.rotateRight 6 ^^^ y0.rotateRight 11 ^^^ y0.rotateRight 25
    let s0 := x0.rotateRight 2 ^^^ x0.rotateRight 13 ^^^ x0.rotateRight 22
    let t := wordOf Y 3 + s1 + shaChoose y0 (wordOf Y 1) (wordOf Y 2) + wordOf w e
    let maj := shaMajority x0 (wordOf X 1) (wordOf X 2)
    sha256Rounds w k (e + 1) (quadOfWords (wordOf X 2) (wordOf X 1) x0 (t + s0 + maj))
      (quadOfWords (wordOf Y 2) (wordOf Y 1) y0 (t + wordOf X 3))

/-- SHA256 hash update part 1 (rule R168). -/
def sha256Hash1 (d n m : QWord) : QWord := (sha256Rounds m 4 0 d n).1

/-- SHA256 hash update part 2 (rule R172). -/
def sha256Hash2 (d n m : QWord) : QWord := (sha256Rounds m 4 0 n d).2

/-- The function sigma 0 of the SHA256 schedule. -/
def sha256Sigma0 (x : Word) : Word := x.rotateRight 7 ^^^ x.rotateRight 18 ^^^ (x >>> 3)

/-- The function sigma 1 of the SHA256 schedule. -/
def sha256Sigma1 (x : Word) : Word := x.rotateRight 17 ^^^ x.rotateRight 19 ^^^ (x >>> 10)

/-- SHA256 schedule update 0 (rule R233). -/
def sha256Schedule0 (d m : QWord) : QWord :=
  quadOfWords (sha256Sigma0 (wordOf m 0) + wordOf d 3) (sha256Sigma0 (wordOf d 3) + wordOf d 2)
    (sha256Sigma0 (wordOf d 2) + wordOf d 1) (sha256Sigma0 (wordOf d 1) + wordOf d 0)

/-- SHA256 schedule update 1 (rule R183). -/
def sha256Schedule1 (d n m : QWord) : QWord :=
  let r0 := sha256Sigma1 (wordOf m 2) + wordOf d 0 + wordOf n 1
  let r1 := sha256Sigma1 (wordOf m 3) + wordOf d 1 + wordOf n 2
  let r2 := sha256Sigma1 r0 + wordOf d 2 + wordOf n 3
  let r3 := sha256Sigma1 r1 + wordOf d 3 + wordOf m 0
  quadOfWords r3 r2 r1 r0

end Sys2Proof.Machine
end

