-- ==== Sys2Proof/Machine/Flags.lean ====
section
/-! DEFINITION. The flags the instructions of this space write: the sticky FPSCR bits (10_state.md rule R23), and the
saturation that sets QC (rules R197, R265, R320). No instruction of this space writes N, Z, C, V, Q or GE (rule R23). -/

namespace Sys2Proof.Machine

/-- A set of FPSCR bits that an operation sets. -/
abbrev Flags := BitVec 32

/-- One lane's result: its value and the FPSCR bits it sets. -/
abbrev Lane (e : Nat) := BitVec e × Flags

/-- FPSCR.QC, bit 27: cumulative saturation. -/
def flagQC : Flags := 0x08000000#32
/-- FPSCR.IOC, bit 0: invalid operation. -/
def flagIOC : Flags := 0x00000001#32
/-- FPSCR.DZC, bit 1: division by zero. -/
def flagDZC : Flags := 0x00000002#32
/-- FPSCR.OFC, bit 2: overflow. -/
def flagOFC : Flags := 0x00000004#32
/-- FPSCR.UFC, bit 3: underflow. -/
def flagUFC : Flags := 0x00000008#32
/-- FPSCR.IXC, bit 4: inexact. -/
def flagIXC : Flags := 0x00000010#32
/-- FPSCR.IDC, bit 7: input denormal. -/
def flagIDC : Flags := 0x00000080#32

/-- The flags `f` if `c` holds. -/
def flagIf (c : Bool) (f : Flags) : Flags := if c then f else 0#32

/-- A lane value that sets no flag. -/
def plain {e : Nat} (x : BitVec e) : Lane e := (x, 0#32)

/-- The FPSCR bits any lane of a result sets. -/
def laneFlags {e : Nat} (l : List (Lane e)) : Flags := l.foldr (fun x acc => x.2 ||| acc) 0#32

/-- A lane read as an integer: unsigned or two's complement (rule R196, "U = 1 selects unsigned"). -/
def laneInt {e : Nat} (unsigned : Bool) (x : BitVec e) : Int := if unsigned then (x.toNat : Int) else x.toInt

/-- The low `e` bits of an integer (rule R197, "modulo 2^esize"). -/
def wrapInt (e : Nat) (i : Int) : BitVec e := BitVec.ofInt e i

/-- The least integer a saturating lane can hold (rule R197). -/
def satMin (e : Nat) (unsigned : Bool) : Int := if unsigned then 0 else -(2 ^ (e - 1) : Int)

/-- The greatest integer a saturating lane can hold (rule R197). -/
def satMax (e : Nat) (unsigned : Bool) : Int := if unsigned then 2 ^ e - 1 else 2 ^ (e - 1) - 1

/-- The lane value nearest to `i` in the signed or unsigned range; QC when that is not `i` (rule R197). -/
def saturate (e : Nat) (unsigned : Bool) (i : Int) : Lane e :=
  if i < satMin e unsigned then (wrapInt e (satMin e unsigned), flagQC)
  else if satMax e unsigned < i then (wrapInt e (satMax e unsigned), flagQC)
  else plain (wrapInt e i)

end Sys2Proof.Machine
end

