-- ==== Sys2Proof/Syntax.lean ====
section
/-! DEFINITION. The syntax: one operand record per diagram of the source (30_encoding.md rules R62 to R82) and one
constructor of `Instr` per row of spec/opcode_table.json. A record holds every field of its diagram under the field's
name and width, the fields that a row fixes included (rule R88). Where a diagram leaves bits undrawn (rules R62, R63,
R67, R75) the record holds them as `undrawn<lowest bit>`, so that no bit of such a word is lost. -/

namespace Sys2Proof

/-- The fields of "Unconditional instructions" (format F_TOP, rule R62). -/
structure FTop where
  op0 : BitVec 2
  undrawn21 : BitVec 4
  op1 : BitVec 1
  undrawn0 : BitVec 20
deriving DecidableEq, Repr

/-- The fields of "Miscellaneous" (format F_MISC, rule R63). -/
structure FMisc where
  op0 : BitVec 5
  undrawn8 : BitVec 12
  op1 : BitVec 4
  undrawn0 : BitVec 4
deriving DecidableEq, Repr

/-- The fields of "Change Process State" (format F_CPS, rule R64). -/
structure FCps where
  imod : BitVec 2
  M : BitVec 1
  op : BitVec 1
  E : BitVec 1
  A : BitVec 1
  I : BitVec 1
  F : BitVec 1
  mode : BitVec 5
deriving DecidableEq, Repr

/-- The fields of "Advanced SIMD three registers of the same length" (format F_3SAME, rule R66). -/
structure FThreeSame where
  U : BitVec 1
  D : BitVec 1
  size : BitVec 2
  Vn : BitVec 4
  Vd : BitVec 4
  opc : BitVec 4
  N : BitVec 1
  Q : BitVec 1
  M : BitVec 1
  o1 : BitVec 1
  Vm : BitVec 4
deriving DecidableEq, Repr

/-- The fields of "Advanced SIMD two registers, or three registers of different lengths" (format F_2R3D, rule R67). -/
structure FTwoRegThreeDiff where
  op0 : BitVec 1
  undrawn22 : BitVec 1
  op1 : BitVec 2
  undrawn12 : BitVec 8
  op2 : BitVec 2
  undrawn7 : BitVec 3
  op3 : BitVec 1
  undrawn5 : BitVec 1
  undrawn0 : BitVec 4
deriving DecidableEq, Repr

/-- The fields of "Advanced SIMD two registers misc" (format F_2RMISC, rule R68). -/
structure FTwoRegMisc where
  D : BitVec 1
  size : BitVec 2
  opc1 : BitVec 2
  Vd : BitVec 4
  opc2 : BitVec 4
  Q : BitVec 1
  M : BitVec 1
  Vm : BitVec 4
deriving DecidableEq, Repr

/-- The fields of "Advanced SIMD duplicate (scalar)" (format F_DUP, rule R69). -/
structure FDup where
  D : BitVec 1
  imm4 : BitVec 4
  Vd : BitVec 4
  opc : BitVec 3
  Q : BitVec 1
  M : BitVec 1
  Vm : BitVec 4
deriving DecidableEq, Repr

/-- The fields of "Advanced SIMD three registers of different lengths" (format F_3DIFF, rule R70). -/
structure FThreeDiff where
  U : BitVec 1
  D : BitVec 1
  size : BitVec 2
  Vn : BitVec 4
  Vd : BitVec 4
  opc : BitVec 4
  N : BitVec 1
  M : BitVec 1
  Vm : BitVec 4
deriving DecidableEq, Repr

/-- The fields of "Advanced SIMD two registers and a scalar" (format F_2RSCALAR, rule R71). -/
structure FTwoRegScalar where
  Q : BitVec 1
  D : BitVec 1
  size : BitVec 2
  Vn : BitVec 4
  Vd : BitVec 4
  opc : BitVec 4
  N : BitVec 1
  M : BitVec 1
  Vm : BitVec 4
deriving DecidableEq, Repr

/-- The fields of "Advanced SIMD one register and modified immediate" (format F_1RIMM, rule R73). -/
structure FOneRegImm where
  i : BitVec 1
  D : BitVec 1
  imm3 : BitVec 3
  Vd : BitVec 4
  cmode : BitVec 4
  Q : BitVec 1
  op : BitVec 1
  imm4 : BitVec 4
deriving DecidableEq, Repr

/-- The fields of "Advanced SIMD two registers and shift amount" (format F_2RSHIFT, rule R74). -/
structure FTwoRegShift where
  U : BitVec 1
  D : BitVec 1
  imm3H : BitVec 3
  imm3L : BitVec 3
  Vd : BitVec 4
  opc : BitVec 4
  L : BitVec 1
  Q : BitVec 1
  M : BitVec 1
  Vm : BitVec 4
deriving DecidableEq, Repr

/-- The fields of "Memory hints and barriers" (format F_MEMHINT, rule R75). -/
structure FMemHint where
  op0 : BitVec 5
  undrawn5 : BitVec 15
  op1 : BitVec 1
  undrawn0 : BitVec 4
deriving DecidableEq, Repr

/-- The fields of "Barriers" (format F_BARRIER, rule R76). -/
structure FBarrier where
  opcode : BitVec 4
  option : BitVec 4
deriving DecidableEq, Repr

/-- The fields of "Preload (immediate)" (format F_PLDIMM, rule R77). -/
structure FPldImm where
  D : BitVec 1
  U : BitVec 1
  R : BitVec 1
  Rn : BitVec 4
  imm12 : BitVec 12
deriving DecidableEq, Repr

/-- The fields of "Preload (register)" (format F_PLDREG, rule R78). -/
structure FPldReg where
  D : BitVec 1
  U : BitVec 1
  o2 : BitVec 1
  Rn : BitVec 4
  imm5 : BitVec 5
  type : BitVec 2
  Rm : BitVec 4
deriving DecidableEq, Repr

/-- The fields of "Advanced SIMD load/store multiple structures" (format F_LDST_MULT, rule R80). -/
structure FLdStMult where
  D : BitVec 1
  L : BitVec 1
  Rn : BitVec 4
  Vd : BitVec 4
  type : BitVec 4
  size : BitVec 2
  align : BitVec 2
  Rm : BitVec 4
deriving DecidableEq, Repr

/-- The fields of "Advanced SIMD load single structure to all lanes" (format F_LDST_ALL, rule R81). -/
structure FLdStAll where
  D : BitVec 1
  L : BitVec 1
  Rn : BitVec 4
  Vd : BitVec 4
  N : BitVec 2
  size : BitVec 2
  T : BitVec 1
  a : BitVec 1
  Rm : BitVec 4
deriving DecidableEq, Repr

/-- The fields of "Advanced SIMD load/store single structure to one lane" (format F_LDST_ONE, rule R82). -/
structure FLdStOne where
  D : BitVec 1
  L : BitVec 1
  Rn : BitVec 4
  Vd : BitVec 4
  size : BitVec 2
  N : BitVec 2
  index_align : BitVec 4
  Rm : BitVec 4
deriving DecidableEq, Repr

/-- The instructions: one constructor per row of spec/opcode_table.json, in its order; the residue patterns of a
table, which are no rows of the source, share one (notes/assumptions/1.md). -/
inductive Instr where
  /-- UNALLOCATED: row 5 of its table (rule R96). -/
  | unallocatedTop5 (f : FTop)
  /-- NOT_IN_SOURCE: the encoding of "Unconditional instructions" that match no row of the source (rule R97). -/
  | notInSourceTop (f : FTop)
  /-- UNALLOCATED: row 1 of its table (rule R102). -/
  | unallocatedMisc1 (f : FMisc)
  /-- UNALLOCATED: row 3 of its table (rule R102). -/
  | unallocatedMisc3 (f : FMisc)
  /-- UNALLOCATED: row 4 of its table (rule R102). -/
  | unallocatedMisc4 (f : FMisc)
  /-- UNALLOCATED: row 5 of its table (rule R102). -/
  | unallocatedMisc5 (f : FMisc)
  /-- SETPAN: row 6 of its table (rule R101). -/
  | setpan (f : FMisc)
  /-- UNALLOCATED: row 7 of its table (rule R102). -/
  | unallocatedMisc7 (f : FMisc)
  /-- CONSTRAINED_UNPREDICTABLE: row 8 of its table (rule R103). -/
  | constrainedUnpredictableMisc8 (f : FMisc)
  /-- UNALLOCATED: row 9 of its table (rule R102). -/
  | unallocatedMisc9 (f : FMisc)
  /-- UNALLOCATED: row 10 of its table (rule R102). -/
  | unallocatedMisc10 (f : FMisc)
  /-- UNALLOCATED: row 11 of its table (rule R102). -/
  | unallocatedMisc11 (f : FMisc)
  /-- UNALLOCATED: row 12 of its table (rule R102). -/
  | unallocatedMisc12 (f : FMisc)
  /-- UNALLOCATED: row 13 of its table (rule R102). -/
  | unallocatedMisc13 (f : FMisc)
  /-- UNALLOCATED: row 14 of its table (rule R102). -/
  | unallocatedMisc14 (f : FMisc)
  /-- UNALLOCATED: row 15 of its table (rule R102). -/
  | unallocatedMisc15 (f : FMisc)
  /-- SETEND: row 1 of its table (rule R105). -/
  | setend (f : FCps)
  /-- CPS: row 2 of its table (rule R106). -/
  | cps (f : FCps)
  /-- UNALLOCATED: row 3 of its table (rule R107). -/
  | unallocatedCps3 (f : FCps)
  /-- VFMA: row 1 of its table (rule R121). -/
  | vfma (f : FThreeSame)
  /-- VADD_fp: row 2 of its table (rule R122). -/
  | vaddFp (f : FThreeSame)
  /-- VMLA_fp: row 3 of its table (rule R123). -/
  | vmlaFp (f : FThreeSame)
  /-- VCEQ_reg_A2: row 4 of its table (rule R124). -/
  | vceqRegA2 (f : FThreeSame)
  /-- VMAX_fp: row 5 of its table (rule R125). -/
  | vmaxFp (f : FThreeSame)
  /-- VRECPS: row 6 of its table (rule R126). -/
  | vrecps (f : FThreeSame)
  /-- VHADD: row 7 of its table (rule R127). -/
  | vhadd (f : FThreeSame)
  /-- VAND_reg: row 8 of its table (rule R128). -/
  | vandReg (f : FThreeSame)
  /-- VQADD: row 9 of its table (rule R129). -/
  | vqadd (f : FThreeSame)
  /-- VRHADD: row 10 of its table (rule R130). -/
  | vrhadd (f : FThreeSame)
  /-- SHA1C: row 11 of its table (rule R131). -/
  | sha1c (f : FThreeSame)
  /-- VHSUB: row 12 of its table (rule R132). -/
  | vhsub (f : FThreeSame)
  /-- VBIC_reg: row 13 of its table (rule R133). -/
  | vbicReg (f : FThreeSame)
  /-- VQSUB: row 14 of its table (rule R134). -/
  | vqsub (f : FThreeSame)
  /-- VCGT_reg_A1: row 15 of its table (rule R135). -/
  | vcgtRegA1 (f : FThreeSame)
  /-- VCGE_reg_A1: row 16 of its table (rule R136). -/
  | vcgeRegA1 (f : FThreeSame)
  /-- SHA1P: row 17 of its table (rule R137). -/
  | sha1p (f : FThreeSame)
  /-- VFMS: row 18 of its table (rule R138). -/
  | vfms (f : FThreeSame)
  /-- VSUB_fp: row 19 of its table (rule R139). -/
  | vsubFp (f : FThreeSame)
  /-- VMLS_fp: row 20 of its table (rule R140). -/
  | vmlsFp (f : FThreeSame)
  /-- UNALLOCATED: row 21 of its table (rule R187). -/
  | unallocatedThreeSame21 (f : FThreeSame)
  /-- VMIN_fp: row 22 of its table (rule R141). -/
  | vminFp (f : FThreeSame)
  /-- VRSQRTS: row 23 of its table (rule R142). -/
  | vrsqrts (f : FThreeSame)
  /-- VSHL_reg: row 24 of its table (rule R143). -/
  | vshlReg (f : FThreeSame)
  /-- VADD_int: row 25 of its table (rule R144). -/
  | vaddInt (f : FThreeSame)
  /-- VORR_reg: row 26 of its table (rule R145). -/
  | vorrReg (f : FThreeSame)
  /-- VTST: row 27 of its table (rule R146). -/
  | vtst (f : FThreeSame)
  /-- VQSHL_reg: row 28 of its table (rule R147). -/
  | vqshlReg (f : FThreeSame)
  /-- VMLA_int: row 29 of its table (rule R148). -/
  | vmlaInt (f : FThreeSame)
  /-- VRSHL: row 30 of its table (rule R149). -/
  | vrshl (f : FThreeSame)
  /-- VQRSHL: row 31 of its table (rule R150). -/
  | vqrshl (f : FThreeSame)
  /-- VQDMULH_3same: row 32 of its table (rule R151). -/
  | vqdmulh3same (f : FThreeSame)
  /-- SHA1M: row 33 of its table (rule R152). -/
  | sha1m (f : FThreeSame)
  /-- VPADD_int: row 34 of its table (rule R153). -/
  | vpaddInt (f : FThreeSame)
  /-- VMAX_int: row 35 of its table (rule R154). -/
  | vmaxInt (f : FThreeSame)
  /-- VORN_reg: row 36 of its table (rule R155). -/
  | vornReg (f : FThreeSame)
  /-- VMIN_int: row 37 of its table (rule R156). -/
  | vminInt (f : FThreeSame)
  /-- VABD_int: row 38 of its table (rule R157). -/
  | vabdInt (f : FThreeSame)
  /-- VABA: row 39 of its table (rule R158). -/
  | vaba (f : FThreeSame)
  /-- SHA1SU0: row 40 of its table (rule R159). -/
  | sha1su0 (f : FThreeSame)
  /-- VPADD_fp: row 41 of its table (rule R160). -/
  | vpaddFp (f : FThreeSame)
  /-- VMUL_fp: row 42 of its table (rule R161). -/
  | vmulFp (f : FThreeSame)
  /-- VCGE_reg_A2: row 43 of its table (rule R162). -/
  | vcgeRegA2 (f : FThreeSame)
  /-- VACGE: row 44 of its table (rule R163). -/
  | vacge (f : FThreeSame)
  /-- VPMAX_fp: row 45 of its table (rule R164). -/
  | vpmaxFp (f : FThreeSame)
  /-- VMAXNM: row 46 of its table (rule R165). -/
  | vmaxnm (f : FThreeSame)
  /-- VEOR: row 47 of its table (rule R166). -/
  | veor (f : FThreeSame)
  /-- VMUL_int_poly: row 48 of its table (rule R167). -/
  | vmulIntPoly (f : FThreeSame)
  /-- SHA256H: row 49 of its table (rule R168). -/
  | sha256h (f : FThreeSame)
  /-- VPMAX_int: row 50 of its table (rule R169). -/
  | vpmaxInt (f : FThreeSame)
  /-- VBSL: row 51 of its table (rule R170). -/
  | vbsl (f : FThreeSame)
  /-- VPMIN_int: row 52 of its table (rule R171). -/
  | vpminInt (f : FThreeSame)
  /-- UNALLOCATED: row 53 of its table (rule R187). -/
  | unallocatedThreeSame53 (f : FThreeSame)
  /-- SHA256H2: row 54 of its table (rule R172). -/
  | sha256h2 (f : FThreeSame)
  /-- VABD_fp: row 55 of its table (rule R173). -/
  | vabdFp (f : FThreeSame)
  /-- VCGT_reg_A2: row 56 of its table (rule R174). -/
  | vcgtRegA2 (f : FThreeSame)
  /-- VACGT: row 57 of its table (rule R175). -/
  | vacgt (f : FThreeSame)
  /-- VPMIN_fp: row 58 of its table (rule R176). -/
  | vpminFp (f : FThreeSame)
  /-- VMINNM: row 59 of its table (rule R177). -/
  | vminnm (f : FThreeSame)
  /-- VSUB_int: row 60 of its table (rule R178). -/
  | vsubInt (f : FThreeSame)
  /-- VBIT: row 61 of its table (rule R179). -/
  | vbit (f : FThreeSame)
  /-- VCEQ_reg_A1: row 62 of its table (rule R180). -/
  | vceqRegA1 (f : FThreeSame)
  /-- VMLS_int: row 63 of its table (rule R181). -/
  | vmlsInt (f : FThreeSame)
  /-- VQRDMULH_3same: row 64 of its table (rule R182). -/
  | vqrdmulh3same (f : FThreeSame)
  /-- SHA256SU1: row 65 of its table (rule R183). -/
  | sha256su1 (f : FThreeSame)
  /-- VQRDMLAH_3same: row 66 of its table (rule R184). -/
  | vqrdmlah3same (f : FThreeSame)
  /-- VBIF: row 67 of its table (rule R185). -/
  | vbif (f : FThreeSame)
  /-- VQRDMLSH_3same: row 68 of its table (rule R186). -/
  | vqrdmlsh3same (f : FThreeSame)
  /-- UNALLOCATED: row 69 of its table (rule R187). -/
  | unallocatedThreeSame69 (f : FThreeSame)
  /-- NOT_IN_SOURCE: the encodings of "Advanced SIMD three registers of the same length" that match no row of the source (rule R188). -/
  | notInSourceThreeSame (f : FThreeSame)
  /-- NOT_IN_SOURCE: the encodings of "Advanced SIMD two registers, or three registers of different lengths" that match no row of the source (rule R98). -/
  | notInSourceTwoRegThreeDiff (f : FTwoRegThreeDiff)
  /-- VREV64: row 1 of its table (rule R201). -/
  | vrev64 (f : FTwoRegMisc)
  /-- VREV32: row 2 of its table (rule R202). -/
  | vrev32 (f : FTwoRegMisc)
  /-- VREV16: row 3 of its table (rule R203). -/
  | vrev16 (f : FTwoRegMisc)
  /-- UNALLOCATED: row 4 of its table (rule R249). -/
  | unallocatedTwoRegMisc4 (f : FTwoRegMisc)
  /-- VPADDL: row 5 of its table (rule R204). -/
  | vpaddl (f : FTwoRegMisc)
  /-- AESE: row 6 of its table (rule R205). -/
  | aese (f : FTwoRegMisc)
  /-- AESD: row 7 of its table (rule R206). -/
  | aesd (f : FTwoRegMisc)
  /-- AESMC: row 8 of its table (rule R207). -/
  | aesmc (f : FTwoRegMisc)
  /-- AESIMC: row 9 of its table (rule R208). -/
  | aesimc (f : FTwoRegMisc)
  /-- VCLS: row 10 of its table (rule R209). -/
  | vcls (f : FTwoRegMisc)
  /-- VSWP: row 11 of its table (rule R210). -/
  | vswp (f : FTwoRegMisc)
  /-- VCLZ: row 12 of its table (rule R211). -/
  | vclz (f : FTwoRegMisc)
  /-- VCNT: row 13 of its table (rule R212). -/
  | vcnt (f : FTwoRegMisc)
  /-- VMVN_reg: row 14 of its table (rule R213). -/
  | vmvnReg (f : FTwoRegMisc)
  /-- VPADAL: row 15 of its table (rule R214). -/
  | vpadal (f : FTwoRegMisc)
  /-- VQABS: row 16 of its table (rule R215). -/
  | vqabs (f : FTwoRegMisc)
  /-- VQNEG: row 17 of its table (rule R216). -/
  | vqneg (f : FTwoRegMisc)
  /-- VCGT_imm0: row 18 of its table (rule R217). -/
  | vcgtImm0 (f : FTwoRegMisc)
  /-- VCGE_imm0: row 19 of its table (rule R218). -/
  | vcgeImm0 (f : FTwoRegMisc)
  /-- VCEQ_imm0: row 20 of its table (rule R219). -/
  | vceqImm0 (f : FTwoRegMisc)
  /-- VCLE_imm0: row 21 of its table (rule R220). -/
  | vcleImm0 (f : FTwoRegMisc)
  /-- VCLT_imm0: row 22 of its table (rule R221). -/
  | vcltImm0 (f : FTwoRegMisc)
  /-- VABS: row 23 of its table (rule R222). -/
  | vabs (f : FTwoRegMisc)
  /-- VNEG: row 24 of its table (rule R223). -/
  | vneg (f : FTwoRegMisc)
  /-- SHA1H: row 25 of its table (rule R224). -/
  | sha1h (f : FTwoRegMisc)
  /-- VTRN: row 26 of its table (rule R225). -/
  | vtrn (f : FTwoRegMisc)
  /-- VUZP: row 27 of its table (rule R226). -/
  | vuzp (f : FTwoRegMisc)
  /-- VZIP: row 28 of its table (rule R227). -/
  | vzip (f : FTwoRegMisc)
  /-- VMOVN: row 29 of its table (rule R228). -/
  | vmovn (f : FTwoRegMisc)
  /-- VQMOVUN: row 30 of its table (rule R229). -/
  | vqmovun (f : FTwoRegMisc)
  /-- VQMOVN: row 31 of its table (rule R230). -/
  | vqmovn (f : FTwoRegMisc)
  /-- VSHLL_misc: row 32 of its table (rule R231). -/
  | vshllMisc (f : FTwoRegMisc)
  /-- SHA1SU1: row 33 of its table (rule R232). -/
  | sha1su1 (f : FTwoRegMisc)
  /-- SHA256SU0: row 34 of its table (rule R233). -/
  | sha256su0 (f : FTwoRegMisc)
  /-- VRINTN_asimd: row 35 of its table (rule R234). -/
  | vrintnAsimd (f : FTwoRegMisc)
  /-- VRINTX_asimd: row 36 of its table (rule R235). -/
  | vrintxAsimd (f : FTwoRegMisc)
  /-- VRINTA_asimd: row 37 of its table (rule R236). -/
  | vrintaAsimd (f : FTwoRegMisc)
  /-- VRINTZ_asimd: row 38 of its table (rule R237). -/
  | vrintzAsimd (f : FTwoRegMisc)
  /-- VCVT_sp_to_hp: row 39 of its table (rule R238). -/
  | vcvtSpToHp (f : FTwoRegMisc)
  /-- UNALLOCATED: row 40 of its table (rule R249). -/
  | unallocatedTwoRegMisc40 (f : FTwoRegMisc)
  /-- VRINTM_asimd: row 41 of its table (rule R239). -/
  | vrintmAsimd (f : FTwoRegMisc)
  /-- VCVT_hp_to_sp: row 42 of its table (rule R240). -/
  | vcvtHpToSp (f : FTwoRegMisc)
  /-- UNALLOCATED: row 43 of its table (rule R249). -/
  | unallocatedTwoRegMisc43 (f : FTwoRegMisc)
  /-- VRINTP_asimd: row 44 of its table (rule R241). -/
  | vrintpAsimd (f : FTwoRegMisc)
  /-- VCVTA_asimd: row 45 of its table (rule R242). -/
  | vcvtaAsimd (f : FTwoRegMisc)
  /-- VCVTN_asimd: row 46 of its table (rule R243). -/
  | vcvtnAsimd (f : FTwoRegMisc)
  /-- VCVTP_asimd: row 47 of its table (rule R244). -/
  | vcvtpAsimd (f : FTwoRegMisc)
  /-- VCVTM_asimd: row 48 of its table (rule R245). -/
  | vcvtmAsimd (f : FTwoRegMisc)
  /-- VRECPE: row 49 of its table (rule R246). -/
  | vrecpe (f : FTwoRegMisc)
  /-- VRSQRTE: row 50 of its table (rule R247). -/
  | vrsqrte (f : FTwoRegMisc)
  /-- VCVT_fp_int_asimd: row 51 of its table (rule R248). -/
  | vcvtFpIntAsimd (f : FTwoRegMisc)
  /-- NOT_IN_SOURCE: the encodings of "Advanced SIMD two registers misc" that match no row of the source (rule R250). -/
  | notInSourceTwoRegMisc (f : FTwoRegMisc)
  /-- VDUP_scalar: row 1 of its table (rule R256). -/
  | vdupScalar (f : FDup)
  /-- UNALLOCATED: row 2 of its table (rule R257). -/
  | unallocatedDup2 (f : FDup)
  /-- UNALLOCATED: row 3 of its table (rule R257). -/
  | unallocatedDup3 (f : FDup)
  /-- UNALLOCATED: row 4 of its table (rule R257). -/
  | unallocatedDup4 (f : FDup)
  /-- VADDL: row 1 of its table (rule R281). -/
  | vaddl (f : FThreeDiff)
  /-- VADDW: row 2 of its table (rule R282). -/
  | vaddw (f : FThreeDiff)
  /-- VSUBL: row 3 of its table (rule R283). -/
  | vsubl (f : FThreeDiff)
  /-- VADDHN: row 4 of its table (rule R284). -/
  | vaddhn (f : FThreeDiff)
  /-- VSUBW: row 5 of its table (rule R285). -/
  | vsubw (f : FThreeDiff)
  /-- VSUBHN: row 6 of its table (rule R286). -/
  | vsubhn (f : FThreeDiff)
  /-- VQDMLAL_3diff: row 7 of its table (rule R287). -/
  | vqdmlal3diff (f : FThreeDiff)
  /-- VABAL: row 8 of its table (rule R288). -/
  | vabal (f : FThreeDiff)
  /-- VQDMLSL_3diff: row 9 of its table (rule R289). -/
  | vqdmlsl3diff (f : FThreeDiff)
  /-- VQDMULL_3diff: row 10 of its table (rule R290). -/
  | vqdmull3diff (f : FThreeDiff)
  /-- VABDL_int: row 11 of its table (rule R291). -/
  | vabdlInt (f : FThreeDiff)
  /-- VMLAL_int: row 12 of its table (rule R292). -/
  | vmlalInt (f : FThreeDiff)
  /-- VMLSL_int: row 13 of its table (rule R293). -/
  | vmlslInt (f : FThreeDiff)
  /-- VRADDHN: row 14 of its table (rule R294). -/
  | vraddhn (f : FThreeDiff)
  /-- VRSUBHN: row 15 of its table (rule R295). -/
  | vrsubhn (f : FThreeDiff)
  /-- VMULL_int_poly: row 16 of its table (rule R296). -/
  | vmullIntPoly (f : FThreeDiff)
  /-- UNALLOCATED: row 17 of its table (rule R297). -/
  | unallocatedThreeDiff17 (f : FThreeDiff)
  /-- UNALLOCATED: row 18 of its table (rule R297). -/
  | unallocatedThreeDiff18 (f : FThreeDiff)
  /-- UNALLOCATED: row 19 of its table (rule R297). -/
  | unallocatedThreeDiff19 (f : FThreeDiff)
  /-- UNALLOCATED: row 20 of its table (rule R297). -/
  | unallocatedThreeDiff20 (f : FThreeDiff)
  /-- VMLA_scalar: row 1 of its table (rule R301). -/
  | vmlaScalar (f : FTwoRegScalar)
  /-- VQDMLAL_scalar: row 2 of its table (rule R302). -/
  | vqdmlalScalar (f : FTwoRegScalar)
  /-- VMLAL_scalar: row 3 of its table (rule R303). -/
  | vmlalScalar (f : FTwoRegScalar)
  /-- VQDMLSL_scalar: row 4 of its table (rule R304). -/
  | vqdmlslScalar (f : FTwoRegScalar)
  /-- VMLS_scalar: row 5 of its table (rule R305). -/
  | vmlsScalar (f : FTwoRegScalar)
  /-- VQDMULL_scalar: row 6 of its table (rule R306). -/
  | vqdmullScalar (f : FTwoRegScalar)
  /-- VMLSL_scalar: row 7 of its table (rule R307). -/
  | vmlslScalar (f : FTwoRegScalar)
  /-- VMUL_scalar: row 8 of its table (rule R308). -/
  | vmulScalar (f : FTwoRegScalar)
  /-- UNALLOCATED: row 9 of its table (rule R314). -/
  | unallocatedTwoRegScalar9 (f : FTwoRegScalar)
  /-- VMULL_scalar: row 10 of its table (rule R309). -/
  | vmullScalar (f : FTwoRegScalar)
  /-- UNALLOCATED: row 11 of its table (rule R314). -/
  | unallocatedTwoRegScalar11 (f : FTwoRegScalar)
  /-- VQDMULH_scalar: row 12 of its table (rule R310). -/
  | vqdmulhScalar (f : FTwoRegScalar)
  /-- VQRDMULH_scalar: row 13 of its table (rule R311). -/
  | vqrdmulhScalar (f : FTwoRegScalar)
  /-- UNALLOCATED: row 14 of its table (rule R314). -/
  | unallocatedTwoRegScalar14 (f : FTwoRegScalar)
  /-- VQRDMLAH_scalar: row 15 of its table (rule R312). -/
  | vqrdmlahScalar (f : FTwoRegScalar)
  /-- VQRDMLSH_scalar: row 16 of its table (rule R313). -/
  | vqrdmlshScalar (f : FTwoRegScalar)
  /-- VMOV_imm_A1: row 1 of its table (rule R331). -/
  | vmovImmA1 (f : FOneRegImm)
  /-- VMVN_imm_A1: row 2 of its table (rule R332). -/
  | vmvnImmA1 (f : FOneRegImm)
  /-- VORR_imm_A1: row 3 of its table (rule R333). -/
  | vorrImmA1 (f : FOneRegImm)
  /-- VBIC_imm_A1: row 4 of its table (rule R334). -/
  | vbicImmA1 (f : FOneRegImm)
  /-- VMOV_imm_A3: row 5 of its table (rule R335). -/
  | vmovImmA3 (f : FOneRegImm)
  /-- VMVN_imm_A2: row 6 of its table (rule R336). -/
  | vmvnImmA2 (f : FOneRegImm)
  /-- VORR_imm_A2: row 7 of its table (rule R337). -/
  | vorrImmA2 (f : FOneRegImm)
  /-- VBIC_imm_A2: row 8 of its table (rule R338). -/
  | vbicImmA2 (f : FOneRegImm)
  /-- VMOV_imm_A4: row 9 of its table (rule R339). -/
  | vmovImmA4 (f : FOneRegImm)
  /-- VMVN_imm_A3: row 10 of its table (rule R340). -/
  | vmvnImmA3 (f : FOneRegImm)
  /-- VMOV_imm_A5: row 11 of its table (rule R341). -/
  | vmovImmA5 (f : FOneRegImm)
  /-- UNALLOCATED: row 12 of its table (rule R342). -/
  | unallocatedOneRegImm12 (f : FOneRegImm)
  /-- VSHR: row 1 of its table (rule R351). -/
  | vshr (f : FTwoRegShift)
  /-- VSRA: row 2 of its table (rule R352). -/
  | vsra (f : FTwoRegShift)
  /-- VMOVL: row 3 of its table (rule R353). -/
  | vmovl (f : FTwoRegShift)
  /-- VRSHR: row 4 of its table (rule R354). -/
  | vrshr (f : FTwoRegShift)
  /-- VRSRA: row 5 of its table (rule R355). -/
  | vrsra (f : FTwoRegShift)
  /-- VQSHL_imm: row 6 of its table (rule R356). -/
  | vqshlImm (f : FTwoRegShift)
  /-- VQSHRN: row 7 of its table (rule R357). -/
  | vqshrn (f : FTwoRegShift)
  /-- VQRSHRN: row 8 of its table (rule R358). -/
  | vqrshrn (f : FTwoRegShift)
  /-- VSHLL_imm: row 9 of its table (rule R359). -/
  | vshllImm (f : FTwoRegShift)
  /-- VCVT_fp_fixed_asimd: row 10 of its table (rule R360). -/
  | vcvtFpFixedAsimd (f : FTwoRegShift)
  /-- VSHL_imm: row 11 of its table (rule R361). -/
  | vshlImm (f : FTwoRegShift)
  /-- VSHRN: row 12 of its table (rule R362). -/
  | vshrn (f : FTwoRegShift)
  /-- VRSHRN: row 13 of its table (rule R363). -/
  | vrshrn (f : FTwoRegShift)
  /-- VSRI: row 14 of its table (rule R364). -/
  | vsri (f : FTwoRegShift)
  /-- VSLI: row 15 of its table (rule R365). -/
  | vsli (f : FTwoRegShift)
  /-- VQSHLU_imm: row 16 of its table (rule R366). -/
  | vqshluImm (f : FTwoRegShift)
  /-- VQSHRUN: row 17 of its table (rule R367). -/
  | vqshrun (f : FTwoRegShift)
  /-- VQRSHRUN: row 18 of its table (rule R368). -/
  | vqrshrun (f : FTwoRegShift)
  /-- NOT_IN_SOURCE: the encodings of "Advanced SIMD two registers and shift amount" that match no row of the source (rule R369). -/
  | notInSourceTwoRegShift (f : FTwoRegShift)
  /-- CONSTRAINED_UNPREDICTABLE: row 1 of its table (rule R382). -/
  | constrainedUnpredictableMemHint1 (f : FMemHint)
  /-- CONSTRAINED_UNPREDICTABLE: row 2 of its table (rule R382). -/
  | constrainedUnpredictableMemHint2 (f : FMemHint)
  /-- CONSTRAINED_UNPREDICTABLE: row 4 of its table (rule R382). -/
  | constrainedUnpredictableMemHint4 (f : FMemHint)
  /-- CONSTRAINED_UNPREDICTABLE: row 7 of its table (rule R382). -/
  | constrainedUnpredictableMemHint7 (f : FMemHint)
  /-- UNALLOCATED: row 8 of its table (rule R381). -/
  | unallocatedMemHint8 (f : FMemHint)
  /-- CONSTRAINED_UNPREDICTABLE: row 1 of its table (rule R393). -/
  | constrainedUnpredictableBarrier1 (f : FBarrier)
  /-- CLREX: row 2 of its table (rule R386). -/
  | clrex (f : FBarrier)
  /-- CONSTRAINED_UNPREDICTABLE: row 3 of its table (rule R393). -/
  | constrainedUnpredictableBarrier3 (f : FBarrier)
  /-- DSB: row 4 of its table (rule R387). -/
  | dsb (f : FBarrier)
  /-- SSBB: row 5 of its table (rule R388). -/
  | ssbb (f : FBarrier)
  /-- PSSBB: row 6 of its table (rule R389). -/
  | pssbb (f : FBarrier)
  /-- DMB: row 7 of its table (rule R390). -/
  | dmb (f : FBarrier)
  /-- ISB: row 8 of its table (rule R391). -/
  | isb (f : FBarrier)
  /-- SB: row 9 of its table (rule R392). -/
  | sb (f : FBarrier)
  /-- CONSTRAINED_UNPREDICTABLE: row 10 of its table (rule R393). -/
  | constrainedUnpredictableBarrier10 (f : FBarrier)
  /-- RESERVED_HINT_NOP: row 1 of its table (rule R405). -/
  | reservedHintNopPldImm (f : FPldImm)
  /-- PLI_imm_lit: row 2 of its table (rule R401). -/
  | pliImmLit (f : FPldImm)
  /-- PLD_lit: row 3 of its table (rule R402). -/
  | pldLit (f : FPldImm)
  /-- PLDW_imm: row 4 of its table (rule R403). -/
  | pldwImm (f : FPldImm)
  /-- PLD_imm: row 5 of its table (rule R404). -/
  | pldImm (f : FPldImm)
  /-- RESERVED_HINT_NOP: row 1 of its table (rule R414). -/
  | reservedHintNopPldReg (f : FPldReg)
  /-- PLI_reg: row 2 of its table (rule R411). -/
  | pliReg (f : FPldReg)
  /-- PLDW_reg: row 3 of its table (rule R412). -/
  | pldwReg (f : FPldReg)
  /-- PLD_reg: row 4 of its table (rule R413). -/
  | pldReg (f : FPldReg)
  /-- ASIMD_LDST_MULT: row 1 of its table (rule R421). -/
  | asimdLdstMult (f : FLdStMult)
  /-- ASIMD_LD_ALL: row 2 of its table (rule R422). -/
  | asimdLdAll (f : FLdStAll)
  /-- ASIMD_LDST_ONE: row 3 of its table (rule R423). -/
  | asimdLdstOne (f : FLdStOne)
deriving DecidableEq, Repr

end Sys2Proof
end

