-- ==== Sys2Proof/Machine/Operands.lean ====
section
/-! DEFINITION. The operand forms: vector register numbers (rules R27, R196, R265, R320), lane widths, the scalar and the
lane of VDUP, the modified immediate and the shift immediates (rule R375), the offsets of the preloads (rule R417) and the
barrier options (rule R416). -/

namespace Sys2Proof

namespace Machine

/-- The doubleword register number of an extra bit and a 4-bit field (rule R196, "d = D:Vd"). -/
def vreg (hi : BitVec 1) (lo : BitVec 4) : Nat := (hi ++ lo).toNat

/-- How many doubleword registers an operand has: two where Q = 1 (rule R196). -/
def regCount (Q : BitVec 1) : Nat := if Q = 1#1 then 2 else 1

/-- A register number with its lowest bit set (rule R196). -/
def odd (a : Nat) : Bool := a % 2 == 1

/-- A quadword operand with an odd register number, which makes the instruction UNDEFINED (rules R27, R196). -/
def oddQuad (Q : BitVec 1) (a : Nat) : Bool := Q == 1#1 && odd a

/-- The lane width in bits, 8 << size (rule R196). -/
def esize (size : BitVec 2) : Nat := 8 <<< size.toNat

/-- size = 11: 64-bit lanes, which only a few rows allow (rule R196). -/
def size64 (size : BitVec 2) : Bool := size == 0b11#2

/-- No lanes of 16 or 32 bits: the doubling multiplies have no others (notes/assumptions/11.md). -/
def notDoubling (size : BitVec 2) : Bool := size == 0b00#2 || size == 0b11#2

/-- The lane width of a floating-point row: 16 bits where the low bit of `size` selects half precision, else 32
(rule R196). -/
def fpSize (half : Bool) : Nat := if half then 16 else 32

/-- The bit `u` selects the unsigned form (rules R196, R320). -/
def isSet (u : BitVec 1) : Bool := u == 1#1

end Machine

open Machine

/-- d = D:Vd (rule R196). -/
def FThreeSame.d (f : FThreeSame) : Nat := vreg f.D f.Vd
/-- n = N:Vn (rule R196). -/
def FThreeSame.n (f : FThreeSame) : Nat := vreg f.N f.Vn
/-- m = M:Vm (rule R196). -/
def FThreeSame.m (f : FThreeSame) : Nat := vreg f.M f.Vm
/-- size<0> = 1 selects half precision (rule R196). -/
def FThreeSame.half (f : FThreeSame) : Bool := f.size.getLsbD 0

/-- d = D:Vd (rule R265). -/
def FTwoRegMisc.d (f : FTwoRegMisc) : Nat := vreg f.D f.Vd
/-- m = M:Vm (rule R265). -/
def FTwoRegMisc.m (f : FTwoRegMisc) : Nat := vreg f.M f.Vm

/-- d = D:Vd (rule R265). -/
def FDup.d (f : FDup) : Nat := vreg f.D f.Vd
/-- m = M:Vm (rule R265). -/
def FDup.m (f : FDup) : Nat := vreg f.M f.Vm
/-- The lane width of VDUP: 8 for xxx1, 16 for xx10, 32 for x100 (rule R265). -/
def FDup.esize (f : FDup) : Nat :=
  if f.imm4.getLsbD 0 then 8 else if f.imm4.getLsbD 1 then 16 else 32
/-- The lane index of VDUP: imm4<3:1>, imm4<3:2> or imm4<3> (rule R265). -/
def FDup.index (f : FDup) : Nat :=
  if f.imm4.getLsbD 0 then f.imm4.toNat / 2 else if f.imm4.getLsbD 1 then f.imm4.toNat / 4 else f.imm4.toNat / 8

/-- d = D:Vd (rule R320). -/
def FThreeDiff.d (f : FThreeDiff) : Nat := vreg f.D f.Vd
/-- n = N:Vn (rule R320). -/
def FThreeDiff.n (f : FThreeDiff) : Nat := vreg f.N f.Vn
/-- m = M:Vm (rule R320). -/
def FThreeDiff.m (f : FThreeDiff) : Nat := vreg f.M f.Vm

/-- d = D:Vd (rule R320). -/
def FTwoRegScalar.d (f : FTwoRegScalar) : Nat := vreg f.D f.Vd
/-- n = N:Vn (rule R320). -/
def FTwoRegScalar.n (f : FTwoRegScalar) : Nat := vreg f.N f.Vn
/-- The register of the scalar: Vm<2:0> for size = 01, Vm for size = 10 (rule R320). -/
def FTwoRegScalar.m (f : FTwoRegScalar) : Nat := if f.size = 0b01#2 then f.Vm.toNat % 8 else f.Vm.toNat
/-- The lane index of the scalar: M:Vm<3> for size = 01, M for size = 10 (rule R320). -/
def FTwoRegScalar.index (f : FTwoRegScalar) : Nat :=
  if f.size = 0b01#2 then 2 * f.M.toNat + f.Vm.toNat / 8 else f.M.toNat

/-- d = D:Vd (rule R196). -/
def FOneRegImm.d (f : FOneRegImm) : Nat := vreg f.D f.Vd
/-- abcdefgh = i:imm3:imm4 (rule R375). -/
def FOneRegImm.imm8 (f : FOneRegImm) : BitVec 8 := f.i ++ f.imm3 ++ f.imm4

/-- d = D:Vd (rule R196). -/
def FTwoRegShift.d (f : FTwoRegShift) : Nat := vreg f.D f.Vd
/-- m = M:Vm (rule R196). -/
def FTwoRegShift.m (f : FTwoRegShift) : Nat := vreg f.M f.Vm
/-- imm6 = imm3H:imm3L (rule R375). -/
def FTwoRegShift.imm6 (f : FTwoRegShift) : Nat := (f.imm3H ++ f.imm3L).toNat
/-- The lane width by the leading one of L:imm3H:imm3L (rule R375); the narrow width in the rows that narrow or
lengthen. -/
def FTwoRegShift.esize (f : FTwoRegShift) : Nat :=
  if f.L = 1#1 then 64 else if f.imm3H.getLsbD 2 then 32 else if f.imm3H.getLsbD 1 then 16 else 8
/-- The amount of a right shift: 64 - imm6 where L = 1, else 2 * esize - imm6 (rule R375). -/
def FTwoRegShift.right (f : FTwoRegShift) : Nat := if f.L = 1#1 then 64 - f.imm6 else 2 * f.esize - f.imm6
/-- The amount of a left shift: imm6 where L = 1, else imm6 - esize (rule R375). -/
def FTwoRegShift.left (f : FTwoRegShift) : Nat := if f.L = 1#1 then f.imm6 else f.imm6 - f.esize

/-- d = D:Vd (rule R425). -/
def FLdStMult.d (f : FLdStMult) : Nat := vreg f.D f.Vd
/-- d = D:Vd (rule R425). -/
def FLdStAll.d (f : FLdStAll) : Nat := vreg f.D f.Vd
/-- d = D:Vd (rule R425). -/
def FLdStOne.d (f : FLdStOne) : Nat := vreg f.D f.Vd

namespace Machine

/-- A 32-bit lane value in both lanes of a doubleword. -/
def twice32 (x : BitVec 32) : DWord := x ++ x

/-- A 16-bit lane value in the four lanes of a doubleword. -/
def four16 (x : BitVec 16) : DWord := x ++ x ++ x ++ x

/-- A byte in the eight lanes of a doubleword. -/
def eight8 (x : BitVec 8) : DWord := x ++ x ++ x ++ x ++ x ++ x ++ x ++ x

/-- Eight copies of one bit. -/
def byteOfBit (b : Bool) : BitVec 8 := if b then 0xFF#8 else 0x00#8

/-- Each bit of abcdefgh as a byte of eight copies (rule R375, cmode 1110 with op = 1). -/
def bitsToBytes (x : BitVec 8) : DWord :=
  byteOfBit (x.getLsbD 7) ++ byteOfBit (x.getLsbD 6) ++ byteOfBit (x.getLsbD 5) ++ byteOfBit (x.getLsbD 4) ++
    byteOfBit (x.getLsbD 3) ++ byteOfBit (x.getLsbD 2) ++ byteOfBit (x.getLsbD 1) ++ byteOfBit (x.getLsbD 0)

/-- The single-precision constant a:NOT(b):bbbbb:cdefgh:zeros(19) (rule R375, cmode 1111). -/
def fpConstant (x : BitVec 8) : BitVec 32 :=
  x.extractLsb' 7 1 ++ ~~~(x.extractLsb' 6 1) ++ (if x.getLsbD 6 then 0b11111#5 else 0b00000#5) ++
    x.extractLsb' 0 6 ++ 0#19

/-- The modified immediate of rule R375: abcdefgh placed in a 64-bit constant by `cmode` and `op`. -/
def expandImm (cmode : BitVec 4) (op : BitVec 1) (imm8 : BitVec 8) : DWord :=
  if cmode &&& 0b1110#4 = 0b0000#4 then twice32 (0#24 ++ imm8)
  else if cmode &&& 0b1110#4 = 0b0010#4 then twice32 (0#16 ++ imm8 ++ 0#8)
  else if cmode &&& 0b1110#4 = 0b0100#4 then twice32 (0#8 ++ imm8 ++ 0#16)
  else if cmode &&& 0b1110#4 = 0b0110#4 then twice32 (imm8 ++ 0#24)
  else if cmode &&& 0b1110#4 = 0b1000#4 then four16 (0#8 ++ imm8)
  else if cmode &&& 0b1110#4 = 0b1010#4 then four16 (imm8 ++ 0#8)
  else if cmode = 0b1100#4 then twice32 (0#16 ++ imm8 ++ 0xFF#8)
  else if cmode = 0b1101#4 then twice32 (0#8 ++ imm8 ++ 0xFFFF#16)
  else if cmode = 0b1110#4 then (if op = 0#1 then eight8 imm8 else bitsToBytes imm8)
  else twice32 (fpConstant imm8)

/-- Shift(R[Rm], type, imm5) of the register preloads: LSL, LSR, ASR, ROR, and RRX with the carry flag where ROR has
amount 0; an amount of 0 means 32 for LSR and ASR (rule R417). -/
def shiftOperand (type : BitVec 2) (imm5 : BitVec 5) (carry : Bool) (x : Word) : Word :=
  if type = 0b00#2 then x <<< imm5.toNat
  else if type = 0b01#2 then (if imm5 = 0#5 then 0#32 else x >>> imm5.toNat)
  else if type = 0b10#2 then (if imm5 = 0#5 then x.sshiftRight 31 else x.sshiftRight imm5.toNat)
  else if imm5 = 0#5 then BitVec.ofBool carry ++ x.extractLsb' 1 31
  else x.rotateRight imm5.toNat

/-- base + offset where U = 1, base - offset where U = 0 (rule R417). -/
def offsetAddress (U : BitVec 1) (base offset : Word) : Word := if U = 1#1 then base + offset else base - offset

/-- The shareability domain of a barrier (rule R416). -/
inductive Domain where
  | outerShareable | nonShareable | innerShareable | fullSystem
deriving DecidableEq, Repr

/-- The accesses a barrier orders (rule R416). -/
inductive AccessTypes where
  | loads | stores | all
deriving DecidableEq, Repr

/-- The meaning of the `option` field of DMB and DSB; reserved values behave as SY (rule R416). -/
def barrierOption (option : BitVec 4) : Domain × AccessTypes :=
  let domain : Domain :=
    if option.extractLsb' 2 2 = 0b00#2 then .outerShareable
    else if option.extractLsb' 2 2 = 0b01#2 then .nonShareable
    else if option.extractLsb' 2 2 = 0b10#2 then .innerShareable
    else .fullSystem
  if option.extractLsb' 0 2 = 0b01#2 then (domain, .loads)
  else if option.extractLsb' 0 2 = 0b10#2 then (domain, .stores)
  else if option.extractLsb' 0 2 = 0b11#2 then (domain, .all)
  else (.fullSystem, .all)

end Machine

end Sys2Proof
end

