-- ==== Sys2Proof/Config.lean ====
section
/-! DEFINITION. What an implementation fixes (00_scope.md rule R4: P1 to P8) and the free values of the model.
The parameters are plain data that State carries and no step writes, so a statement about every state holds for
every choice of them (notes/assumptions/2.md). -/

namespace Sys2Proof

/-- P8_SB_POLICY (rules R4, R9; 92_eei_decisions.md D8): what a word does whose parenthesised bits differ from the
printed values. -/
inductive SbPolicy where
  /-- Execute the word as its row says. -/
  | ignore
  /-- Stop with `Fault.shouldBeBits`. -/
  | fault
deriving DecidableEq, Repr

/-- The implementation parameters P1 to P8 of rule R4. -/
structure Params where
  /-- P1_HAVE_ARMV8_1: the rows whose Architecture version cell says "Armv8.1". -/
  haveArmv81 : Bool
  /-- P2_HAVE_ASIMD: Advanced SIMD at all. -/
  haveAsimd : Bool
  /-- P3_HAVE_AES. -/
  haveAes : Bool
  /-- P4_HAVE_SHA1. -/
  haveSha1 : Bool
  /-- P5_HAVE_SHA256. -/
  haveSha256 : Bool
  /-- P6_HAVE_FP16: the half-precision forms of the floating-point rows. -/
  haveFp16 : Bool
  /-- P7_HAVE_SB. -/
  haveSb : Bool
  /-- P8_SB_POLICY. -/
  sbPolicy : SbPolicy
deriving DecidableEq, Repr

namespace Config

/-- The parameters a run from `State.reset` has: every feature present (92_eei_decisions.md D12, "Default for all:
true") and the should-be bits ignored, the choice that executes the word (DESIGN CHOICE, notes/assumptions/3.md). -/
def launch : Params where
  haveArmv81 := true
  haveAsimd := true
  haveAes := true
  haveSha1 := true
  haveSha256 := true
  haveFp16 := true
  haveSb := true
  sbPolicy := .ignore

/-- Free value (notes/assumptions/18.md): the content of a doubleword register that an instruction leaves with no stated value,
indexed by the counter `State.freeCount`. It has no body: nothing can be proved of any value of it. -/
opaque freeDWord : Nat → DWord

/-- Free value (notes/assumptions/7.md): as which mode, by its place in the list of rule R24, the machine acts while PSTATE.M
holds a number that rule R24 does not list. It has no body. -/
opaque unlistedMode : BitVec 5 → Fin 9

end Config

end Sys2Proof
end

