-- ==== Sys2Proof/Machine/State.lean ====
section
/-! DEFINITION. The machine's state as plain data (10_state.md), the reasons a step can stop, and the state a run is
launched from. `pc` and the parameters are the spec's normative state (rules R4, R20, R22); every other field is a part of
`rest` that the spec names from general knowledge (rules R21, R23 to R28) and that the semantics of this model reads,
writes or holds. -/

namespace Sys2Proof.Machine

/-- The processor modes the `mode` field can name (rule R24). -/
inductive Mode where
  | usr | fiq | irq | svc | mon | abt | hyp | und | sys
deriving DecidableEq, Repr

/-- The banked copies of R13 (rule R21); System mode uses User's. -/
structure SpBank where
  usr : Word
  fiq : Word
  irq : Word
  svc : Word
  mon : Word
  abt : Word
  hyp : Word
  und : Word
deriving DecidableEq, Repr

/-- The banked copies of R14 (rule R21); System and Hyp mode use User's (notes/assumptions/7.md). -/
structure LrBank where
  usr : Word
  fiq : Word
  irq : Word
  svc : Word
  mon : Word
  abt : Word
  und : Word
deriving DecidableEq, Repr

/-- The saved status registers, one per mode that exceptions enter (rules R445, R448). -/
structure SpsrBank where
  fiq : Word
  irq : Word
  svc : Word
  mon : Word
  abt : Word
  hyp : Word
  und : Word
deriving DecidableEq, Repr

/-- The control state the spec names (rules R24, R25, R27, R41, R42, R445, R447, R472). No instruction of this space
writes any of it. -/
structure Control where
  /-- SCTLR.A: element alignment is checked (rule R42). -/
  sctlrA : Bool
  /-- SCTLR.SED: SETEND is UNDEFINED (rule R41). -/
  sctlrSed : Bool
  /-- SCTLR.EE: the data endianness on exception entry (rule R445). -/
  sctlrEe : Bool
  /-- SCTLR.TE: the instruction set on exception entry (rule R470). -/
  sctlrTe : Bool
  /-- CPACR.cp10: access to the Advanced SIMD unit (rules R27, R472). -/
  cpacrCp10 : BitVec 2
  /-- CPACR.cp11. -/
  cpacrCp11 : BitVec 2
  /-- NSACR.cp10: non-secure access permitted. -/
  nsacrCp10 : Bool
  /-- NSACR.cp11. -/
  nsacrCp11 : Bool
  /-- HCPTR: the use of cp10 is trapped. -/
  hcptrTcp10 : Bool
  /-- HCPTR: the use of cp11 is trapped. -/
  hcptrTcp11 : Bool
  /-- FPEXC.EN: the unit is enabled. -/
  fpexcEn : Bool
  /-- SCR: the non-secure bit, which says whether NSACR and HCPTR apply. -/
  scrNs : Bool
  /-- HCR (rule R447). -/
  hcr : Word
  /-- HSTR (rule R447). -/
  hstr : Word
  /-- VBAR (rule R445). -/
  vbar : Word
  /-- HVBAR (rule R445). -/
  hvbar : Word
  /-- MVBAR (rule R445). -/
  mvbar : Word
  /-- RVBAR (rule R470). -/
  rvbar : Word
deriving DecidableEq, Repr

/-- A region of data memory: its first address and its length in bytes. -/
structure Region where
  base : Nat
  size : Nat
deriving DecidableEq, Repr

/-- Data memory: address and byte pairs in the canonical form of `Memory.wf` (Machine/Ops.lean). An address that is
not listed reads as `Memory.unlisted`. -/
abbrev Memory := List Host.Cell

/-- Instruction memory: address and word pairs; an address that is not listed has no word (rules R26, R51). -/
abbrev InstrMemory := List (Nat × Word)

/-- The state of the machine. -/
structure State where
  /-- The implementation parameters P1 to P8 (rule R4); no step writes them. -/
  params : Params
  /-- The program counter: during a step the address of the instruction being executed (rule R22). -/
  pc : Word
  /-- R0 to R12; in FIQ mode R8 to R12 are those of `rFiq` (rule R21). -/
  r : Vector Word 13
  /-- R8 to R12 of FIQ mode (rule R21). -/
  rFiq : Vector Word 5
  /-- R13 of each mode (rule R21). -/
  sp : SpBank
  /-- R14 of each mode (rule R21). -/
  lr : LrBank
  /-- The saved status registers (rules R445, R448). -/
  spsr : SpsrBank
  /-- CPSR: N, Z, C, V, Q, GE, PAN, E, A, I, F and the mode at the bits rules R23 to R25 give; every other bit is kept. -/
  cpsr : Word
  /-- FPSCR: QC and the cumulative exception flags at the bits rule R23 gives; every other bit is kept. -/
  fpscr : Word
  /-- The Advanced SIMD registers D0 to D31 (rule R27). -/
  d : Vector DWord 32
  /-- The control registers the spec names. -/
  ctl : Control
  /-- The local exclusive monitor: the address a load-exclusive reserved, if any (rule R28). -/
  reservation : Option Word
  /-- The parameter `Fetch` as data (rules R4, R51); no step writes it. -/
  imem : InstrMemory
  /-- Data memory (rules R26, R41). -/
  mem : Memory
  /-- The regions of data memory that are not accessible at EL0, which PSTATE.PAN looks at (rule R25); no step writes it
  (notes/assumptions/25.md). -/
  privRegions : List Region
  /-- The model's own field: how many free values have been used (notes/assumptions/18.md). -/
  freeCount : Nat
deriving DecidableEq, Repr

/-- The tables whose field combinations the source leaves without a row (rule R95). -/
inductive TableId where
  | top | threeSame | twoRegThreeDiff | twoRegMisc | twoRegShift
deriving DecidableEq, Repr

/-- The Data Aborts of vector loads and stores (rule R442). -/
inductive DataAbort where
  /-- The address is not aligned as the instruction asks (rules R42, R425). -/
  | alignment
  /-- A byte that the privilege and PSTATE.PAN do not permit (rule R25). -/
  | permission
deriving DecidableEq, Repr

/-- Why the machine stops with a fault: one of the four reasons of rule R11. A fault ends the run; the state of the
faulting step is the last state, unchanged (rule R445). -/
inductive Fault where
  /-- An UNALLOCATED or gated-off row (rule R441), and an encoding or unit state in which the instruction is UNDEFINED
  (93_implementation_defined.md U9, G4). A vector load or store that takes a Data Abort stops with this reason too, of the
  four the one for a word in whose place the hardware takes an exception, and `abort` then says which (DESIGN CHOICE,
  notes/assumptions/28.md). Safe: the hardware goes on in a handler, the model stops. -/
  | undefinedInstruction (abort : Option DataAbort := none)
  /-- A CONSTRAINED UNPREDICTABLE row (rule R441), and the operands that rules R110 and R425 call CONSTRAINED
  UNPREDICTABLE or UNPREDICTABLE (93_implementation_defined.md U9, "must return a fault for them"). Safe. -/
  | constrainedUnpredictable
  /-- Parenthesised bits that differ, under P8_SB_POLICY = Fault (rule R441). Safe. -/
  | shouldBeBits
  /-- `Fetch(pc)` is none (rule R51). Safe. -/
  | fetchFault
deriving DecidableEq, Repr

/-- Why the model has no meaning for a step (rule R11). -/
inductive Refusal where
  /-- An instruction with no meaning, by its mnemonic: NoSemantics(id) of rule R11. No instruction raises it, since `sem`
  is defined for every id (notes/assumptions/28.md). Safe. -/
  | notModelled (mnemonic : String)
  /-- A word outside w[31:27] = 11110, a misaligned pc, or a successor that does not fit in 32 bits (rules R22,
  R441). Safe. -/
  | outsideScope
  /-- A field combination the source has no row for (rule R441). Safe. -/
  | noRowInSource (table : TableId)
deriving DecidableEq, Repr

/-- The state a run is launched from: pc0 and rest0 of rule R470, none of whose values the spec gives. Every value is
the model's choice, named in notes/assumptions/6.md. -/
def State.reset : State where
  params := Config.launch
  pc := 0#32
  r := Vector.replicate 13 0#32
  rFiq := Vector.replicate 5 0#32
  sp := { usr := 0#32, fiq := 0#32, irq := 0#32, svc := 0#32, mon := 0#32, abt := 0#32, hyp := 0#32, und := 0#32 }
  lr := { usr := 0#32, fiq := 0#32, irq := 0#32, svc := 0#32, mon := 0#32, abt := 0#32, und := 0#32 }
  spsr := { fiq := 0#32, irq := 0#32, svc := 0#32, mon := 0#32, abt := 0#32, hyp := 0#32, und := 0#32 }
  cpsr := 0x000001D3#32
  fpscr := 0#32
  d := Vector.replicate 32 0#64
  ctl :=
    { sctlrA := false, sctlrSed := false, sctlrEe := false, sctlrTe := false
      cpacrCp10 := 0b11#2, cpacrCp11 := 0b11#2
      nsacrCp10 := true, nsacrCp11 := true
      hcptrTcp10 := false, hcptrTcp11 := false
      fpexcEn := true, scrNs := false
      hcr := 0#32, hstr := 0#32, vbar := 0#32, hvbar := 0#32, mvbar := 0#32, rvbar := 0#32 }
  reservation := none
  imem := []
  mem := []
  privRegions := []
  freeCount := 0

end Sys2Proof.Machine
end

