-- ==== Sys2Proof/Machine/Ops.lean ====
section
/-! DEFINITION. The operations that the meanings share: stopping and completing an instruction, data memory, the general
registers, the vector registers and their lanes, and the access check of the Advanced SIMD unit. -/

namespace Sys2Proof.Machine

/-- The outcome of a step (rule R11). -/
abbrev Out := Host.Outcome State Fault Refusal

/-! ## Stopping and completing -/

/-- Taking an exception: the run ends with the fault, and the state the step began with is its last state. There is no
entry and no return (rules R445, R446; 92_eei_decisions.md D14; notes/assumptions/5.md). -/
def raise (r : Fault) : Out := .fault r

/-- The successor of an instruction that is no control transfer: pc + 4, refused where that does not fit in 32 bits
(rules R22, R111, R441). -/
def advance (s : State) : Out :=
  if s.pc.toNat + 4 < 2 ^ 32 then .next { s with pc := s.pc + 4#32 } else .refused .outsideScope

/-! ## Data memory -/

/-- What a byte of data memory reads as that nothing has written (DESIGN CHOICE, notes/assumptions/8.md). -/
def Memory.unlisted : Byte := 0#8

/-- The byte at an address. -/
def Memory.read : Memory → Nat → Byte
  | [], _ => Memory.unlisted
  | c :: rest, a => if c.1 = a then c.2 else Memory.read rest a

/-- Store one byte, keeping the canonical form. -/
def Memory.write : Memory → Nat → Byte → Memory
  | [], a, v => if v = Memory.unlisted then [] else [(a, v)]
  | c :: rest, a, v =>
    if a < c.1 then (if v = Memory.unlisted then c :: rest else (a, v) :: c :: rest)
    else if a = c.1 then (if v = Memory.unlisted then rest else (a, v) :: rest)
    else c :: Memory.write rest a v

/-- The canonical form: addresses strictly rising and below 2^32, no entry equal to what an unlisted address reads as. -/
def Memory.wf : Memory → Bool
  | [] => true
  | c :: rest => c.1 < 2 ^ 32 && c.2 != Memory.unlisted && rest.all (fun x => c.1 < x.1) && Memory.wf rest

/-- The byte of data memory at a 32-bit address. -/
def State.byte (s : State) (a : Word) : Byte := Memory.read s.mem a.toNat

/-- Store one byte of data memory. -/
def State.setByte (s : State) (a : Word) (v : Byte) : State := { s with mem := Memory.write s.mem a.toNat v }

/-- The `n` bytes from an address on; an address past the top continues at 0 (notes/assumptions/9.md). -/
def State.bytes (s : State) (a : Word) (n : Nat) : List Byte :=
  (List.range n).map (fun i => s.byte (a + BitVec.ofNat 32 i))

/-- Store bytes from an address on. -/
def State.setBytes (s : State) (a : Word) : List Byte → State
  | [] => s
  | v :: rest => State.setBytes (s.setByte a v) (a + 1#32) rest

/-- PSTATE.E, CPSR bit 9: data accesses are big-endian (rules R24, R41). -/
def State.bigEndian (s : State) : Bool := s.cpsr.getLsbD 9

/-- The value of `e` bits whose bytes are given, the least significant first. -/
def joinBytes (e : Nat) : List Byte → BitVec e
  | [] => 0
  | b :: rest => b.setWidth e ||| joinBytes e rest <<< 8

/-- The bytes of a value of `e` bits, the least significant first. -/
def splitBytes {e : Nat} (x : BitVec e) : List Byte := (List.range (e / 8)).map (fun i => x.extractLsb' (8 * i) 8)

/-- Bytes in the order of memory for an endianness, from the order of significance (rule R41). -/
def memoryOrder (big : Bool) (bs : List Byte) : List Byte := if big then bs.reverse else bs

/-- MemRead of one element: its bytes in the order PSTATE.E selects (rules R10, R41). -/
def State.readElem (s : State) (e : Nat) (a : Word) : BitVec e :=
  joinBytes e (memoryOrder s.bigEndian (s.bytes a (e / 8)))

/-- MemWrite of one element (rules R10, R41). -/
def State.writeElem {e : Nat} (s : State) (a : Word) (x : BitVec e) : State :=
  s.setBytes a (memoryOrder s.bigEndian (splitBytes x))

/-! ## Modes and general registers -/

/-- The processor mode that a mode field names (rule R24); none for the values the spec does not list. -/
def modeOf (m : BitVec 5) : Option Mode :=
  if m = 0b10000#5 then some .usr
  else if m = 0b10001#5 then some .fiq
  else if m = 0b10010#5 then some .irq
  else if m = 0b10011#5 then some .svc
  else if m = 0b10110#5 then some .mon
  else if m = 0b10111#5 then some .abt
  else if m = 0b11010#5 then some .hyp
  else if m = 0b11011#5 then some .und
  else if m = 0b11111#5 then some .sys
  else none

/-- The modes of rule R24, in its order. -/
def listedModes : List Mode := [.usr, .fiq, .irq, .svc, .mon, .abt, .hyp, .und, .sys]

/-- PSTATE.M, CPSR bits 4 to 0 (rule R24). -/
def State.modeBits (s : State) : BitVec 5 := s.cpsr.extractLsb' 0 5

/-- The mode a mode field makes the machine act in: the one it names, and for a number that rule R24 does not list a free
one of those it lists (DESIGN CHOICE, notes/assumptions/7.md). -/
def actingMode (m : BitVec 5) : Mode := (modeOf m).getD (listedModes.getD (Config.unlistedMode m).val .usr)

/-- The current mode (rule R24). -/
def State.mode (s : State) : Mode := actingMode s.modeBits

/-- The machine runs unprivileged, in User mode (rule R448). -/
def State.unprivileged (s : State) : Bool := s.mode == .usr

/-- PSTATE.PAN, CPSR bit 22: Privileged Access Never (rule R25). -/
def State.privilegedAccessNever (s : State) : Bool := s.cpsr.getLsbD 22

/-- The address lies in the region. -/
def Region.contains (r : Region) (a : Nat) : Bool := decide (r.base ≤ a) && decide (a < r.base + r.size)

/-- The byte of data memory is accessible at EL0, that is in User mode (rules R25, R448; notes/assumptions/25.md). -/
def State.accessibleAtEl0 (s : State) (a : Word) : Bool := !s.privRegions.any (fun r => r.contains a.toNat)

/-- A data access to the byte is permitted: in User mode where it is accessible at EL0, and in a privileged mode but where
PSTATE.PAN is 1 and it is accessible at EL0 (rule R25; notes/assumptions/25.md). -/
def State.permits (s : State) (a : Word) : Bool :=
  if s.unprivileged then s.accessibleAtEl0 a else !(s.privilegedAccessNever && s.accessibleAtEl0 a)

/-- A data access to `n` bytes from an address on is permitted. -/
def State.permitsBytes (s : State) (a : Word) (n : Nat) : Bool :=
  (List.range n).all (fun i => s.permits (a + BitVec.ofNat 32 i))

/-- The R13 a mode uses (rule R21). -/
def SpBank.get (b : SpBank) : Mode → Word
  | .usr => b.usr | .sys => b.usr | .fiq => b.fiq | .irq => b.irq | .svc => b.svc | .mon => b.mon
  | .abt => b.abt | .hyp => b.hyp | .und => b.und

/-- Write the R13 a mode uses. -/
def SpBank.set (b : SpBank) (m : Mode) (v : Word) : SpBank :=
  match m with
  | .usr => { b with usr := v } | .sys => { b with usr := v } | .fiq => { b with fiq := v }
  | .irq => { b with irq := v } | .svc => { b with svc := v } | .mon => { b with mon := v }
  | .abt => { b with abt := v } | .hyp => { b with hyp := v } | .und => { b with und := v }

/-- The R14 a mode uses (rule R21; notes/assumptions/7.md). -/
def LrBank.get (b : LrBank) : Mode → Word
  | .usr => b.usr | .sys => b.usr | .hyp => b.usr | .fiq => b.fiq | .irq => b.irq | .svc => b.svc
  | .mon => b.mon | .abt => b.abt | .und => b.und

/-- Write the R14 a mode uses. -/
def LrBank.set (b : LrBank) (m : Mode) (v : Word) : LrBank :=
  match m with
  | .usr => { b with usr := v } | .sys => { b with usr := v } | .hyp => { b with usr := v }
  | .fiq => { b with fiq := v } | .irq => { b with irq := v } | .svc => { b with svc := v }
  | .mon => { b with mon := v } | .abt => { b with abt := v } | .und => { b with und := v }

/-- General register `n` in the current mode; R15 reads as the address of the instruction plus 8 (rule R21). Where that
does not fit in 32 bits the spec is silent and the model wraps, which no next state depends on (DESIGN CHOICE,
notes/assumptions/27.md). -/
def State.readReg (s : State) (n : BitVec 4) : Word :=
  if n = 15#4 then s.pc + 8#32
  else if n = 14#4 then s.lr.get s.mode
  else if n = 13#4 then s.sp.get s.mode
  else if s.mode = .fiq ∧ 8 ≤ n.toNat then s.rFiq.toArray.getD (n.toNat - 8) 0#32
  else s.r.toArray.getD n.toNat 0#32

/-- Write general register `n` in the current mode. R15 is written by no instruction of this space: the write is
discarded (rules R21, R111). -/
def State.writeReg (s : State) (n : BitVec 4) (v : Word) : State :=
  if n = 15#4 then s
  else if n = 14#4 then { s with lr := s.lr.set s.mode v }
  else if n = 13#4 then { s with sp := s.sp.set s.mode v }
  else if s.mode = .fiq ∧ 8 ≤ n.toNat then { s with rFiq := s.rFiq.setIfInBounds (n.toNat - 8) v }
  else { s with r := s.r.setIfInBounds n.toNat v }

/-- The carry flag, CPSR bit 29, which RRX reads (rules R23, R417). -/
def State.carry (s : State) : Bool := s.cpsr.getLsbD 29

/-! ## Vector registers -/

/-- Doubleword register `n` (rule R27). -/
def State.readD (s : State) (n : Nat) : DWord := s.d.toArray.getD n 0#64

/-- Write doubleword register `n` (rule R27). -/
def State.writeD (s : State) (n : Nat) (v : DWord) : State := { s with d := s.d.setIfInBounds n v }

/-- The quadword register whose lower half is doubleword register `n` (rule R27, "Qk = D(2k+1):D(2k)"). -/
def State.readQ (s : State) (n : Nat) : QWord := s.readD (n + 1) ++ s.readD n

/-- Write the quadword register whose lower half is doubleword register `n`. -/
def State.writeQ (s : State) (n : Nat) (v : QWord) : State :=
  (s.writeD n (v.extractLsb' 0 64)).writeD (n + 1) (v.extractLsb' 64 64)

/-- Lane `i` of a doubleword, lane 0 in the least significant bits (rule R27). -/
def lane (e : Nat) (x : DWord) (i : Nat) : BitVec e := x.extractLsb' (i * e) e

/-- The doubleword whose lanes are given, lane 0 in the least significant bits. -/
def packLanes (e : Nat) : List (BitVec e) → DWord
  | [] => 0
  | x :: rest => x.setWidth 64 ||| packLanes e rest <<< e

/-- Lane `j` of the operand whose first doubleword register is `first`: the lanes count on from one register to the next
(rules R27, R196). -/
def State.laneAt (s : State) (e first j : Nat) : BitVec e := lane e (s.readD (first + j / (64 / e))) (j % (64 / e))

/-- The lanes of `count` consecutive doubleword registers, in rising order (rules R27, R196). -/
def State.readLanes (s : State) (e first count : Nat) : List (BitVec e) :=
  (List.range (count * (64 / e))).map (s.laneAt e first)

/-- Write `count` consecutive doubleword registers with lanes in rising order. -/
def State.writeLanes (s : State) (e first : Nat) : Nat → List (BitVec e) → State
  | 0, _ => s
  | count + 1, xs =>
    State.writeLanes (s.writeD first (packLanes e (xs.take (64 / e)))) e (first + 1) count (xs.drop (64 / e))

/-- Set bits of FPSCR; the flags of this space are cumulative (rule R23). -/
def State.setFlags (s : State) (fl : Flags) : State := { s with fpscr := s.fpscr ||| fl }

/-- Write the lanes of a result and set the flags they raise. -/
def State.putLanes (s : State) {e : Nat} (first count : Nat) (xs : List (Lane e)) : State :=
  (s.writeLanes e first count (xs.map Prod.fst)).setFlags (laneFlags xs)

/-- Write the doubleword `g k` into register `first + k`, for each `k` below `count`. -/
def State.putD (s : State) (first : Nat) (g : Nat → DWord) : Nat → State
  | 0 => s
  | count + 1 => (State.putD s first g count).writeD (first + count) (g count)

/-- One operand: each lane of the source gives the lane of the destination. Every source lane is read before any
destination lane is written (rule R196). -/
def unary {a o : Nat} (op : BitVec a → Lane o) (d dCount m mCount : Nat) (s : State) : State :=
  s.putLanes d dCount ((s.readLanes a m mCount).map op)

/-- Two operands, lane by lane (rule R196). -/
def binary {a b o : Nat} (op : BitVec a → BitVec b → Lane o) (d dCount n nCount m mCount : Nat) (s : State) : State :=
  s.putLanes d dCount (List.zipWith op (s.readLanes a n nCount) (s.readLanes b m mCount))

/-- The destination and one operand, lane by lane (rule R196). -/
def accumulateOne {a o : Nat} (op : BitVec o → BitVec a → Lane o) (d dCount m mCount : Nat) (s : State) : State :=
  s.putLanes d dCount (List.zipWith op (s.readLanes o d dCount) (s.readLanes a m mCount))

/-- The destination and two operands, lane by lane (rule R196). -/
def accumulate {a b o : Nat} (op : BitVec o → BitVec a → BitVec b → Lane o) (d dCount n nCount m mCount : Nat)
    (s : State) : State :=
  s.putLanes d dCount
    (List.zipWith (fun acc ab => op acc ab.1 ab.2) (s.readLanes o d dCount)
      (List.zip (s.readLanes a n nCount) (s.readLanes b m mCount)))

/-- The adjacent pairs of a list. -/
def pairs {α : Type} : List α → List (α × α)
  | x :: y :: rest => (x, y) :: pairs rest
  | _ => []

/-- The next free value (notes/assumptions/18.md), for the register `k` places on in one instruction. -/
def State.free (s : State) (k : Nat) : DWord := Config.freeDWord (s.freeCount + k)

/-- `n` registers from `first` on get free values, and the counter moves on. -/
def State.putFree (s : State) (first n : Nat) : State :=
  { s.putD first (fun k => s.free k) n with freeCount := s.freeCount + n }

/-! ## Access to the Advanced SIMD unit -/

/-- A CPACR field permits the access: 11 always, 01 when privileged (PRESUMED, notes/assumptions/12.md). -/
def cpacrPermits (field : BitVec 2) (unprivileged : Bool) : Bool :=
  field == 0b11#2 || (field == 0b01#2 && !unprivileged)

/-- The Advanced SIMD registers can be accessed: CPACR permits it, NSACR and HCPTR do where the machine is non-secure,
and FPEXC.EN is 1 (rules R27, R472; notes/assumptions/12.md). -/
def State.simdEnabled (s : State) : Bool :=
  cpacrPermits s.ctl.cpacrCp10 s.unprivileged && cpacrPermits s.ctl.cpacrCp11 s.unprivileged &&
    (!s.ctl.scrNs || (s.ctl.nsacrCp10 && s.ctl.nsacrCp11 && !s.ctl.hcptrTcp10 && !s.ctl.hcptrTcp11)) &&
    s.ctl.fpexcEn

/-- An Advanced SIMD instruction: UNDEFINED where its encoding or the disabled unit makes it so (rules R27, R442;
93_implementation_defined.md U9), else its effect `k` and the next instruction. -/
def simdOp (undef : Bool) (k : State → State) (s : State) : Out :=
  if undef || !s.simdEnabled then raise .undefinedInstruction else advance (k s)

/-! ## Process state, barriers and preloads -/

/-- Write one bit of CPSR. -/
def setCpsrBit (cpsr : Word) (i : Nat) (v : Bool) : Word :=
  if v then cpsr ||| (1#32 <<< i) else cpsr &&& ~~~(1#32 <<< i)

/-- Write the mode field of CPSR (rule R24). -/
def setCpsrMode (cpsr : Word) (m : BitVec 5) : Word := cpsr.extractLsb' 5 27 ++ m

/-- The CPSR with the selected A, I, F masks set to `v` (rules R24, R110). -/
def setCpsrMasks (cpsr : Word) (a i f v : Bool) : Word :=
  let c := if a then setCpsrBit cpsr 8 v else cpsr
  let c := if i then setCpsrBit c 7 v else c
  if f then setCpsrBit c 6 v else c

/-- A barrier: with one agent whose every step is complete before the next begins it orders nothing that could be
seen (rules R416, R473; 92_eei_decisions.md D13; notes/assumptions/19.md). -/
def barrier (_ordered : Domain × AccessTypes) (s : State) : State := s

/-- A speculation or pipeline barrier: nothing it constrains is state (rules R28, R416). -/
def speculationBarrier (s : State) : State := s

/-- A preload of the line at an address: it changes no register, memory location or flag and raises no abort
(rules R28, R417; notes/assumptions/19.md). -/
def preload (_address : Word) (s : State) : State := s

/-- CLREX: the local exclusive monitor is cleared (rules R28, R386). -/
def clearMonitor (s : State) : State := { s with reservation := none }

/-- The address of a preload (immediate): R[Rn] plus or minus imm12, with the word-aligned pc + 8
where Rn = 1111 (rule R417). An address or a pc + 8 that does not fit in 32 bits wraps (DESIGN CHOICE,
notes/assumptions/27.md). -/
def State.preloadImmAddress (s : State) (f : FPldImm) : Word :=
  let base := if f.Rn = 15#4 then (s.pc + 8#32) &&& ~~~3#32 else s.readReg f.Rn
  offsetAddress f.U base (f.imm12.setWidth 32)

/-- The address of a preload (register): R[Rn] plus or minus Shift(R[Rm], type, imm5) (rule R417); it wraps as that of a
preload (immediate). -/
def State.preloadRegAddress (s : State) (f : FPldReg) : Word :=
  offsetAddress f.U (s.readReg f.Rn) (shiftOperand f.type f.imm5 s.carry (s.readReg f.Rm))

end Sys2Proof.Machine
end

