-- ==== Sys2Proof/Machine/CryptoRows.lean ====
section
/-! DEFINITION. The meanings of the AES, SHA1 and SHA256 rows (41_asimd_three_same.md rules R131 to R183,
42_asimd_two_reg_misc.md rules R205 to R208, R224, R232, R233). They work on whole 128-bit registers (rules R196, R265). -/

namespace Sys2Proof.Machine

/-- A SHA row of "three registers of the same length": Q = 1 and even register numbers (rule R196). -/
def threeSameSha (f : FThreeSame) (op : QWord → QWord → QWord → QWord) (s : State) : Out :=
  simdOp (!isSet f.Q || odd f.d || odd f.n || odd f.m)
    (fun s => s.writeQ f.d (op (s.readQ f.d) (s.readQ f.n) (s.readQ f.m))) s

/-- An AES or SHA row of "two registers misc": one size (`size`) and even register numbers (rule R265). -/
def twoRegSha (f : FTwoRegMisc) (size : BitVec 2) (op : QWord → QWord → QWord) (s : State) : Out :=
  simdOp (f.size != size || odd f.d || odd f.m) (fun s => s.writeQ f.d (op (s.readQ f.d) (s.readQ f.m))) s

/-- SHA1C (rule R131). -/
def execSha1c (f : FThreeSame) (s : State) : Out := threeSameSha f (sha1Update shaChoose) s

/-- SHA1P (rule R137). -/
def execSha1p (f : FThreeSame) (s : State) : Out := threeSameSha f (sha1Update shaParity) s

/-- SHA1M (rule R152). -/
def execSha1m (f : FThreeSame) (s : State) : Out := threeSameSha f (sha1Update shaMajority) s

/-- SHA1SU0 (rule R159). -/
def execSha1su0 (f : FThreeSame) (s : State) : Out := threeSameSha f sha1Schedule0 s

/-- SHA256H (rule R168). -/
def execSha256h (f : FThreeSame) (s : State) : Out := threeSameSha f sha256Hash1 s

/-- SHA256H2 (rule R172). -/
def execSha256h2 (f : FThreeSame) (s : State) : Out := threeSameSha f sha256Hash2 s

/-- SHA256SU1 (rule R183). -/
def execSha256su1 (f : FThreeSame) (s : State) : Out := threeSameSha f sha256Schedule1 s

/-- AESE (rule R205). -/
def execAese (f : FTwoRegMisc) (s : State) : Out := twoRegSha f 0b00#2 aesEncrypt s

/-- AESD (rule R206). -/
def execAesd (f : FTwoRegMisc) (s : State) : Out := twoRegSha f 0b00#2 aesDecrypt s

/-- AESMC (rule R207). -/
def execAesmc (f : FTwoRegMisc) (s : State) : Out := twoRegSha f 0b00#2 (fun _ m => aesMixColumns m) s

/-- AESIMC (rule R208). -/
def execAesimc (f : FTwoRegMisc) (s : State) : Out := twoRegSha f 0b00#2 (fun _ m => aesInvMixColumns m) s

/-- SHA1H (rule R224). -/
def execSha1h (f : FTwoRegMisc) (s : State) : Out := twoRegSha f 0b10#2 (fun _ m => sha1FixedRotate m) s

/-- SHA1SU1 (rule R232). -/
def execSha1su1 (f : FTwoRegMisc) (s : State) : Out := twoRegSha f 0b10#2 sha1Schedule1 s

/-- SHA256SU0 (rule R233). -/
def execSha256su0 (f : FTwoRegMisc) (s : State) : Out := twoRegSha f 0b10#2 sha256Schedule0 s

end Sys2Proof.Machine
end

