-- ==== Sys2Proof/Machine/Hints.lean ====
section
/-! DEFINITION. The barriers, the preloads and the reserved hints (45_hints_barriers.md rules R386 to R417). -/

namespace Sys2Proof.Machine

/-- CLREX (rule R386). Rule R416 calls `option` should-be-1111 and gives a word with another value no effect of its own: the
model executes it under both values of P8 (DESIGN CHOICE, notes/assumptions/19.md). -/
def execClrex (_f : FBarrier) (s : State) : Out := advance (clearMonitor s)

/-- DSB (rules R387, R416). -/
def execDsb (f : FBarrier) (s : State) : Out := advance (barrier (barrierOption f.option) s)

/-- SSBB (rules R388, R416). -/
def execSsbb (_f : FBarrier) (s : State) : Out := advance (speculationBarrier s)

/-- PSSBB (rules R389, R416). -/
def execPssbb (_f : FBarrier) (s : State) : Out := advance (speculationBarrier s)

/-- DMB (rules R390, R416). -/
def execDmb (f : FBarrier) (s : State) : Out := advance (barrier (barrierOption f.option) s)

/-- ISB (rules R391, R416). Rule R416 names only `option` = 1111; the model executes every value under both values of P8
(DESIGN CHOICE, notes/assumptions/19.md). -/
def execIsb (_f : FBarrier) (s : State) : Out := advance (speculationBarrier s)

/-- SB (rules R392, R416). Rule R416 calls `option` should-be-0000 and gives a word with another value no effect of its own:
the model executes it under both values of P8 (DESIGN CHOICE, notes/assumptions/19.md). -/
def execSb (_f : FBarrier) (s : State) : Out := advance (speculationBarrier s)

/-- "Reserved hint, behaves as NOP" of the preloads (immediate) (rule R405). -/
def execReservedHintNopPldImm (_f : FPldImm) (s : State) : Out := advance s

/-- PLI (immediate, literal) (rules R401, R417). -/
def execPliImmLit (f : FPldImm) (s : State) : Out := advance (preload (s.preloadImmAddress f) s)

/-- PLD (literal) (rules R402, R417). -/
def execPldLit (f : FPldImm) (s : State) : Out := advance (preload (s.preloadImmAddress f) s)

/-- PLDW (immediate) (rules R403, R417). -/
def execPldwImm (f : FPldImm) (s : State) : Out := advance (preload (s.preloadImmAddress f) s)

/-- PLD (immediate) (rules R404, R417). -/
def execPldImm (f : FPldImm) (s : State) : Out := advance (preload (s.preloadImmAddress f) s)

/-- "Reserved hint, behaves as NOP" of the preloads (register) (rule R414). -/
def execReservedHintNopPldReg (_f : FPldReg) (s : State) : Out := advance s

/-- PLI (register) (rules R411, R417). -/
def execPliReg (f : FPldReg) (s : State) : Out := advance (preload (s.preloadRegAddress f) s)

/-- PLDW (register) (rules R412, R417). -/
def execPldwReg (f : FPldReg) (s : State) : Out := advance (preload (s.preloadRegAddress f) s)

/-- PLD (register) (rules R413, R417). -/
def execPldReg (f : FPldReg) (s : State) : Out := advance (preload (s.preloadRegAddress f) s)

end Sys2Proof.Machine
end

