-- ==== Sys2Proof/Machine/LoadStore.lean ====
section
/-! DEFINITION. The three load/store classes: VLD1 to VLD4 and VST1 to VST4 (46_asimd_load_store.md rules R421 to R425;
93_implementation_defined.md G9 to G11; 20_memory.md rules R41, R42). Where rule R425 is shorter than the member tables they
are the family's (PRESUMED, notes/assumptions/20.md). -/

namespace Sys2Proof.Machine

/-- What a load or store moves: the width of an element in bits, the alignment in bytes that the encoding asks for (1 for
none), and for each element in rising address order the lanes (register, lane) it is loaded into or, the first of them,
stored from. -/
structure Transfer where
  e : Nat
  align : Nat
  elems : List (List (Nat × Nat))
deriving DecidableEq, Repr

/-- The members of "multiple structures" by `type`: elements per structure, registers per element of the structure, and
register spacing (rule R425; notes/assumptions/20.md). -/
def multForm (type : BitVec 4) : Option (Nat × Nat × Nat) :=
  if type = 0b0000#4 then some (4, 1, 1)
  else if type = 0b0001#4 then some (4, 1, 2)
  else if type = 0b0010#4 then some (1, 4, 1)
  else if type = 0b0011#4 then some (2, 2, 2)
  else if type = 0b0100#4 then some (3, 1, 1)
  else if type = 0b0101#4 then some (3, 1, 2)
  else if type = 0b0110#4 then some (1, 3, 1)
  else if type = 0b0111#4 then some (1, 1, 1)
  else if type = 0b1000#4 then some (2, 1, 1)
  else if type = 0b1001#4 then some (2, 1, 2)
  else if type = 0b1010#4 then some (1, 2, 1)
  else none

/-- The member does not allow this `size` or `align` (notes/assumptions/20.md). -/
def multUndef (f : FLdStMult) (structure' registers : Nat) : Bool :=
  (structure' != 1 && f.size == 0b11#2) ||
    (structure' == 1 && registers == 1 && f.align.getLsbD 1) ||
    (structure' == 1 && registers == 2 && f.align == 0b11#2) ||
    (structure' == 1 && registers == 3 && f.align.getLsbD 1) ||
    (structure' == 2 && registers == 1 && f.align == 0b11#2) ||
    (structure' == 3 && f.align.getLsbD 1)

/-- The lanes of "multiple structures" in rising address order: for each register and each lane, one element into each
register of the structure (rule R425, "de-interleaved across n registers"). -/
def multLanes (d e structure' registers spacing : Nat) : List (List (Nat × Nat)) :=
  (List.range registers).flatMap (fun r =>
    (List.range (64 / e)).flatMap (fun i =>
      (List.range structure').map (fun k => [(d + r + k * spacing, i)])))

/-- "Load/store multiple structures"; none where it is UNDEFINED (rules R421, R425). -/
def multTransfer (f : FLdStMult) : Option Transfer :=
  match multForm f.type with
  | none => none
  | some (n, regs, inc) =>
    if multUndef f n regs then none
    else some
      { e := esize f.size
        align := if f.align = 0b00#2 then 1 else 4 <<< f.align.toNat
        elems := multLanes f.d (esize f.size) n regs inc }

/-- Every lane of `regs` registers from `d` on. -/
def allLanes (d e regs : Nat) : List (Nat × Nat) :=
  (List.range regs).flatMap (fun r => (List.range (64 / e)).map (fun i => (d + r, i)))

/-- "Load single structure to all lanes"; none where it is UNDEFINED, which L = 0 is (rules R422, R425). Its elements have
8 << size bits, so those of VLD4 with size = 11 and a = 1 have 64 (rule R425); the alignments and the sizes that are
UNDEFINED are PRESUMED (notes/assumptions/20.md). -/
def allTransfer (f : FLdStAll) : Option Transfer :=
  let e := esize f.size
  let inc := f.T.toNat + 1
  let spread (n : Nat) : List (List (Nat × Nat)) := (List.range n).map (fun k => allLanes (f.d + k * inc) e 1)
  if f.L = 0#1 then none
  else if f.N = 0b00#2 then
    if f.size = 0b11#2 ∨ (f.size = 0b00#2 ∧ f.a = 1#1) then none
    else some { e := e, align := if f.a = 1#1 then e / 8 else 1, elems := [allLanes f.d e inc] }
  else if f.N = 0b01#2 then
    if f.size = 0b11#2 then none
    else some { e := e, align := if f.a = 1#1 then 2 * (e / 8) else 1, elems := spread 2 }
  else if f.N = 0b10#2 then
    if f.size = 0b11#2 ∨ f.a = 1#1 then none
    else some { e := e, align := 1, elems := spread 3 }
  else if f.size = 0b11#2 ∧ f.a = 0#1 then none
  else
    some
      { e := e
        align := if f.a = 0#1 then 1 else if f.size = 0b10#2 then 8 else 4 * (e / 8)
        elems := spread 4 }

/-- The lane index of "one lane": index_align<3:1>, <3:2> or <3> by size (rule R425). -/
def oneIndex (f : FLdStOne) : Nat := f.index_align.toNat / 2 ^ (f.size.toNat + 1)

/-- The register spacing of "one lane": 2 where index_align has the bit below the index set, for 16 and 32-bit elements
(rule R425; notes/assumptions/20.md). -/
def oneSpacing (f : FLdStOne) : Nat :=
  if f.size = 0b01#2 ∧ f.index_align.getLsbD 1 then 2
  else if f.size = 0b10#2 ∧ f.index_align.getLsbD 2 then 2
  else 1

/-- The bits of index_align below the index and spacing that are UNDEFINED for a member (notes/assumptions/20.md). -/
def oneUndef (f : FLdStOne) : Bool :=
  let ia := f.index_align
  let low := ia.extractLsb' 0 2
  if f.N = 0b00#2 then
    if f.size = 0b00#2 then ia.getLsbD 0
    else if f.size = 0b01#2 then ia.getLsbD 1
    else ia.getLsbD 2 || (low != 0b00#2 && low != 0b11#2)
  else if f.N = 0b01#2 then f.size == 0b10#2 && ia.getLsbD 1
  else if f.N = 0b10#2 then (if f.size = 0b10#2 then low != 0b00#2 else ia.getLsbD 0)
  else f.size == 0b10#2 && low == 0b11#2

/-- The alignment "one lane" asks for: its low bits of index_align select the size of the structure, 16 bytes being
possible for four words (rule R42; notes/assumptions/20.md). -/
def oneAlign (f : FLdStOne) : Nat :=
  let e := esize f.size / 8
  let low := f.index_align.extractLsb' 0 2
  if f.N = 0b00#2 then
    if f.size = 0b00#2 then 1
    else if f.size = 0b01#2 then (if f.index_align.getLsbD 0 then 2 else 1)
    else if low = 0b00#2 then 1 else 4
  else if f.N = 0b01#2 then (if f.index_align.getLsbD 0 then 2 * e else 1)
  else if f.N = 0b10#2 then 1
  else if f.size = 0b10#2 then (if low = 0b00#2 then 1 else 4 <<< low.toNat)
  else if f.index_align.getLsbD 0 then 4 * e else 1

/-- "Load/store single structure to one lane"; none where it is UNDEFINED, which size = 11 is: those words are the class
of all lanes (rules R423, R425). -/
def oneTransfer (f : FLdStOne) : Option Transfer :=
  if f.size = 0b11#2 ∨ oneUndef f then none
  else some
    { e := esize f.size
      align := oneAlign f
      elems := (List.range (f.N.toNat + 1)).map (fun k => [(f.d + k * oneSpacing f, oneIndex f)]) }

/-- A doubleword with one lane replaced. -/
def setLane {e : Nat} (x : DWord) (i : Nat) (v : BitVec e) : DWord :=
  (x &&& ~~~((BitVec.allOnes e).setWidth 64 <<< (i * e))) ||| v.setWidth 64 <<< (i * e)

/-- One element into each of the lanes given. -/
def State.setLanes (s : State) {e : Nat} (v : BitVec e) : List (Nat × Nat) → State
  | [] => s
  | t :: rest => State.setLanes (s.writeD t.1 (setLane (s.readD t.1) t.2 v)) v rest

/-- Load elements from an address on (rule R425, "in increasing address order"). -/
def State.loadElems (s : State) (e : Nat) (a : Word) : List (List (Nat × Nat)) → State
  | [] => s
  | ts :: rest => State.loadElems (s.setLanes (s.readElem e a) ts) e (a + BitVec.ofNat 32 (e / 8)) rest

/-- The doubleword a store reads as register `n`; a number past D31 names no register and reads as a free value (DESIGN
CHOICE, notes/assumptions/20.md). -/
def State.sourceD (s : State) (n : Nat) : DWord := if n < 32 then s.readD n else s.free (n - 32)

/-- Store elements from an address on, each from the first of its lanes. -/
def State.storeElems (s : State) (e : Nat) (a : Word) : List (List (Nat × Nat)) → State
  | [] => s
  | ts :: rest =>
    let t := ts.headD (0, 0)
    State.storeElems (s.writeElem a (lane e (s.sourceD t.1) t.2)) e (a + BitVec.ofNat 32 (e / 8)) rest

/-- How many bytes a transfer moves. -/
def Transfer.bytes (t : Transfer) : Nat := t.e / 8 * t.elems.length

/-- The list of registers has one of this number. -/
def Transfer.names (t : Transfer) (n : Nat) : Bool := t.elems.any (fun ts => ts.any (fun x => x.1 == n))

/-- A register of the list past D31 (notes/assumptions/20.md). -/
def Transfer.pastD31 (t : Transfer) : Bool := t.elems.any (fun ts => ts.any (fun x => 31 < x.1))

/-- What a load leaves in the registers that the numbers past D31 name modulo 32: register `k` of the first `n` gets a
free value where the list has number 32 + k (DESIGN CHOICE, notes/assumptions/20.md). -/
def State.freePastD31 (s : State) (t : Transfer) : Nat → State
  | 0 => s
  | k + 1 =>
    let s' := State.freePastD31 s t k
    if t.names (32 + k) then s'.writeD k (s.free k) else s'

/-- The counter of free values after a transfer: a list that goes past D31 has used the next eight. -/
def Transfer.freeUsed (t : Transfer) : Nat := if t.pastD31 then 8 else 0

/-- The alignment in bytes that an address must have: what the encoding asks for, else the element's size where
SCTLR.A = 1 (rule R42). -/
def Transfer.required (t : Transfer) (s : State) : Nat :=
  if t.align ≠ 1 then t.align else if s.ctl.sctlrA then t.e / 8 else 1

/-- The base-register update: none for Rm = 1111, the bytes moved for Rm = 1101, else R[Rm] (rule R425). That rule says only
"increased by"; a sum that does not fit in 32 bits wraps modulo 2^32, as in the family (PRESUMED,
notes/assumptions/30.md). -/
def State.updateBase (s : State) (Rn Rm : BitVec 4) (base index : Word) (moved : Nat) : State :=
  if Rm = 15#4 then s
  else if Rm = 13#4 then s.writeReg Rn (base + BitVec.ofNat 32 moved)
  else s.writeReg Rn (base + index)

/-- The effect of a load or store. The elements of a register past D31 are free values (notes/assumptions/20.md). -/
def transferEffect (L : BitVec 1) (Rn Rm : BitVec 4) (t : Transfer) (s : State) : State :=
  let base := s.readReg Rn
  let s1 := if L = 1#1 then (s.loadElems t.e base t.elems).freePastD31 t 8 else s.storeElems t.e base t.elems
  { s1.updateBase Rn Rm base (s.readReg Rm) t.bytes with freeCount := s.freeCount + t.freeUsed }

/-- A load or store: UNDEFINED, then UNPREDICTABLE (Rn = 1111), then the access check of the unit, then the alignment of
the address R[Rn], then the permission of every byte, then its effect (rules R25, R42, R425;
93_implementation_defined.md U9; the order is notes/assumptions/20.md, the reason of an abort notes/assumptions/28.md). -/
def loadStore (L : BitVec 1) (Rn Rm : BitVec 4) (transfer : Option Transfer) (s : State) : Out :=
  match transfer with
  | none => raise .undefinedInstruction
  | some t =>
    if Rn = 15#4 then raise .constrainedUnpredictable
    else if !s.simdEnabled then raise .undefinedInstruction
    else if (s.readReg Rn).toNat % t.required s ≠ 0 then raise (.undefinedInstruction (some .alignment))
    else if !s.permitsBytes (s.readReg Rn) t.bytes then raise (.undefinedInstruction (some .permission))
    else advance (transferEffect L Rn Rm t s)

/-- VLD1 to VLD4 and VST1 to VST4 (multiple structures) (rule R421). -/
def execAsimdLdstMult (f : FLdStMult) (s : State) : Out := loadStore f.L f.Rn f.Rm (multTransfer f) s

/-- VLD1 to VLD4 (single structure to all lanes) (rule R422). -/
def execAsimdLdAll (f : FLdStAll) (s : State) : Out := loadStore f.L f.Rn f.Rm (allTransfer f) s

/-- VLD1 to VLD4 and VST1 to VST4 (single structure to one lane) (rule R423). -/
def execAsimdLdstOne (f : FLdStOne) (s : State) : Out := loadStore f.L f.Rn f.Rm (oneTransfer f) s

end Sys2Proof.Machine
end

