-- ==== Sys2Proof/Machine/OneRegImm.lean ====
section
/-! DEFINITION. The meanings of "Advanced SIMD one register and modified immediate" (44_asimd_shift_imm.md rules R331 to
R341, R375). -/

namespace Sys2Proof.Machine

/-- The expanded immediate combined with each doubleword of the destination; an odd register number with Q = 1 is
UNDEFINED (rules R27, R375). -/
def immediateRow (f : FOneRegImm) (op : DWord → DWord → DWord) (s : State) : Out :=
  simdOp (oddQuad f.Q f.d)
    (unary (a := 64) (o := 64) (fun d => plain (op d (expandImm f.cmode f.op f.imm8))) f.d (regCount f.Q)
      f.d (regCount f.Q)) s

/-- VMOV (immediate) A1 (rule R331). -/
def execVmovImmA1 (f : FOneRegImm) (s : State) : Out := immediateRow f (fun _ i => i) s

/-- VMVN (immediate) A1 (rule R332). -/
def execVmvnImmA1 (f : FOneRegImm) (s : State) : Out := immediateRow f (fun _ i => ~~~i) s

/-- VORR (immediate) A1 (rule R333). -/
def execVorrImmA1 (f : FOneRegImm) (s : State) : Out := immediateRow f (fun d i => d ||| i) s

/-- VBIC (immediate) A1 (rule R334). -/
def execVbicImmA1 (f : FOneRegImm) (s : State) : Out := immediateRow f (fun d i => d &&& ~~~i) s

/-- VMOV (immediate) A3 (rule R335). -/
def execVmovImmA3 (f : FOneRegImm) (s : State) : Out := immediateRow f (fun _ i => i) s

/-- VMVN (immediate) A2 (rule R336). -/
def execVmvnImmA2 (f : FOneRegImm) (s : State) : Out := immediateRow f (fun _ i => ~~~i) s

/-- VORR (immediate) A2 (rule R337). -/
def execVorrImmA2 (f : FOneRegImm) (s : State) : Out := immediateRow f (fun d i => d ||| i) s

/-- VBIC (immediate) A2 (rule R338). -/
def execVbicImmA2 (f : FOneRegImm) (s : State) : Out := immediateRow f (fun d i => d &&& ~~~i) s

/-- VMOV (immediate) A4 (rule R339). -/
def execVmovImmA4 (f : FOneRegImm) (s : State) : Out := immediateRow f (fun _ i => i) s

/-- VMVN (immediate) A3 (rule R340). -/
def execVmvnImmA3 (f : FOneRegImm) (s : State) : Out := immediateRow f (fun _ i => ~~~i) s

/-- VMOV (immediate) A5 (rule R341). -/
def execVmovImmA5 (f : FOneRegImm) (s : State) : Out := immediateRow f (fun _ i => i) s

end Sys2Proof.Machine
end

