-- ==== Sys2Proof/Machine/Stops.lean ====
section
/-! DEFINITION. The rows that are no instruction: UNALLOCATED rows fault as undefined (rules R96, R441;
92_eei_decisions.md D4), CONSTRAINED UNPREDICTABLE rows fault as such (rules R103, R382, R393, R441; D5), and field
combinations without a row are refused (rules R95, R97, R98, R188, R250, R369, R441; D6). -/

namespace Sys2Proof.Machine

/-- UNALLOCATED: row 5 of "Unconditional instructions" (rule R96). -/
def execUnallocatedTop5 (_f : FTop) (_s : State) : Out := raise .undefinedInstruction

/-- No row of "Unconditional instructions" in the source (rule R97). -/
def execNotInSourceTop (_f : FTop) (_s : State) : Out :=
  .refused (.noRowInSource .top)

/-- UNALLOCATED: row 1 of "Miscellaneous" (rule R102). -/
def execUnallocatedMisc1 (_f : FMisc) (_s : State) : Out := raise .undefinedInstruction

/-- UNALLOCATED: row 3 of "Miscellaneous" (rule R102). -/
def execUnallocatedMisc3 (_f : FMisc) (_s : State) : Out := raise .undefinedInstruction

/-- UNALLOCATED: row 4 of "Miscellaneous" (rule R102). -/
def execUnallocatedMisc4 (_f : FMisc) (_s : State) : Out := raise .undefinedInstruction

/-- UNALLOCATED: row 5 of "Miscellaneous" (rule R102). -/
def execUnallocatedMisc5 (_f : FMisc) (_s : State) : Out := raise .undefinedInstruction

/-- UNALLOCATED: row 7 of "Miscellaneous" (rule R102). -/
def execUnallocatedMisc7 (_f : FMisc) (_s : State) : Out := raise .undefinedInstruction

/-- CONSTRAINED UNPREDICTABLE: row 8 of "Miscellaneous" (rule R103). -/
def execConstrainedUnpredictableMisc8 (_f : FMisc) (_s : State) : Out :=
  raise .constrainedUnpredictable

/-- UNALLOCATED: row 9 of "Miscellaneous" (rule R102). -/
def execUnallocatedMisc9 (_f : FMisc) (_s : State) : Out := raise .undefinedInstruction

/-- UNALLOCATED: row 10 of "Miscellaneous" (rule R102). -/
def execUnallocatedMisc10 (_f : FMisc) (_s : State) : Out := raise .undefinedInstruction

/-- UNALLOCATED: row 11 of "Miscellaneous" (rule R102). -/
def execUnallocatedMisc11 (_f : FMisc) (_s : State) : Out := raise .undefinedInstruction

/-- UNALLOCATED: row 12 of "Miscellaneous" (rule R102). -/
def execUnallocatedMisc12 (_f : FMisc) (_s : State) : Out := raise .undefinedInstruction

/-- UNALLOCATED: row 13 of "Miscellaneous" (rule R102). -/
def execUnallocatedMisc13 (_f : FMisc) (_s : State) : Out := raise .undefinedInstruction

/-- UNALLOCATED: row 14 of "Miscellaneous" (rule R102). -/
def execUnallocatedMisc14 (_f : FMisc) (_s : State) : Out := raise .undefinedInstruction

/-- UNALLOCATED: row 15 of "Miscellaneous" (rule R102). -/
def execUnallocatedMisc15 (_f : FMisc) (_s : State) : Out := raise .undefinedInstruction

/-- UNALLOCATED: row 3 of "Change Process State" (rule R107). -/
def execUnallocatedCps3 (_f : FCps) (_s : State) : Out := raise .undefinedInstruction

/-- UNALLOCATED: row 21 of "Advanced SIMD three registers of the same length" (rule R187). -/
def execUnallocatedThreeSame21 (_f : FThreeSame) (_s : State) : Out := raise .undefinedInstruction

/-- UNALLOCATED: row 53 of "Advanced SIMD three registers of the same length" (rule R187). -/
def execUnallocatedThreeSame53 (_f : FThreeSame) (_s : State) : Out := raise .undefinedInstruction

/-- UNALLOCATED: row 69 of "Advanced SIMD three registers of the same length" (rule R187). -/
def execUnallocatedThreeSame69 (_f : FThreeSame) (_s : State) : Out := raise .undefinedInstruction

/-- No row of "Advanced SIMD three registers of the same length" in the source (rule R188). -/
def execNotInSourceThreeSame (_f : FThreeSame) (_s : State) : Out :=
  .refused (.noRowInSource .threeSame)

/-- No row of "Advanced SIMD two registers, or three registers of different lengths" in the source (rule R98). -/
def execNotInSourceTwoRegThreeDiff (_f : FTwoRegThreeDiff) (_s : State) : Out :=
  .refused (.noRowInSource .twoRegThreeDiff)

/-- UNALLOCATED: row 4 of "Advanced SIMD two registers misc" (rule R249). -/
def execUnallocatedTwoRegMisc4 (_f : FTwoRegMisc) (_s : State) : Out := raise .undefinedInstruction

/-- UNALLOCATED: row 40 of "Advanced SIMD two registers misc" (rule R249). -/
def execUnallocatedTwoRegMisc40 (_f : FTwoRegMisc) (_s : State) : Out := raise .undefinedInstruction

/-- UNALLOCATED: row 43 of "Advanced SIMD two registers misc" (rule R249). -/
def execUnallocatedTwoRegMisc43 (_f : FTwoRegMisc) (_s : State) : Out := raise .undefinedInstruction

/-- No row of "Advanced SIMD two registers misc" in the source (rule R250). -/
def execNotInSourceTwoRegMisc (_f : FTwoRegMisc) (_s : State) : Out :=
  .refused (.noRowInSource .twoRegMisc)

/-- UNALLOCATED: row 2 of "Advanced SIMD duplicate (scalar)" (rule R257). -/
def execUnallocatedDup2 (_f : FDup) (_s : State) : Out := raise .undefinedInstruction

/-- UNALLOCATED: row 3 of "Advanced SIMD duplicate (scalar)" (rule R257). -/
def execUnallocatedDup3 (_f : FDup) (_s : State) : Out := raise .undefinedInstruction

/-- UNALLOCATED: row 4 of "Advanced SIMD duplicate (scalar)" (rule R257). -/
def execUnallocatedDup4 (_f : FDup) (_s : State) : Out := raise .undefinedInstruction

/-- UNALLOCATED: row 17 of "Advanced SIMD three registers of different lengths" (rule R297). -/
def execUnallocatedThreeDiff17 (_f : FThreeDiff) (_s : State) : Out := raise .undefinedInstruction

/-- UNALLOCATED: row 18 of "Advanced SIMD three registers of different lengths" (rule R297). -/
def execUnallocatedThreeDiff18 (_f : FThreeDiff) (_s : State) : Out := raise .undefinedInstruction

/-- UNALLOCATED: row 19 of "Advanced SIMD three registers of different lengths" (rule R297). -/
def execUnallocatedThreeDiff19 (_f : FThreeDiff) (_s : State) : Out := raise .undefinedInstruction

/-- UNALLOCATED: row 20 of "Advanced SIMD three registers of different lengths" (rule R297). -/
def execUnallocatedThreeDiff20 (_f : FThreeDiff) (_s : State) : Out := raise .undefinedInstruction

/-- UNALLOCATED: row 9 of "Advanced SIMD two registers and a scalar" (rule R314). -/
def execUnallocatedTwoRegScalar9 (_f : FTwoRegScalar) (_s : State) : Out := raise .undefinedInstruction

/-- UNALLOCATED: row 11 of "Advanced SIMD two registers and a scalar" (rule R314). -/
def execUnallocatedTwoRegScalar11 (_f : FTwoRegScalar) (_s : State) : Out := raise .undefinedInstruction

/-- UNALLOCATED: row 14 of "Advanced SIMD two registers and a scalar" (rule R314). -/
def execUnallocatedTwoRegScalar14 (_f : FTwoRegScalar) (_s : State) : Out := raise .undefinedInstruction

/-- UNALLOCATED: row 12 of "Advanced SIMD one register and modified immediate" (rule R342). -/
def execUnallocatedOneRegImm12 (_f : FOneRegImm) (_s : State) : Out := raise .undefinedInstruction

/-- No row of "Advanced SIMD two registers and shift amount" in the source (rule R369). -/
def execNotInSourceTwoRegShift (_f : FTwoRegShift) (_s : State) : Out :=
  .refused (.noRowInSource .twoRegShift)

/-- CONSTRAINED UNPREDICTABLE: row 1 of "Memory hints and barriers" (rule R382). -/
def execConstrainedUnpredictableMemHint1 (_f : FMemHint) (_s : State) : Out :=
  raise .constrainedUnpredictable

/-- CONSTRAINED UNPREDICTABLE: row 2 of "Memory hints and barriers" (rule R382). -/
def execConstrainedUnpredictableMemHint2 (_f : FMemHint) (_s : State) : Out :=
  raise .constrainedUnpredictable

/-- CONSTRAINED UNPREDICTABLE: row 4 of "Memory hints and barriers" (rule R382). -/
def execConstrainedUnpredictableMemHint4 (_f : FMemHint) (_s : State) : Out :=
  raise .constrainedUnpredictable

/-- CONSTRAINED UNPREDICTABLE: row 7 of "Memory hints and barriers" (rule R382). -/
def execConstrainedUnpredictableMemHint7 (_f : FMemHint) (_s : State) : Out :=
  raise .constrainedUnpredictable

/-- UNALLOCATED: row 8 of "Memory hints and barriers" (rule R381). -/
def execUnallocatedMemHint8 (_f : FMemHint) (_s : State) : Out := raise .undefinedInstruction

/-- CONSTRAINED UNPREDICTABLE: row 1 of "Barriers" (rule R393). -/
def execConstrainedUnpredictableBarrier1 (_f : FBarrier) (_s : State) : Out :=
  raise .constrainedUnpredictable

/-- CONSTRAINED UNPREDICTABLE: row 3 of "Barriers" (rule R393). -/
def execConstrainedUnpredictableBarrier3 (_f : FBarrier) (_s : State) : Out :=
  raise .constrainedUnpredictable

/-- CONSTRAINED UNPREDICTABLE: row 10 of "Barriers" (rule R393). -/
def execConstrainedUnpredictableBarrier10 (_f : FBarrier) (_s : State) : Out :=
  raise .constrainedUnpredictable

end Sys2Proof.Machine
end

