-- ==== Sys2Proof/Machine/System.lean ====
section
/-! DEFINITION. The system instructions: SETPAN, SETEND and CPS (40_miscellaneous.md rules R101, R105, R106, R110;
10_state.md rules R24, R25). -/

namespace Sys2Proof.Machine

/-- SETPAN: PSTATE.PAN (CPSR bit 22) from w[9]; no effect in User mode (rules R25, R101, R110, R448;
notes/assumptions/14.md). -/
def execSetpan (f : FMisc) (s : State) : Out :=
  if s.unprivileged then advance s
  else advance { s with cpsr := setCpsrBit s.cpsr 22 (f.undrawn8.getLsbD 1) }

/-- SETEND: PSTATE.E from the field E; UNDEFINED where SCTLR.SED is 1 (rules R24, R41, R105, R110;
notes/assumptions/14.md). Rule R105 calls imod, M, A, I, F and mode<3:0> should-be-zero and does not say what a word with
them non-zero does: the model ignores them under both values of P8 (DESIGN CHOICE, notes/assumptions/14.md). -/
def execSetend (f : FCps) (s : State) : Out :=
  if s.ctl.sctlrSed then raise .undefinedInstruction
  else advance { s with cpsr := setCpsrBit s.cpsr 9 (isSet f.E) }

/-- imod = 01, and imod = 00 with M = 0, are not allowed (rules R24, R110). -/
def cpsNotAllowed (f : FCps) : Bool := f.imod == 0b01#2 || (f.imod == 0b00#2 && !isSet f.M)

/-- The CPSR that CPS leaves: imod = 10 clears and imod = 11 sets the masks that A, I, F select, and M = 1 writes the
mode (rules R24, R106, R110). -/
def cpsResult (f : FCps) (cpsr : Word) : Word :=
  let c := if f.imod.getLsbD 1 then setCpsrMasks cpsr (isSet f.A) (isSet f.I) (isSet f.F) (f.imod.getLsbD 0) else cpsr
  if isSet f.M then setCpsrMode c f.mode else c

/-- CPS: no effect in User mode. PSTATE.M becomes `mode` whether or not rule R24 lists it (rules R24, R106, R110, R448;
notes/assumptions/7.md, 13.md). -/
def execCps (f : FCps) (s : State) : Out :=
  if cpsNotAllowed f then raise .constrainedUnpredictable
  else if s.unprivileged then advance s
  else advance { s with cpsr := cpsResult f s.cpsr }

end Sys2Proof.Machine
end

