-- ==== Sys2Proof/Machine/Integer.lean ====
section
/-! DEFINITION. The integer operations on one lane (rules R196, R197, R265, R320, R375 and the summaries of the
instruction rules). Each computes the exact integer and narrows it once at the end. -/

namespace Sys2Proof.Machine

/-- A shift of an integer by a signed count: left when it is not negative, else right with rounding down
(rule R197). -/
def shiftInt (x sh : Int) : Int := if 0 ≤ sh then x * 2 ^ sh.toNat else x / 2 ^ (-sh).toNat

/-- What a rounding right shift adds first: half of the unit it shifts to (rules R149, R197). -/
def roundConst (sh : Int) : Int := if sh < 0 then 2 ^ ((-sh).toNat - 1) else 0

/-- The signed shift count in the low byte of a lane (rules R143, R197). -/
def shiftCount {e : Nat} (n : BitVec e) : Int := (n.setWidth 8).toInt

/-- (a + b + round) >> 1 with one more bit than the lane (rules R127, R130, R197). -/
def halvingAdd {e : Nat} (unsigned : Bool) (round : Int) (a b : BitVec e) : BitVec e :=
  wrapInt e ((laneInt unsigned a + laneInt unsigned b + round) / 2)

/-- (a - b) >> 1 (rule R132). -/
def halvingSub {e : Nat} (unsigned : Bool) (a b : BitVec e) : BitVec e :=
  wrapInt e ((laneInt unsigned a - laneInt unsigned b) / 2)

/-- Saturating add (rule R129). -/
def satAdd {e : Nat} (unsigned : Bool) (a b : BitVec e) : Lane e :=
  saturate e unsigned (laneInt unsigned a + laneInt unsigned b)

/-- Saturating subtract (rule R134). -/
def satSub {e : Nat} (unsigned : Bool) (a b : BitVec e) : Lane e :=
  saturate e unsigned (laneInt unsigned a - laneInt unsigned b)

/-- A lane of all ones or all zeros (rules R124, R135). -/
def mask {e : Nat} (b : Bool) : BitVec e := if b then BitVec.allOnes e else 0

/-- Shift of `m` by the count in `n`, with or without rounding (rules R143, R149). -/
def shiftReg {e : Nat} (unsigned rounding : Bool) (n m : BitVec e) : BitVec e :=
  let sh := shiftCount n
  wrapInt e (shiftInt (laneInt unsigned m + (if rounding then roundConst sh else 0)) sh)

/-- Saturating shift of `m` by the count in `n`, with or without rounding (rules R147, R150). -/
def satShiftReg {e : Nat} (unsigned rounding : Bool) (n m : BitVec e) : Lane e :=
  let sh := shiftCount n
  saturate e unsigned (shiftInt (laneInt unsigned m + (if rounding then roundConst sh else 0)) sh)

/-- Integer maximum (rule R154). -/
def maxInt {e : Nat} (unsigned : Bool) (a b : BitVec e) : BitVec e :=
  if laneInt unsigned b ≤ laneInt unsigned a then a else b

/-- Integer minimum (rule R156). -/
def minInt {e : Nat} (unsigned : Bool) (a b : BitVec e) : BitVec e :=
  if laneInt unsigned a ≤ laneInt unsigned b then a else b

/-- The absolute difference, in a lane of width `o` (rules R157, R291). -/
def absDiff {e : Nat} (o : Nat) (unsigned : Bool) (a b : BitVec e) : BitVec o :=
  wrapInt o (laneInt unsigned a - laneInt unsigned b).natAbs

/-- A lane widened to `o` bits with its sign or with zeros (rule R281). -/
def widen {e : Nat} (o : Nat) (unsigned : Bool) (a : BitVec e) : BitVec o := wrapInt o (laneInt unsigned a)

/-- The product in a lane of width `o` (rules R148, R296). -/
def mulInt {e : Nat} (o : Nat) (unsigned : Bool) (a b : BitVec e) : BitVec o :=
  wrapInt o (laneInt unsigned a * laneInt unsigned b)

/-- The carry-less product of the low `k` bits of `b` with `a` (rule R167, "polynomial multiply over GF(2)"). -/
def polyMul (a b : Nat) : Nat → Nat
  | 0 => 0
  | k + 1 => polyMul a b k ^^^ (if b.testBit k then a <<< k else 0)

/-- The polynomial product in a lane of width `o` (rules R167, R296). -/
def mulPoly {e : Nat} (o : Nat) (a b : BitVec e) : BitVec o := BitVec.ofNat o (polyMul a.toNat b.toNat e)

/-- The high half of the doubled product, saturated, with or without rounding (rules R151, R182). -/
def satDoubleMulHigh {e : Nat} (rounding : Bool) (a b : BitVec e) : Lane e :=
  saturate e false ((2 * (a.toInt * b.toInt) + (if rounding then 2 ^ (e - 1) else 0)) / 2 ^ e)

/-- The high half of the accumulator plus (or minus) the doubled product, rounded and saturated
(rules R184, R186). -/
def satRoundDoubleMulAccHigh {e : Nat} (subtract : Bool) (acc a b : BitVec e) : Lane e :=
  let product := 2 * (a.toInt * b.toInt)
  saturate e false ((acc.toInt * 2 ^ e + (if subtract then -product else product) + 2 ^ (e - 1)) / 2 ^ e)

/-- The doubled product, saturated to a lane of width `o` (rule R290). -/
def satDoubleMul {e : Nat} (o : Nat) (a b : BitVec e) : Lane o := saturate o false (2 * (a.toInt * b.toInt))

/-- The accumulator plus (or minus) the saturated doubled product, saturated again (rules R287, R289). -/
def satDoubleMulAcc {e : Nat} {o : Nat} (subtract : Bool) (acc : BitVec o) (a b : BitVec e) : Lane o :=
  let p := satDoubleMul o a b
  let r := saturate o false (if subtract then acc.toInt - p.1.toInt else acc.toInt + p.1.toInt)
  (r.1, p.2 ||| r.2)

/-- The high half of a lane of width `o = 2 * e`, after adding half a unit where `rounding` (rules R284, R294, R320). -/
def highHalf (o e : Nat) (rounding : Bool) (x : Int) : BitVec e :=
  (wrapInt o (x + (if rounding then 2 ^ (e - 1) else 0))).extractLsb' e e

/-- How many bits from the top are zero (rule R211). -/
def leadingZeros (e x : Nat) : Nat := if x = 0 then e else e - (Nat.log2 x + 1)

/-- Count leading zeros (rule R211). -/
def countLeadingZeros {e : Nat} (x : BitVec e) : BitVec e := BitVec.ofNat e (leadingZeros e x.toNat)

/-- Count leading sign bits: the bits below the sign bit that equal it, from the top (rule R209). -/
def countLeadingSign {e : Nat} (x : BitVec e) : BitVec e :=
  BitVec.ofNat e (leadingZeros (e - 1) (x ^^^ x.sshiftRight 1).toNat)

/-- The number of one bits (rule R212). -/
def popCount {e : Nat} (x : BitVec e) : BitVec e :=
  BitVec.ofNat e ((List.range e).foldr (fun i acc => (if x.getLsbD i then 1 else 0) + acc) 0)

/-- The integer a shift right by an immediate gives before it is narrowed, with rounding where `rounding`
(rules R351, R354, R362). -/
def shiftRightInt (unsigned rounding : Bool) (sh : Nat) {e : Nat} (x : BitVec e) : Int :=
  shiftInt (laneInt unsigned x + (if rounding then roundConst (-(sh : Int)) else 0)) (-(sh : Int))

/-- Shift right and insert: the top `sh` bits of the destination are kept (rule R364). -/
def shiftRightInsert {e : Nat} (sh : Nat) (d m : BitVec e) : BitVec e :=
  let keep := BitVec.allOnes e >>> sh
  (d &&& ~~~keep) ||| (m >>> sh)

/-- Shift left and insert: the low `sh` bits of the destination are kept (rule R365). -/
def shiftLeftInsert {e : Nat} (sh : Nat) (d m : BitVec e) : BitVec e :=
  let keep := BitVec.allOnes e <<< sh
  (d &&& ~~~keep) ||| (m <<< sh)

/-- The unsigned reciprocal estimate of a 9-bit scaled operand in 256 .. 511 (PRESUMED, notes/assumptions/15.md). -/
def recipEstimate (a : Nat) : Nat := (2 ^ 19 / (2 * a + 1) + 1) / 2

/-- The greatest `b` up to `512 + k` with `a * b * b < 2 ^ 28`, searched upward from 512
(PRESUMED, notes/assumptions/15.md). -/
def recipSqrtSearch (a : Nat) : Nat → Nat → Nat
  | 0, b => b
  | k + 1, b => if a * (b + 1) * (b + 1) < 2 ^ 28 then recipSqrtSearch a k (b + 1) else b

/-- The unsigned reciprocal square root estimate of a scaled operand in 128 .. 511
(PRESUMED, notes/assumptions/15.md). -/
def recipSqrtEstimate (a : Nat) : Nat :=
  let a' := if a < 256 then 2 * a + 1 else (a / 2 * 2 + 1) * 2
  (recipSqrtSearch a' 512 512 + 1) / 2

/-- The integer form of VRECPE (rule R246): the 9-bit estimate at the top of the word, all ones where the operand is
below one half (PRESUMED, notes/assumptions/15.md). -/
def unsignedRecipEstimate {e : Nat} (x : BitVec e) : BitVec e :=
  if x.toNat < 2 ^ (e - 1) then BitVec.allOnes e
  else BitVec.ofNat e (recipEstimate (x.toNat / 2 ^ (e - 9)) * 2 ^ (e - 9))

/-- The integer form of VRSQRTE (rule R247): all ones where the operand is below one quarter
(PRESUMED, notes/assumptions/15.md). -/
def unsignedRecipSqrtEstimate {e : Nat} (x : BitVec e) : BitVec e :=
  if x.toNat < 2 ^ (e - 2) then BitVec.allOnes e
  else BitVec.ofNat e (recipSqrtEstimate (x.toNat / 2 ^ (e - 9)) * 2 ^ (e - 9))

end Sys2Proof.Machine
end

