-- ==== Sys2Proof/Machine/ThreeDiff.lean ====
section
/-! DEFINITION. The meanings of "Advanced SIMD three registers of different lengths" (43_asimd_three_diff_scalar.md rules
R281 to R296, R320). Where a row is UNDEFINED beyond rule R320 is notes/assumptions/11.md (PRESUMED). -/

namespace Sys2Proof.Machine

/-- A long row: two doublewords give a quadword of lanes twice as wide (rule R320). -/
def long (f : FThreeDiff) (undef : Bool) (op : (e : Nat) → BitVec e → BitVec e → Lane (2 * e)) (s : State) : Out :=
  simdOp (odd f.d || undef) (binary (op (esize f.size)) f.d 2 f.n 1 f.m 1) s

/-- A long row that accumulates into the destination. -/
def longAcc (f : FThreeDiff) (undef : Bool) (op : (e : Nat) → BitVec (2 * e) → BitVec e → BitVec e → Lane (2 * e))
    (s : State) : Out :=
  simdOp (odd f.d || undef) (accumulate (op (esize f.size)) f.d 2 f.n 1 f.m 1) s

/-- A wide row: a quadword and a doubleword give a quadword (rule R320). -/
def wide (f : FThreeDiff) (op : (e : Nat) → BitVec (2 * e) → BitVec e → Lane (2 * e)) (s : State) : Out :=
  simdOp (odd f.d || odd f.n) (binary (op (esize f.size)) f.d 2 f.n 2 f.m 1) s

/-- A row that keeps the high half of each lane of two quadwords (rule R320). -/
def highNarrow (f : FThreeDiff) (op : (e : Nat) → BitVec (2 * e) → BitVec (2 * e) → Lane e) (s : State) : Out :=
  simdOp (odd f.n || odd f.m) (binary (op (esize f.size)) f.d 1 f.n 2 f.m 2) s

/-- VADDL (rule R281). -/
def execVaddl (f : FThreeDiff) (s : State) : Out :=
  long f false (fun e a b => plain (widen (2 * e) (isSet f.U) a + widen (2 * e) (isSet f.U) b)) s

/-- VADDW (rule R282). -/
def execVaddw (f : FThreeDiff) (s : State) : Out := wide f (fun e a b => plain (a + widen (2 * e) (isSet f.U) b)) s

/-- VSUBL (rule R283). -/
def execVsubl (f : FThreeDiff) (s : State) : Out :=
  long f false (fun e a b => plain (widen (2 * e) (isSet f.U) a - widen (2 * e) (isSet f.U) b)) s

/-- VADDHN (rule R284). -/
def execVaddhn (f : FThreeDiff) (s : State) : Out :=
  highNarrow f (fun e a b => plain (highHalf (2 * e) e false (a.toInt + b.toInt))) s

/-- VSUBW (rule R285). -/
def execVsubw (f : FThreeDiff) (s : State) : Out := wide f (fun e a b => plain (a - widen (2 * e) (isSet f.U) b)) s

/-- VSUBHN (rule R286). -/
def execVsubhn (f : FThreeDiff) (s : State) : Out :=
  highNarrow f (fun e a b => plain (highHalf (2 * e) e false (a.toInt - b.toInt))) s

/-- VQDMLAL (rule R287). -/
def execVqdmlal3diff (f : FThreeDiff) (s : State) : Out :=
  longAcc f (notDoubling f.size) (fun _ d a b => satDoubleMulAcc false d a b) s

/-- VABAL (rule R288). -/
def execVabal (f : FThreeDiff) (s : State) : Out :=
  longAcc f false (fun e d a b => plain (d + absDiff (2 * e) (isSet f.U) a b)) s

/-- VQDMLSL (rule R289). -/
def execVqdmlsl3diff (f : FThreeDiff) (s : State) : Out :=
  longAcc f (notDoubling f.size) (fun _ d a b => satDoubleMulAcc true d a b) s

/-- VQDMULL (rule R290). -/
def execVqdmull3diff (f : FThreeDiff) (s : State) : Out :=
  long f (notDoubling f.size) (fun e a b => satDoubleMul (2 * e) a b) s

/-- VABDL (integer) (rule R291). -/
def execVabdlInt (f : FThreeDiff) (s : State) : Out :=
  long f false (fun e a b => plain (absDiff (2 * e) (isSet f.U) a b)) s

/-- VMLAL (integer) (rule R292). -/
def execVmlalInt (f : FThreeDiff) (s : State) : Out :=
  longAcc f false (fun e d a b => plain (d + mulInt (2 * e) (isSet f.U) a b)) s

/-- VMLSL (integer) (rule R293). -/
def execVmlslInt (f : FThreeDiff) (s : State) : Out :=
  longAcc f false (fun e d a b => plain (d - mulInt (2 * e) (isSet f.U) a b)) s

/-- VRADDHN (rule R294). -/
def execVraddhn (f : FThreeDiff) (s : State) : Out :=
  highNarrow f (fun e a b => plain (highHalf (2 * e) e true (a.toInt + b.toInt))) s

/-- VRSUBHN (rule R295). -/
def execVrsubhn (f : FThreeDiff) (s : State) : Out :=
  highNarrow f (fun e a b => plain (highHalf (2 * e) e true (a.toInt - b.toInt))) s

/-- opc<1> selects the polynomial form of VMULL (rules R296, R320). -/
def mullPoly (f : FThreeDiff) : Bool := f.opc.getLsbD 1

/-- The polynomial form of VMULL is UNDEFINED with U = 1 or size = 01 (PRESUMED, notes/assumptions/21.md). -/
def mullUndef (f : FThreeDiff) : Bool := mullPoly f && (isSet f.U || f.size == 0b01#2)

/-- VMULL (integer and polynomial): lanes of 8 << size bits, those of the polynomial form with size = 10 too (rules R296,
R320; notes/assumptions/21.md). -/
def execVmullIntPoly (f : FThreeDiff) (s : State) : Out :=
  long f (mullUndef f)
    (fun e a b => plain (if mullPoly f then mulPoly (2 * e) a b else mulInt (2 * e) (isSet f.U) a b)) s

end Sys2Proof.Machine
end

