-- ==== Sys2Proof/Machine/FloatingPoint.lean ====
section
/-! DEFINITION. Floating-point lanes of 16 and 32 bits under the "standard FPSCR value" (rule R198): round to nearest
even, flush-to-zero on, default NaN on, no trapped exceptions. A finite value is m * 2^x with m a natural number, computed
exactly and rounded once. Where rule R198 is shorter than an algorithm, the algorithm is the family's (PRESUMED,
notes/assumptions/10.md, 16.md, 23.md). -/

namespace Sys2Proof.Machine

/-- The width of the exponent field. -/
def expBits (e : Nat) : Nat := if e = 16 then 5 else 8

/-- The width of the fraction field. -/
def fracBits (e : Nat) : Nat := if e = 16 then 10 else 23

/-- The exponent bias. -/
def expBias (e : Nat) : Int := 2 ^ (expBits e - 1) - 1

/-- What kind of value a lane holds. -/
inductive FpClass where
  | zero | nonzero | infinity | quietNaN | signallingNaN
deriving DecidableEq, Repr

/-- A lane taken apart: its sign (true for minus), its kind, and the magnitude m * 2^x of a nonzero finite value. -/
structure FpNumber where
  sign : Bool
  kind : FpClass
  m : Nat
  x : Int
deriving DecidableEq, Repr

/-- A NaN of either kind. -/
def FpNumber.isNaN (v : FpNumber) : Bool := v.kind == .quietNaN || v.kind == .signallingNaN

/-- How a lane is taken apart: subnormals flushed to zero or kept, and the alternative half-precision format, which has
no infinities and no NaNs. -/
structure FpFormat where
  flush : Bool
  alternative : Bool
deriving DecidableEq, Repr

/-- The format of arithmetic: flush-to-zero on (rule R198). -/
def fpStandard : FpFormat := { flush := true, alternative := false }

/-- The format of the half-precision side of the VCVT rows between precisions: subnormals kept, FPSCR.AHP selects the
alternative format (PRESUMED, notes/assumptions/16.md). -/
def fpHalfConvert (ahp : Bool) : FpFormat := { flush := false, alternative := ahp }

/-- Take a lane apart; a flushed 32-bit subnormal sets IDC (rule R198; notes/assumptions/16.md). -/
def fpUnpack {e : Nat} (fmt : FpFormat) (v : BitVec e) : FpNumber × Flags :=
  let F := fracBits e
  let E := expBits e
  let sign := v.msb
  let ex := v.toNat / 2 ^ F % 2 ^ E
  let fr := v.toNat % 2 ^ F
  if ex = 0 then
    if fr = 0 then ({ sign := sign, kind := .zero, m := 0, x := 0 }, 0#32)
    else if fmt.flush then ({ sign := sign, kind := .zero, m := 0, x := 0 }, flagIf (e == 32) flagIDC)
    else ({ sign := sign, kind := .nonzero, m := fr, x := 1 - expBias e - F }, 0#32)
  else if ex = 2 ^ E - 1 ∧ fmt.alternative = false then
    if fr = 0 then ({ sign := sign, kind := .infinity, m := 0, x := 0 }, 0#32)
    else if fr.testBit (F - 1) then ({ sign := sign, kind := .quietNaN, m := 0, x := 0 }, 0#32)
    else ({ sign := sign, kind := .signallingNaN, m := 0, x := 0 }, 0#32)
  else ({ sign := sign, kind := .nonzero, m := fr + 2 ^ F, x := ex - expBias e - F }, 0#32)

/-- Put a sign, a biased exponent and a fraction together; a fraction of 2^F carries into the exponent. -/
def fpPack (e : Nat) (sign : Bool) (biased frac : Nat) : BitVec e :=
  BitVec.ofNat e ((if sign then 2 ^ (e - 1) else 0) + biased * 2 ^ fracBits e + frac)

/-- Zero with a sign. -/
def fpZero (e : Nat) (sign : Bool) : BitVec e := fpPack e sign 0 0

/-- Infinity with a sign. -/
def fpInfinity (e : Nat) (sign : Bool) : BitVec e := fpPack e sign (2 ^ expBits e - 1) 0

/-- The default NaN: positive and quiet with no other fraction bit. -/
def fpDefaultNaN (e : Nat) : BitVec e := fpPack e false (2 ^ expBits e - 1) (2 ^ (fracBits e - 1))

/-- The magnitude of a sum as a natural number and a power of two: both terms on the smaller exponent. -/
def fpScaled (m : Nat) (x x0 : Int) : Nat := m * 2 ^ (x - x0).toNat

/-- Round m * 2^x, m > 0, to nearest even: flush a result below the normal range to zero, infinity past the top of it
(rule R198). -/
def fpRound (e : Nat) (fmt : FpFormat) (sign : Bool) (m : Nat) (x : Int) : Lane e :=
  let F := fracBits e
  let minExp : Int := 1 - expBias e
  let exponent : Int := (Nat.log2 m : Int) + x
  if fmt.flush ∧ exponent < minExp then (fpZero e sign, flagUFC)
  else
    let unit : Int := (if exponent < minExp then minExp else exponent) - F
    -- the significand in units of 2^unit, and twice what is lost
    let shift := (unit - x).toNat
    let scaled := m * 2 ^ (x - unit).toNat
    let q := scaled / 2 ^ shift
    let lost := scaled % 2 ^ shift
    let up := decide (2 ^ shift < 2 * lost) || (decide (2 ^ shift = 2 * lost) && q % 2 == 1)
    let sig := if up then q + 1 else q
    let biased : Nat := if exponent < minExp then 0 else (exponent - minExp).toNat
    -- a normal significand has its leading one counted in the exponent; one of 2^F in the subnormal range becomes normal
    let word := biased * 2 ^ F + sig
    let under := flagIf (decide (exponent < minExp) && lost != 0) flagUFC
    if fmt.alternative then
      if 2 ^ (expBits e + F) ≤ word then (fpPack e sign 0 (2 ^ (expBits e + F) - 1), flagIOC)
      else (fpPack e sign 0 word, under ||| flagIf (lost != 0) flagIXC)
    else if (2 ^ expBits e - 1) * 2 ^ F ≤ word then (fpInfinity e sign, flagOFC ||| flagIXC)
    else (fpPack e sign 0 word, under ||| flagIf (lost != 0) flagIXC)

/-- The sum of two signed magnitudes, exact, then rounded after a division by 2^halve; an exact zero is plus zero. -/
def fpSum (e : Nat) (halve : Nat) (a b : FpNumber) : Lane e :=
  let x0 := if a.x ≤ b.x then a.x else b.x
  let term (v : FpNumber) : Int := (if v.sign then -1 else 1) * (fpScaled v.m v.x x0 : Int)
  let total := term a + term b
  if total = 0 then plain (fpZero e false) else fpRound e fpStandard (decide (total < 0)) total.natAbs (x0 - halve)

/-- A number with the other sign. -/
def FpNumber.neg (v : FpNumber) : FpNumber := { v with sign := !v.sign }

/-- The default NaN, and IOC where one of the operands is signalling (rule R198, "default NaN on"). -/
def fpNaNResult (e : Nat) (vs : List FpNumber) : Lane e :=
  (fpDefaultNaN e, flagIf (vs.any (fun v => v.kind == .signallingNaN)) flagIOC)

/-- Set further flags on a lane. -/
def Lane.also {e : Nat} (l : Lane e) (fl : Flags) : Lane e := (l.1, l.2 ||| fl)

/-- a + b divided by 2^halve, of numbers. -/
def fpAddNumbers (e halve : Nat) (a b : FpNumber) : Lane e :=
  if a.isNaN || b.isNaN then fpNaNResult e [a, b]
  else if a.kind = .infinity ∧ b.kind = .infinity ∧ a.sign ≠ b.sign then (fpDefaultNaN e, flagIOC)
  else if a.kind = .infinity then plain (fpInfinity e a.sign)
  else if b.kind = .infinity then plain (fpInfinity e b.sign)
  else if a.kind = .zero ∧ b.kind = .zero ∧ a.sign = b.sign then plain (fpZero e a.sign)
  else fpSum e halve a b

/-- Floating-point addition (rule R122). -/
def fpAdd {e : Nat} (a b : BitVec e) : Lane e :=
  let ua := fpUnpack fpStandard a
  let ub := fpUnpack fpStandard b
  (fpAddNumbers e 0 ua.1 ub.1).also (ua.2 ||| ub.2)

/-- Floating-point subtraction (rule R139). -/
def fpSub {e : Nat} (a b : BitVec e) : Lane e :=
  let ua := fpUnpack fpStandard a
  let ub := fpUnpack fpStandard b
  (fpAddNumbers e 0 ua.1 ub.1.neg).also (ua.2 ||| ub.2)

/-- (a - b) / 2 with one rounding (rule R142). -/
def fpHalvedSub {e : Nat} (a b : BitVec e) : Lane e :=
  let ua := fpUnpack fpStandard a
  let ub := fpUnpack fpStandard b
  (fpAddNumbers e 1 ua.1 ub.1.neg).also (ua.2 ||| ub.2)

/-- Floating-point multiplication (rule R161). -/
def fpMul {e : Nat} (a b : BitVec e) : Lane e :=
  let ua := fpUnpack fpStandard a
  let ub := fpUnpack fpStandard b
  let sign := ua.1.sign != ub.1.sign
  let r : Lane e :=
    if ua.1.isNaN || ub.1.isNaN then fpNaNResult e [ua.1, ub.1]
    else if (ua.1.kind = .infinity ∧ ub.1.kind = .zero) ∨ (ua.1.kind = .zero ∧ ub.1.kind = .infinity) then
      (fpDefaultNaN e, flagIOC)
    else if ua.1.kind = .infinity ∨ ub.1.kind = .infinity then plain (fpInfinity e sign)
    else if ua.1.kind = .zero ∨ ub.1.kind = .zero then plain (fpZero e sign)
    else fpRound e fpStandard sign (ua.1.m * ub.1.m) (ua.1.x + ub.1.x)
  r.also (ua.2 ||| ub.2)

/-- The lane with its sign bit inverted (rule R223). -/
def fpNeg {e : Nat} (a : BitVec e) : BitVec e := a ^^^ BitVec.ofNat e (2 ^ (e - 1))

/-- The lane with its sign bit cleared (rule R222). -/
def fpAbs {e : Nat} (a : BitVec e) : BitVec e := a &&& BitVec.ofNat e (2 ^ (e - 1) - 1)

/-- acc + a * b with a single rounding (rules R121, R198). -/
def fpMulAdd {e : Nat} (acc a b : BitVec e) : Lane e :=
  let uc := fpUnpack fpStandard acc
  let ua := fpUnpack fpStandard a
  let ub := fpUnpack fpStandard b
  let sign := ua.1.sign != ub.1.sign
  let invalid := decide ((ua.1.kind = .infinity ∧ ub.1.kind = .zero) ∨ (ua.1.kind = .zero ∧ ub.1.kind = .infinity))
  let infP := decide (ua.1.kind = .infinity ∨ ub.1.kind = .infinity)
  let zeroP := decide (ua.1.kind = .zero ∨ ub.1.kind = .zero)
  let r : Lane e :=
    if uc.1.kind = .quietNaN ∧ invalid then (fpDefaultNaN e, flagIOC)
    else if uc.1.isNaN || ua.1.isNaN || ub.1.isNaN then fpNaNResult e [uc.1, ua.1, ub.1]
    else if invalid then (fpDefaultNaN e, flagIOC)
    else if uc.1.kind = .infinity ∧ infP ∧ uc.1.sign ≠ sign then (fpDefaultNaN e, flagIOC)
    else if uc.1.kind = .infinity then plain (fpInfinity e uc.1.sign)
    else if infP then plain (fpInfinity e sign)
    else if uc.1.kind = .zero ∧ zeroP ∧ uc.1.sign = sign then plain (fpZero e uc.1.sign)
    else fpSum e 0 uc.1 { sign := sign, kind := .nonzero, m := ua.1.m * ub.1.m, x := ua.1.x + ub.1.x }
  r.also (uc.2 ||| ua.2 ||| ub.2)

/-- acc - a * b with a single rounding (rules R138, R198). -/
def fpMulSub {e : Nat} (acc a b : BitVec e) : Lane e := fpMulAdd acc (fpNeg a) b

/-- acc + (a * b), or acc - (a * b), with two roundings (rules R123, R140, R198). -/
def fpMulThenAdd {e : Nat} (subtract : Bool) (acc a b : BitVec e) : Lane e :=
  let p := fpMul a b
  (fpAdd acc (if subtract then fpNeg p.1 else p.1)).also p.2

/-- a - b in magnitude (rule R173). -/
def fpAbsDiff {e : Nat} (a b : BitVec e) : Lane e :=
  let r := fpSub a b
  (fpAbs r.1, r.2)

/-- a < b of two numbers that are not NaNs. -/
def fpLess (a b : FpNumber) : Bool :=
  let big (v : FpNumber) : Int := if v.kind = .infinity then 1 else 0
  let x0 := if a.x ≤ b.x then a.x else b.x
  let value (v : FpNumber) : Int :=
    (if v.sign then -1 else 1) * (if v.kind = .infinity then 0 else (fpScaled v.m v.x x0 : Int))
  let rank (v : FpNumber) : Int := (if v.sign then -1 else 1) * big v
  decide (rank a < rank b) || (decide (rank a = rank b) && decide (value a < value b))

/-- Which comparison. -/
inductive FpRelation where
  | equal | greaterEqual | greater
deriving DecidableEq, Repr

/-- A comparison: all ones or all zeros. A NaN gives zeros, and sets IOC where it is signalling or the comparison is one
of order (rules R124, R162, R174, R198; notes/assumptions/23.md). -/
def fpCompare {e : Nat} (rel : FpRelation) (a b : BitVec e) : Lane e :=
  let ua := fpUnpack fpStandard a
  let ub := fpUnpack fpStandard b
  let r : Lane e :=
    if ua.1.isNaN || ub.1.isNaN then
      (0, flagIf (rel != .equal || ua.1.kind == .signallingNaN || ub.1.kind == .signallingNaN) flagIOC)
    else
      match rel with
      | .equal => plain (mask (!fpLess ua.1 ub.1 && !fpLess ub.1 ua.1))
      | .greaterEqual => plain (mask (!fpLess ua.1 ub.1))
      | .greater => plain (mask (fpLess ub.1 ua.1))
  r.also (ua.2 ||| ub.2)

/-- A number that needs no rounding put back together: flushed subnormals have become zeros. -/
def fpRepack (e : Nat) (v : FpNumber) : Lane e :=
  match v.kind with
  | .zero => plain (fpZero e v.sign)
  | .infinity => plain (fpInfinity e v.sign)
  | .nonzero => fpRound e fpStandard v.sign v.m v.x
  | _ => plain (fpDefaultNaN e)

/-- The greater (or the lesser) of two numbers; plus zero is greater than minus zero, and a NaN gives the default NaN
(rules R125, R141, R198; notes/assumptions/23.md). -/
def fpMaxMin {e : Nat} (least : Bool) (a b : BitVec e) : Lane e :=
  let ua := fpUnpack fpStandard a
  let ub := fpUnpack fpStandard b
  let r : Lane e :=
    if ua.1.isNaN || ub.1.isNaN then fpNaNResult e [ua.1, ub.1]
    else if ua.1.kind = .zero ∧ ub.1.kind = .zero then
      plain (fpZero e (if least then ua.1.sign || ub.1.sign else ua.1.sign && ub.1.sign))
    else
      let first := if least then fpLess ua.1 ub.1 else fpLess ub.1 ua.1
      fpRepack e (if first then ua.1 else ub.1)
  r.also (ua.2 ||| ub.2)

/-- maxNum and minNum: a quiet NaN operand loses to a number (rules R165, R177, R198). -/
def fpMaxMinNum {e : Nat} (least : Bool) (a b : BitVec e) : Lane e :=
  let ka := (fpUnpack fpStandard a).1.kind
  let kb := (fpUnpack fpStandard b).1.kind
  let loser := fpInfinity e (!least)
  if ka = .quietNaN ∧ kb ≠ .quietNaN then fpMaxMin least loser b
  else if ka ≠ .quietNaN ∧ kb = .quietNaN then fpMaxMin least a loser
  else fpMaxMin least a b

/-- 2.0 - a * b, and (3.0 - a * b) / 2.0 where `sqrt`; the product of zero and infinity counts as zero, so that these give
2.0 and 1.5 (rules R126, R142, R198). The product is rounded before the subtraction (PRESUMED, notes/assumptions/23.md). -/
def fpStep {e : Nat} (sqrt : Bool) (a b : BitVec e) : Lane e :=
  let ua := fpUnpack fpStandard a
  let ub := fpUnpack fpStandard b
  let constant := fpPack e false (2 ^ (expBits e - 1)) (if sqrt then 2 ^ (fracBits e - 1) else 0)
  if ua.1.isNaN || ub.1.isNaN then (fpNaNResult e [ua.1, ub.1]).also (ua.2 ||| ub.2)
  else
    let special :=
      decide ((ua.1.kind = .infinity ∧ ub.1.kind = .zero) ∨ (ua.1.kind = .zero ∧ ub.1.kind = .infinity))
    let p : Lane e := if special then (fpZero e false, ua.2 ||| ub.2) else fpMul a b
    (if sqrt then fpHalvedSub constant p.1 else fpSub constant p.1).also p.2

/-- The rounding of a value to an integer (rules R234 to R248). -/
inductive FpRounding where
  | nearestEven | nearestAway | plusInfinity | minusInfinity | towardZero
deriving DecidableEq, Repr

/-- The integer nearest to sign * m * 2^x by a rounding, and whether it differs from the value. -/
def fpToInt (rounding : FpRounding) (sign : Bool) (m : Nat) (x : Int) : Int × Bool :=
  if 0 ≤ x then ((if sign then -1 else 1) * ((m * 2 ^ x.toNat : Nat) : Int), false)
  else
    let unit := 2 ^ (-x).toNat
    let q := m / unit
    let lost := m % unit
    let up : Bool :=
      match rounding with
      | .nearestEven => decide (unit < 2 * lost) || (decide (unit = 2 * lost) && q % 2 == 1)
      | .nearestAway => decide (unit ≤ 2 * lost)
      | .plusInfinity => !sign && lost != 0
      | .minusInfinity => sign && lost != 0
      | .towardZero => false
    ((if sign then -1 else 1) * ((if up then q + 1 else q : Nat) : Int), lost != 0)

/-- Round to integral; Inexact only where `exact` (rules R234 to R241). A result of zero keeps the sign. -/
def fpRoundInt {e : Nat} (rounding : FpRounding) (exact : Bool) (a : BitVec e) : Lane e :=
  let ua := fpUnpack fpStandard a
  let r : Lane e :=
    match ua.1.kind with
    | .zero => plain (fpZero e ua.1.sign)
    | .infinity => plain (fpInfinity e ua.1.sign)
    | .nonzero =>
      let i := fpToInt rounding ua.1.sign ua.1.m ua.1.x
      let v : Lane e :=
        if i.1 = 0 then plain (fpZero e ua.1.sign) else fpRound e fpStandard (decide (i.1 < 0)) i.1.natAbs 0
      v.also (flagIf (exact && i.2) flagIXC)
    | _ => fpNaNResult e [ua.1]
  r.also ua.2

/-- Floating-point to an integer, or to fixed-point with `fbits` fraction bits, saturated; IOC where it saturates or the
operand is a NaN, which gives 0 (rules R242 to R248, R360). -/
def fpToFixed {e : Nat} (rounding : FpRounding) (unsigned : Bool) (fbits : Nat) (a : BitVec e) : Lane e :=
  let ua := fpUnpack fpStandard a
  let r : Lane e :=
    match ua.1.kind with
    | .zero => plain 0
    | .infinity => (wrapInt e (if ua.1.sign then satMin e unsigned else satMax e unsigned), flagIOC)
    | .nonzero =>
      let i := fpToInt rounding ua.1.sign ua.1.m (ua.1.x + fbits)
      if i.1 < satMin e unsigned then (wrapInt e (satMin e unsigned), flagIOC)
      else if satMax e unsigned < i.1 then (wrapInt e (satMax e unsigned), flagIOC)
      else (wrapInt e i.1, flagIf i.2 flagIXC)
    | _ => (0, flagIOC)
  r.also ua.2

/-- An integer, or fixed-point with `fbits` fraction bits, to floating-point, rounded to nearest even
(rules R248, R360). -/
def fpFromFixed {e : Nat} (unsigned : Bool) (fbits : Nat) (a : BitVec e) : Lane e :=
  let i := laneInt unsigned a
  if i = 0 then plain (fpZero e false) else fpRound e fpStandard (decide (i < 0)) i.natAbs (-(fbits : Int))

/-- Single to half precision (rule R238; notes/assumptions/16.md). -/
def fpToHalf (ahp : Bool) (a : BitVec 32) : Lane 16 :=
  let ua := fpUnpack fpStandard a
  let r : Lane 16 :=
    match ua.1.kind with
    | .zero => plain (fpZero 16 ua.1.sign)
    | .infinity => if ahp then (fpPack 16 ua.1.sign 0 0x7FFF, flagIOC) else plain (fpInfinity 16 ua.1.sign)
    | .nonzero => fpRound 16 (fpHalfConvert ahp) ua.1.sign ua.1.m ua.1.x
    | k =>
      (if ahp then fpZero 16 ua.1.sign else fpDefaultNaN 16, flagIf (ahp || k == .signallingNaN) flagIOC)
  r.also ua.2

/-- Half to single precision (rule R240; notes/assumptions/16.md). -/
def fpFromHalf (ahp : Bool) (a : BitVec 16) : Lane 32 :=
  let ua := fpUnpack (fpHalfConvert ahp) a
  match ua.1.kind with
  | .zero => plain (fpZero 32 ua.1.sign)
  | .infinity => plain (fpInfinity 32 ua.1.sign)
  | .nonzero => fpRound 32 fpStandard ua.1.sign ua.1.m ua.1.x
  | _ => fpNaNResult 32 [ua.1]

/-- The biased exponent of a lane. -/
def fpExponent {e : Nat} (a : BitVec e) : Nat := a.toNat / 2 ^ fracBits e % 2 ^ expBits e

/-- The eight leading fraction bits of a lane. -/
def fpFraction8 {e : Nat} (a : BitVec e) : Nat := a.toNat / 2 ^ (fracBits e - 8) % 2 ^ 8

/-- Reciprocal estimate (rule R246): the 8-bit table estimate scaled; zero gives infinity and DZC, and a magnitude whose
reciprocal is below the normal range gives zero and UFC (PRESUMED, notes/assumptions/15.md). -/
def fpRecipEstimate {e : Nat} (a : BitVec e) : Lane e :=
  let ua := fpUnpack fpStandard a
  let top := 2 ^ expBits e - 3
  let r : Lane e :=
    match ua.1.kind with
    | .zero => (fpInfinity e ua.1.sign, flagDZC)
    | .infinity => plain (fpZero e ua.1.sign)
    | .nonzero =>
      if top ≤ fpExponent a then (fpZero e ua.1.sign, flagUFC)
      else
        let estimate := recipEstimate (256 + fpFraction8 a)
        plain (fpPack e ua.1.sign (top - fpExponent a) ((estimate - 256) * 2 ^ (fracBits e - 8)))
    | _ => fpNaNResult e [ua.1]
  r.also ua.2

/-- Reciprocal square root estimate (rule R247): zero gives infinity and DZC, a negative number the default NaN and IOC
(PRESUMED, notes/assumptions/15.md). -/
def fpRecipSqrtEstimate {e : Nat} (a : BitVec e) : Lane e :=
  let ua := fpUnpack fpStandard a
  let r : Lane e :=
    match ua.1.kind with
    | .zero => (fpInfinity e ua.1.sign, flagDZC)
    | .quietNaN => fpNaNResult e [ua.1]
    | .signallingNaN => fpNaNResult e [ua.1]
    | k =>
      if ua.1.sign then (fpDefaultNaN e, flagIOC)
      else if k = .infinity then plain (fpZero e false)
      else
        let ex := fpExponent a
        let scaled := if ex % 2 = 0 then 256 + fpFraction8 a else 128 + fpFraction8 a / 2
        let estimate := recipSqrtEstimate scaled
        plain (fpPack e false ((3 * (2 ^ (expBits e - 1) - 1) - 1 - ex) / 2)
          ((estimate - 256) * 2 ^ (fracBits e - 8)))
  r.also ua.2

end Sys2Proof.Machine
end

