-- ==== Sys2Proof/Machine/ThreeSameInt.lean ====
section
/-! DEFINITION. The meanings of the integer and bitwise rows of "Advanced SIMD three registers of the same length"
(41_asimd_three_same.md rules R127 to R186, R196, R197). Where a row is UNDEFINED for a size or an odd register is
notes/assumptions/11.md (PRESUMED beyond rule R196). -/

namespace Sys2Proof.Machine

/-- A quadword operand with an odd register number (rule R196). -/
def threeSameOdd (f : FThreeSame) : Bool := oddQuad f.Q f.d || oddQuad f.Q f.n || oddQuad f.Q f.m

/-- A lane-by-lane operation on two vectors of integers; `undef` is what else makes the row UNDEFINED. -/
def threeSameInt (f : FThreeSame) (undef : Bool) (op : (e : Nat) → BitVec e → BitVec e → Lane e) (s : State) : Out :=
  simdOp (threeSameOdd f || undef)
    (binary (op (esize f.size)) f.d (regCount f.Q) f.n (regCount f.Q) f.m (regCount f.Q)) s

/-- A lane-by-lane operation on the destination and two vectors of integers. -/
def threeSameAcc (f : FThreeSame) (undef : Bool) (op : (e : Nat) → BitVec e → BitVec e → BitVec e → Lane e)
    (s : State) : Out :=
  simdOp (threeSameOdd f || undef)
    (accumulate (op (esize f.size)) f.d (regCount f.Q) f.n (regCount f.Q) f.m (regCount f.Q)) s

/-- A bitwise operation on the destination and two vectors (rule R196, "The bitwise rows ignore lanes"). -/
def threeSameBits (f : FThreeSame) (op : DWord → DWord → DWord → DWord) (s : State) : Out :=
  simdOp (threeSameOdd f)
    (accumulate (o := 64) (a := 64) (b := 64) (fun d n m => plain (op d n m)) f.d (regCount f.Q) f.n (regCount f.Q)
      f.m (regCount f.Q)) s

/-- An operation on the adjacent pairs of the lanes of Vn and then Vm, which have 64 bits each (rule R153). -/
def pairwiseEffect {e : Nat} (op : BitVec e → BitVec e → Lane e) (d n m : Nat) (s : State) : State :=
  s.putLanes d 1 ((pairs (s.readLanes e n 1 ++ s.readLanes e m 1)).map (fun p => op p.1 p.2))

/-- A pairwise row. -/
def threeSamePairs (f : FThreeSame) (undef : Bool) (op : (e : Nat) → BitVec e → BitVec e → Lane e) (s : State) : Out :=
  simdOp undef (pairwiseEffect (op (esize f.size)) f.d f.n f.m) s

/-- VHADD (rule R127). -/
def execVhadd (f : FThreeSame) (s : State) : Out :=
  threeSameInt f (size64 f.size) (fun _ a b => plain (halvingAdd (isSet f.U) 0 a b)) s

/-- VAND (register) (rule R128). -/
def execVandReg (f : FThreeSame) (s : State) : Out := threeSameBits f (fun _ n m => n &&& m) s

/-- VQADD (rule R129). -/
def execVqadd (f : FThreeSame) (s : State) : Out := threeSameInt f false (fun _ a b => satAdd (isSet f.U) a b) s

/-- VRHADD (rule R130). -/
def execVrhadd (f : FThreeSame) (s : State) : Out :=
  threeSameInt f (size64 f.size) (fun _ a b => plain (halvingAdd (isSet f.U) 1 a b)) s

/-- VHSUB (rule R132). -/
def execVhsub (f : FThreeSame) (s : State) : Out :=
  threeSameInt f (size64 f.size) (fun _ a b => plain (halvingSub (isSet f.U) a b)) s

/-- VBIC (register) (rule R133). -/
def execVbicReg (f : FThreeSame) (s : State) : Out := threeSameBits f (fun _ n m => n &&& ~~~m) s

/-- VQSUB (rule R134). -/
def execVqsub (f : FThreeSame) (s : State) : Out := threeSameInt f false (fun _ a b => satSub (isSet f.U) a b) s

/-- VCGT (register) A1 (rule R135). -/
def execVcgtRegA1 (f : FThreeSame) (s : State) : Out :=
  threeSameInt f (size64 f.size) (fun _ a b => plain (mask (decide (laneInt (isSet f.U) b < laneInt (isSet f.U) a)))) s

/-- VCGE (register) A1 (rule R136). -/
def execVcgeRegA1 (f : FThreeSame) (s : State) : Out :=
  threeSameInt f (size64 f.size) (fun _ a b => plain (mask (decide (laneInt (isSet f.U) b ≤ laneInt (isSet f.U) a)))) s

/-- VSHL (register): Vm shifted by Vn (rule R143). -/
def execVshlReg (f : FThreeSame) (s : State) : Out :=
  threeSameInt f false (fun _ n m => plain (shiftReg (isSet f.U) false n m)) s

/-- VADD (integer) (rule R144). -/
def execVaddInt (f : FThreeSame) (s : State) : Out := threeSameInt f false (fun _ a b => plain (a + b)) s

/-- VORR (register) (rule R145). -/
def execVorrReg (f : FThreeSame) (s : State) : Out := threeSameBits f (fun _ n m => n ||| m) s

/-- VTST (rule R146). -/
def execVtst (f : FThreeSame) (s : State) : Out :=
  threeSameInt f (size64 f.size) (fun _ a b => plain (mask (a &&& b != 0))) s

/-- VQSHL (register) (rule R147). -/
def execVqshlReg (f : FThreeSame) (s : State) : Out :=
  threeSameInt f false (fun _ n m => satShiftReg (isSet f.U) false n m) s

/-- VMLA (integer) (rule R148). -/
def execVmlaInt (f : FThreeSame) (s : State) : Out :=
  threeSameAcc f (size64 f.size) (fun _ d a b => plain (d + a * b)) s

/-- VRSHL (rule R149). -/
def execVrshl (f : FThreeSame) (s : State) : Out :=
  threeSameInt f false (fun _ n m => plain (shiftReg (isSet f.U) true n m)) s

/-- VQRSHL (rule R150). -/
def execVqrshl (f : FThreeSame) (s : State) : Out :=
  threeSameInt f false (fun _ n m => satShiftReg (isSet f.U) true n m) s

/-- VQDMULH (rule R151). -/
def execVqdmulh3same (f : FThreeSame) (s : State) : Out :=
  threeSameInt f (notDoubling f.size) (fun _ a b => satDoubleMulHigh false a b) s

/-- VPADD (integer) (rule R153). -/
def execVpaddInt (f : FThreeSame) (s : State) : Out :=
  threeSamePairs f (size64 f.size || isSet f.Q) (fun _ a b => plain (a + b)) s

/-- VMAX (integer) (rule R154). -/
def execVmaxInt (f : FThreeSame) (s : State) : Out :=
  threeSameInt f (size64 f.size) (fun _ a b => plain (maxInt (isSet f.U) a b)) s

/-- VORN (register) (rule R155). -/
def execVornReg (f : FThreeSame) (s : State) : Out := threeSameBits f (fun _ n m => n ||| ~~~m) s

/-- VMIN (integer) (rule R156). -/
def execVminInt (f : FThreeSame) (s : State) : Out :=
  threeSameInt f (size64 f.size) (fun _ a b => plain (minInt (isSet f.U) a b)) s

/-- VABD (integer) (rule R157). -/
def execVabdInt (f : FThreeSame) (s : State) : Out :=
  threeSameInt f (size64 f.size) (fun e a b => plain (absDiff e (isSet f.U) a b)) s

/-- VABA (rule R158). -/
def execVaba (f : FThreeSame) (s : State) : Out :=
  threeSameAcc f (size64 f.size) (fun e d a b => plain (d + absDiff e (isSet f.U) a b)) s

/-- VEOR (rule R166). -/
def execVeor (f : FThreeSame) (s : State) : Out := threeSameBits f (fun _ n m => n ^^^ m) s

/-- VMUL (integer and polynomial): U = 1 multiplies over GF(2), with 8-bit lanes only (rules R167, R197). -/
def execVmulIntPoly (f : FThreeSame) (s : State) : Out :=
  threeSameInt f (size64 f.size || (isSet f.U && f.size != 0b00#2))
    (fun e a b => plain (if isSet f.U then mulPoly e a b else a * b)) s

/-- VPMAX (integer) (rule R169). -/
def execVpmaxInt (f : FThreeSame) (s : State) : Out :=
  threeSamePairs f (size64 f.size) (fun _ a b => plain (maxInt (isSet f.U) a b)) s

/-- VBSL (rule R170). -/
def execVbsl (f : FThreeSame) (s : State) : Out := threeSameBits f (fun d n m => (n &&& d) ||| (m &&& ~~~d)) s

/-- VPMIN (integer) (rule R171). -/
def execVpminInt (f : FThreeSame) (s : State) : Out :=
  threeSamePairs f (size64 f.size) (fun _ a b => plain (minInt (isSet f.U) a b)) s

/-- VSUB (integer) (rule R178). -/
def execVsubInt (f : FThreeSame) (s : State) : Out := threeSameInt f false (fun _ a b => plain (a - b)) s

/-- VBIT (rule R179). -/
def execVbit (f : FThreeSame) (s : State) : Out := threeSameBits f (fun d n m => (n &&& m) ||| (d &&& ~~~m)) s

/-- VCEQ (register) A1 (rule R180). -/
def execVceqRegA1 (f : FThreeSame) (s : State) : Out :=
  threeSameInt f (size64 f.size) (fun _ a b => plain (mask (a == b))) s

/-- VMLS (integer) (rule R181). -/
def execVmlsInt (f : FThreeSame) (s : State) : Out :=
  threeSameAcc f (size64 f.size) (fun _ d a b => plain (d - a * b)) s

/-- VQRDMULH (rule R182). -/
def execVqrdmulh3same (f : FThreeSame) (s : State) : Out :=
  threeSameInt f (notDoubling f.size) (fun _ a b => satDoubleMulHigh true a b) s

/-- VQRDMLAH (rule R184). -/
def execVqrdmlah3same (f : FThreeSame) (s : State) : Out :=
  threeSameAcc f (notDoubling f.size) (fun _ d a b => satRoundDoubleMulAccHigh false d a b) s

/-- VBIF (rule R185). -/
def execVbif (f : FThreeSame) (s : State) : Out := threeSameBits f (fun d n m => (n &&& ~~~m) ||| (d &&& m)) s

/-- VQRDMLSH (rule R186). -/
def execVqrdmlsh3same (f : FThreeSame) (s : State) : Out :=
  threeSameAcc f (notDoubling f.size) (fun _ d a b => satRoundDoubleMulAccHigh true d a b) s

end Sys2Proof.Machine
end

