-- ==== Sys2Proof/Machine/ThreeSameFp.lean ====
section
/-! DEFINITION. The meanings of the floating-point rows of "Advanced SIMD three registers of the same length"
(41_asimd_three_same.md rules R121 to R177, R196, R198). -/

namespace Sys2Proof.Machine

/-- Half-precision lanes without the half-precision forms (rule R196, "needs `P6_HAVE_FP16`"). -/
def noHalf (half : Bool) (s : State) : Bool := half && !s.params.haveFp16

/-- A lane-by-lane floating-point operation on two vectors. -/
def threeSameFp (f : FThreeSame) (op : (e : Nat) → BitVec e → BitVec e → Lane e) (s : State) : Out :=
  simdOp (threeSameOdd f || noHalf f.half s)
    (binary (op (fpSize f.half)) f.d (regCount f.Q) f.n (regCount f.Q) f.m (regCount f.Q)) s

/-- A lane-by-lane floating-point operation on the destination and two vectors. -/
def threeSameFpAcc (f : FThreeSame) (op : (e : Nat) → BitVec e → BitVec e → BitVec e → Lane e) (s : State) : Out :=
  simdOp (threeSameOdd f || noHalf f.half s)
    (accumulate (op (fpSize f.half)) f.d (regCount f.Q) f.n (regCount f.Q) f.m (regCount f.Q)) s

/-- A floating-point operation on adjacent pairs of lanes. -/
def threeSameFpPairs (f : FThreeSame) (undef : Bool) (op : (e : Nat) → BitVec e → BitVec e → Lane e) (s : State) :
    Out :=
  simdOp (undef || noHalf f.half s) (pairwiseEffect (op (fpSize f.half)) f.d f.n f.m) s

/-- VFMA (rule R121). -/
def execVfma (f : FThreeSame) (s : State) : Out := threeSameFpAcc f (fun _ d a b => fpMulAdd d a b) s

/-- VADD (floating-point) (rule R122). -/
def execVaddFp (f : FThreeSame) (s : State) : Out := threeSameFp f (fun _ a b => fpAdd a b) s

/-- VMLA (floating-point) (rule R123). -/
def execVmlaFp (f : FThreeSame) (s : State) : Out := threeSameFpAcc f (fun _ d a b => fpMulThenAdd false d a b) s

/-- VCEQ (register) A2 (rule R124). -/
def execVceqRegA2 (f : FThreeSame) (s : State) : Out := threeSameFp f (fun _ a b => fpCompare .equal a b) s

/-- VMAX (floating-point) (rule R125). -/
def execVmaxFp (f : FThreeSame) (s : State) : Out := threeSameFp f (fun _ a b => fpMaxMin false a b) s

/-- VRECPS (rule R126). -/
def execVrecps (f : FThreeSame) (s : State) : Out := threeSameFp f (fun _ a b => fpStep false a b) s

/-- VFMS (rule R138). -/
def execVfms (f : FThreeSame) (s : State) : Out := threeSameFpAcc f (fun _ d a b => fpMulSub d a b) s

/-- VSUB (floating-point) (rule R139). -/
def execVsubFp (f : FThreeSame) (s : State) : Out := threeSameFp f (fun _ a b => fpSub a b) s

/-- VMLS (floating-point) (rule R140). -/
def execVmlsFp (f : FThreeSame) (s : State) : Out := threeSameFpAcc f (fun _ d a b => fpMulThenAdd true d a b) s

/-- VMIN (floating-point) (rule R141). -/
def execVminFp (f : FThreeSame) (s : State) : Out := threeSameFp f (fun _ a b => fpMaxMin true a b) s

/-- VRSQRTS (rule R142). -/
def execVrsqrts (f : FThreeSame) (s : State) : Out := threeSameFp f (fun _ a b => fpStep true a b) s

/-- VPADD (floating-point): 64-bit vectors (rule R160). -/
def execVpaddFp (f : FThreeSame) (s : State) : Out := threeSameFpPairs f (isSet f.Q) (fun _ a b => fpAdd a b) s

/-- VMUL (floating-point) (rule R161). -/
def execVmulFp (f : FThreeSame) (s : State) : Out := threeSameFp f (fun _ a b => fpMul a b) s

/-- VCGE (register) A2 (rule R162). -/
def execVcgeRegA2 (f : FThreeSame) (s : State) : Out := threeSameFp f (fun _ a b => fpCompare .greaterEqual a b) s

/-- VACGE (rule R163). -/
def execVacge (f : FThreeSame) (s : State) : Out :=
  threeSameFp f (fun _ a b => fpCompare .greaterEqual (fpAbs a) (fpAbs b)) s

/-- VPMAX (floating-point) (rule R164). -/
def execVpmaxFp (f : FThreeSame) (s : State) : Out := threeSameFpPairs f false (fun _ a b => fpMaxMin false a b) s

/-- VMAXNM (rule R165). -/
def execVmaxnm (f : FThreeSame) (s : State) : Out := threeSameFp f (fun _ a b => fpMaxMinNum false a b) s

/-- VABD (floating-point) (rule R173). -/
def execVabdFp (f : FThreeSame) (s : State) : Out := threeSameFp f (fun _ a b => fpAbsDiff a b) s

/-- VCGT (register) A2 (rule R174). -/
def execVcgtRegA2 (f : FThreeSame) (s : State) : Out := threeSameFp f (fun _ a b => fpCompare .greater a b) s

/-- VACGT (rule R175). -/
def execVacgt (f : FThreeSame) (s : State) : Out :=
  threeSameFp f (fun _ a b => fpCompare .greater (fpAbs a) (fpAbs b)) s

/-- VPMIN (floating-point) (rule R176). -/
def execVpminFp (f : FThreeSame) (s : State) : Out := threeSameFpPairs f false (fun _ a b => fpMaxMin true a b) s

/-- VMINNM (rule R177). -/
def execVminnm (f : FThreeSame) (s : State) : Out := threeSameFp f (fun _ a b => fpMaxMinNum true a b) s

end Sys2Proof.Machine
end

