-- ==== Sys2Proof/Machine/TwoRegMisc.lean ====
section
/-! DEFINITION. The meanings of "Advanced SIMD two registers misc" but for its AES and SHA rows, and of "duplicate
(scalar)" (42_asimd_two_reg_misc.md rules R201 to R256, R265). Where a row is UNDEFINED for a size or an odd register is
notes/assumptions/11.md (PRESUMED beyond rule R265). -/

namespace Sys2Proof.Machine

/-- A quadword operand with an odd register number (rule R265). -/
def twoRegOdd (f : FTwoRegMisc) : Bool := oddQuad f.Q f.d || oddQuad f.Q f.m

/-- A lane-by-lane operation on one vector of integers. -/
def twoRegInt (f : FTwoRegMisc) (undef : Bool) (op : (e : Nat) → BitVec e → Lane e) (s : State) : Out :=
  simdOp (twoRegOdd f || undef) (unary (op (esize f.size)) f.d (regCount f.Q) f.m (regCount f.Q)) s

/-- The lanes of the source rearranged into the destination. -/
def rearrange (e : Nat) (g : List (BitVec e) → List (BitVec e)) (d dCount m mCount : Nat) (s : State) : State :=
  s.putLanes d dCount ((g (s.readLanes e m mCount)).map plain)

/-- Each group of `k` lanes in reverse order. -/
def reverseGroups {e : Nat} (k : Nat) (xs : List (BitVec e)) : List (BitVec e) :=
  (List.range xs.length).map (fun i => xs.getD (i / k * k + (k - 1 - i % k)) 0)

/-- The lanes of groups of `group` bits reversed; UNDEFINED where a lane is not narrower than the group. -/
def reverseWithin (group : Nat) (f : FTwoRegMisc) (s : State) : Out :=
  simdOp (twoRegOdd f || decide (group ≤ esize f.size))
    (rearrange (esize f.size) (reverseGroups (group / esize f.size)) f.d (regCount f.Q) f.m (regCount f.Q)) s

/-- VREV64 (rule R201). -/
def execVrev64 (f : FTwoRegMisc) (s : State) : Out := reverseWithin 64 f s

/-- VREV32 (rule R202). -/
def execVrev32 (f : FTwoRegMisc) (s : State) : Out := reverseWithin 32 f s

/-- VREV16 (rule R203). -/
def execVrev16 (f : FTwoRegMisc) (s : State) : Out := reverseWithin 16 f s

/-- The sums of adjacent lanes in lanes twice as wide (rule R204). -/
def pairSums {e : Nat} (o : Nat) (unsigned : Bool) (xs : List (BitVec e)) : List (BitVec o) :=
  (pairs xs).map (fun p => wrapInt o (laneInt unsigned p.1 + laneInt unsigned p.2))

/-- VPADDL: opc2<0> selects unsigned (rules R204, R265). -/
def execVpaddl (f : FTwoRegMisc) (s : State) : Out :=
  simdOp (twoRegOdd f || size64 f.size)
    (fun s => s.putLanes f.d (regCount f.Q)
      ((pairSums (2 * esize f.size) (f.opc2.getLsbD 0) (s.readLanes (esize f.size) f.m (regCount f.Q))).map plain)) s

/-- VCLS (rule R209). -/
def execVcls (f : FTwoRegMisc) (s : State) : Out := twoRegInt f (size64 f.size) (fun _ a => plain (countLeadingSign a)) s

/-- Two results from two vectors: the destination and the source both change. A vector taken with itself gets a free
value in every register (notes/assumptions/18.md). -/
def exchange (e : Nat) (g : List (BitVec e) → List (BitVec e) → List (BitVec e) × List (BitVec e)) (d m count : Nat)
    (s : State) : State :=
  if d = m then s.putFree d count
  else
    let r := g (s.readLanes e d count) (s.readLanes e m count)
    (s.writeLanes e d count r.1).writeLanes e m count r.2

/-- VSWP (rule R210). -/
def execVswp (f : FTwoRegMisc) (s : State) : Out :=
  simdOp (twoRegOdd f) (exchange 64 (fun d m => (m, d)) f.d f.m (regCount f.Q)) s

/-- VCLZ (rule R211). -/
def execVclz (f : FTwoRegMisc) (s : State) : Out := twoRegInt f (size64 f.size) (fun _ a => plain (countLeadingZeros a)) s

/-- VCNT: bytes only (rule R212). -/
def execVcnt (f : FTwoRegMisc) (s : State) : Out := twoRegInt f (f.size != 0b00#2) (fun _ a => plain (popCount a)) s

/-- VMVN (register) (rule R213). -/
def execVmvnReg (f : FTwoRegMisc) (s : State) : Out := twoRegInt f (f.size != 0b00#2) (fun _ a => plain (~~~a)) s

/-- VPADAL: opc2<0> selects unsigned (rules R214, R265). -/
def execVpadal (f : FTwoRegMisc) (s : State) : Out :=
  simdOp (twoRegOdd f || size64 f.size)
    (fun s => s.putLanes f.d (regCount f.Q)
      (List.zipWith (fun d x => plain (d + x)) (s.readLanes (2 * esize f.size) f.d (regCount f.Q))
        (pairSums (2 * esize f.size) (f.opc2.getLsbD 0) (s.readLanes (esize f.size) f.m (regCount f.Q))))) s

/-- VQABS (rule R215). -/
def execVqabs (f : FTwoRegMisc) (s : State) : Out :=
  twoRegInt f (size64 f.size) (fun e a => saturate e false a.toInt.natAbs) s

/-- VQNEG (rule R216). -/
def execVqneg (f : FTwoRegMisc) (s : State) : Out := twoRegInt f (size64 f.size) (fun e a => saturate e false (-a.toInt)) s

/-- opc2<3> selects floating-point lanes (rule R265). -/
def miscFloat (f : FTwoRegMisc) : Bool := f.opc2.getLsbD 3

/-- No floating-point lanes of this size: 16 bits need the half-precision forms (rules R196, R265). -/
def noFloat (size : BitVec 2) (s : State) : Bool :=
  !(size == 0b10#2 || (size == 0b01#2 && s.params.haveFp16))

/-- The rows with integer and floating-point lanes (rule R265, "in rows 01 x..."). -/
def twoRegEither (f : FTwoRegMisc) (int fp : (e : Nat) → BitVec e → Lane e) (s : State) : Out :=
  twoRegInt f (size64 f.size || (miscFloat f && noFloat f.size s)) (if miscFloat f then fp else int) s

/-- VCGT (immediate #0) (rule R217). -/
def execVcgtImm0 (f : FTwoRegMisc) (s : State) : Out :=
  twoRegEither f (fun _ a => plain (mask (decide (0 < a.toInt)))) (fun e a => fpCompare .greater a (fpZero e false)) s

/-- VCGE (immediate #0) (rule R218). -/
def execVcgeImm0 (f : FTwoRegMisc) (s : State) : Out :=
  twoRegEither f (fun _ a => plain (mask (decide (0 ≤ a.toInt))))
    (fun e a => fpCompare .greaterEqual a (fpZero e false)) s

/-- VCEQ (immediate #0) (rule R219). -/
def execVceqImm0 (f : FTwoRegMisc) (s : State) : Out :=
  twoRegEither f (fun _ a => plain (mask (a == 0))) (fun e a => fpCompare .equal a (fpZero e false)) s

/-- VCLE (immediate #0) (rule R220). -/
def execVcleImm0 (f : FTwoRegMisc) (s : State) : Out :=
  twoRegEither f (fun _ a => plain (mask (decide (a.toInt ≤ 0))))
    (fun e a => fpCompare .greaterEqual (fpZero e false) a) s

/-- VCLT (immediate #0) (rule R221). -/
def execVcltImm0 (f : FTwoRegMisc) (s : State) : Out :=
  twoRegEither f (fun _ a => plain (mask (decide (a.toInt < 0)))) (fun e a => fpCompare .greater (fpZero e false) a) s

/-- VABS (rule R222). -/
def execVabs (f : FTwoRegMisc) (s : State) : Out :=
  twoRegEither f (fun e a => plain (wrapInt e a.toInt.natAbs)) (fun _ a => plain (fpAbs a)) s

/-- VNEG (rule R223). -/
def execVneg (f : FTwoRegMisc) (s : State) : Out :=
  twoRegEither f (fun _ a => plain (-a)) (fun _ a => plain (fpNeg a)) s

/-- The lanes at even (`k` = 0) or odd (`k` = 1) places. -/
def everyOther {e : Nat} (k : Nat) (xs : List (BitVec e)) : List (BitVec e) :=
  (pairs xs).map (fun p => if k = 0 then p.1 else p.2)

/-- Two lists of lanes taken in turn. -/
def interleave {e : Nat} (xs ys : List (BitVec e)) : List (BitVec e) :=
  (List.zip xs ys).flatMap (fun p => [p.1, p.2])

/-- VTRN (rule R225). -/
def execVtrn (f : FTwoRegMisc) (s : State) : Out :=
  simdOp (twoRegOdd f || size64 f.size)
    (exchange (esize f.size)
      (fun d m => (interleave (everyOther 0 d) (everyOther 0 m), interleave (everyOther 1 d) (everyOther 1 m)))
      f.d f.m (regCount f.Q)) s

/-- No such lanes for VUZP and VZIP: 64 bits, and 32 bits in a doubleword (notes/assumptions/11.md). -/
def noZip (f : FTwoRegMisc) : Bool := size64 f.size || (!isSet f.Q && f.size == 0b10#2)

/-- VUZP (rule R226). -/
def execVuzp (f : FTwoRegMisc) (s : State) : Out :=
  simdOp (twoRegOdd f || noZip f)
    (exchange (esize f.size) (fun d m => (everyOther 0 (d ++ m), everyOther 1 (d ++ m))) f.d f.m (regCount f.Q)) s

/-- VZIP (rule R227). -/
def execVzip (f : FTwoRegMisc) (s : State) : Out :=
  simdOp (twoRegOdd f || noZip f)
    (exchange (esize f.size)
      (fun d m => ((interleave d m).take d.length, (interleave d m).drop d.length)) f.d f.m (regCount f.Q)) s

/-- A row that narrows each lane of a quadword into a doubleword (rule R265). -/
def narrow (f : FTwoRegMisc) (op : (e : Nat) → BitVec (2 * e) → Lane e) (s : State) : Out :=
  simdOp (size64 f.size || odd f.m) (unary (op (esize f.size)) f.d 1 f.m 2) s

/-- VMOVN (rule R228). -/
def execVmovn (f : FTwoRegMisc) (s : State) : Out := narrow f (fun e a => plain (a.setWidth e)) s

/-- VQMOVUN (rule R229). -/
def execVqmovun (f : FTwoRegMisc) (s : State) : Out := narrow f (fun e a => saturate e true a.toInt) s

/-- VQMOVN: bit 6 selects unsigned (rule R230). -/
def execVqmovn (f : FTwoRegMisc) (s : State) : Out :=
  narrow f (fun e a => saturate e (isSet f.Q) (laneInt (isSet f.Q) a)) s

/-- VSHLL by the element size (rule R231). -/
def execVshllMisc (f : FTwoRegMisc) (s : State) : Out :=
  simdOp (size64 f.size || odd f.d)
    (unary (a := esize f.size) (o := 2 * esize f.size)
      (fun a => plain (a.setWidth (2 * esize f.size) <<< esize f.size)) f.d 2 f.m 1) s

/-- A lane-by-lane floating-point operation on one vector. -/
def twoRegFp (f : FTwoRegMisc) (op : (e : Nat) → BitVec e → Lane e) (s : State) : Out :=
  twoRegInt f (noFloat f.size s) op s

/-- VRINTN (rule R234). -/
def execVrintnAsimd (f : FTwoRegMisc) (s : State) : Out := twoRegFp f (fun _ a => fpRoundInt .nearestEven false a) s

/-- VRINTX (rule R235). -/
def execVrintxAsimd (f : FTwoRegMisc) (s : State) : Out := twoRegFp f (fun _ a => fpRoundInt .nearestEven true a) s

/-- VRINTA (rule R236). -/
def execVrintaAsimd (f : FTwoRegMisc) (s : State) : Out := twoRegFp f (fun _ a => fpRoundInt .nearestAway false a) s

/-- VRINTZ (rule R237). -/
def execVrintzAsimd (f : FTwoRegMisc) (s : State) : Out := twoRegFp f (fun _ a => fpRoundInt .towardZero false a) s

/-- FPSCR.AHP, bit 26: the alternative half-precision format (PRESUMED, notes/assumptions/16.md). -/
def State.alternativeHalf (s : State) : Bool := s.fpscr.getLsbD 26

/-- VCVT from single to half precision (rule R238). -/
def execVcvtSpToHp (f : FTwoRegMisc) (s : State) : Out :=
  simdOp (f.size != 0b01#2 || odd f.m) (unary (fpToHalf s.alternativeHalf) f.d 1 f.m 2) s

/-- VRINTM (rule R239). -/
def execVrintmAsimd (f : FTwoRegMisc) (s : State) : Out := twoRegFp f (fun _ a => fpRoundInt .minusInfinity false a) s

/-- VCVT from half to single precision (rule R240). -/
def execVcvtHpToSp (f : FTwoRegMisc) (s : State) : Out :=
  simdOp (f.size != 0b01#2 || odd f.d) (unary (fpFromHalf s.alternativeHalf) f.d 2 f.m 1) s

/-- VRINTP (rule R241). -/
def execVrintpAsimd (f : FTwoRegMisc) (s : State) : Out := twoRegFp f (fun _ a => fpRoundInt .plusInfinity false a) s

/-- VCVTA: opc2<0> selects unsigned (rule R242). -/
def execVcvtaAsimd (f : FTwoRegMisc) (s : State) : Out :=
  twoRegFp f (fun _ a => fpToFixed .nearestAway (f.opc2.getLsbD 0) 0 a) s

/-- VCVTN (rule R243). -/
def execVcvtnAsimd (f : FTwoRegMisc) (s : State) : Out :=
  twoRegFp f (fun _ a => fpToFixed .nearestEven (f.opc2.getLsbD 0) 0 a) s

/-- VCVTP (rule R244). -/
def execVcvtpAsimd (f : FTwoRegMisc) (s : State) : Out :=
  twoRegFp f (fun _ a => fpToFixed .plusInfinity (f.opc2.getLsbD 0) 0 a) s

/-- VCVTM (rule R245). -/
def execVcvtmAsimd (f : FTwoRegMisc) (s : State) : Out :=
  twoRegFp f (fun _ a => fpToFixed .minusInfinity (f.opc2.getLsbD 0) 0 a) s

/-- The estimate rows: opc2<1> selects floating-point; the integer form has 32-bit lanes only (rules R246, R265;
notes/assumptions/11.md). -/
def estimate (f : FTwoRegMisc) (int fp : (e : Nat) → BitVec e → Lane e) (s : State) : Out :=
  twoRegInt f (noFloat f.size s || (!f.opc2.getLsbD 1 && f.size != 0b10#2)) (if f.opc2.getLsbD 1 then fp else int) s

/-- VRECPE (rule R246). -/
def execVrecpe (f : FTwoRegMisc) (s : State) : Out :=
  estimate f (fun _ a => plain (unsignedRecipEstimate a)) (fun _ a => fpRecipEstimate a) s

/-- VRSQRTE (rule R247). -/
def execVrsqrte (f : FTwoRegMisc) (s : State) : Out :=
  estimate f (fun _ a => plain (unsignedRecipSqrtEstimate a)) (fun _ a => fpRecipSqrtEstimate a) s

/-- VCVT between floating-point and integer: opc2<1:0> selects direction and signedness (rules R248, R265). Those rules do
not say which value is which: opc2<1> = 1 is to integer and opc2<0> = 1 is unsigned, as in the family (PRESUMED,
notes/assumptions/29.md). -/
def execVcvtFpIntAsimd (f : FTwoRegMisc) (s : State) : Out :=
  twoRegFp f
    (fun _ a =>
      if f.opc2.getLsbD 1 then fpToFixed .towardZero (f.opc2.getLsbD 0) 0 a else fpFromFixed (f.opc2.getLsbD 0) 0 a) s

/-- VDUP (scalar): imm4 = x000 is UNDEFINED (rules R256, R265). -/
def execVdupScalar (f : FDup) (s : State) : Out :=
  simdOp (oddQuad f.Q f.d || f.imm4 &&& 0b0111#4 == 0b0000#4)
    (fun s => s.putLanes f.d (regCount f.Q)
      (List.replicate (regCount f.Q * (64 / f.esize)) (plain (lane f.esize (s.readD f.m) f.index)))) s

end Sys2Proof.Machine
end

