-- ==== Sys2Proof/Machine/TwoRegScalar.lean ====
section
/-! DEFINITION. The meanings of "Advanced SIMD two registers and a scalar" (43_asimd_three_diff_scalar.md rules R301 to
R313, R320). Where a row is UNDEFINED beyond rule R320 is notes/assumptions/11.md (PRESUMED). -/

namespace Sys2Proof.Machine

/-- The scalar: one lane of the register of rule R320. -/
def scalarOf (f : FTwoRegScalar) (e : Nat) (s : State) : BitVec e := lane e (s.readD f.m) f.index

/-- A row on vectors of Q's size with an accumulator; size = 00 is UNDEFINED (rule R320). -/
def byScalarAcc (f : FTwoRegScalar) (undef : Bool) (op : (e : Nat) → BitVec e → BitVec e → BitVec e → Lane e)
    (s : State) : Out :=
  simdOp (f.size == 0b00#2 || oddQuad f.Q f.d || oddQuad f.Q f.n || undef)
    (accumulateOne (fun d a => op (esize f.size) d a (scalarOf f (esize f.size) s))
      f.d (regCount f.Q) f.n (regCount f.Q)) s

/-- A row on vectors of Q's size. -/
def byScalar (f : FTwoRegScalar) (undef : Bool) (op : (e : Nat) → BitVec e → BitVec e → Lane e) (s : State) : Out :=
  simdOp (f.size == 0b00#2 || oddQuad f.Q f.d || oddQuad f.Q f.n || undef)
    (unary (fun a => op (esize f.size) a (scalarOf f (esize f.size) s)) f.d (regCount f.Q) f.n (regCount f.Q)) s

/-- A long row with an accumulator. -/
def longScalarAcc (f : FTwoRegScalar) (op : (e : Nat) → BitVec (2 * e) → BitVec e → BitVec e → Lane (2 * e))
    (s : State) : Out :=
  simdOp (f.size == 0b00#2 || odd f.d)
    (accumulateOne (fun d a => op (esize f.size) d a (scalarOf f (esize f.size) s)) f.d 2 f.n 1) s

/-- A long row. -/
def longScalar (f : FTwoRegScalar) (op : (e : Nat) → BitVec e → BitVec e → Lane (2 * e)) (s : State) : Out :=
  simdOp (f.size == 0b00#2 || odd f.d)
    (unary (fun a => op (esize f.size) a (scalarOf f (esize f.size) s)) f.d 2 f.n 1) s

/-- opc<0> selects floating-point lanes (rule R320, "the x (w[8])"). -/
def scalarFloat (f : FTwoRegScalar) : Bool := f.opc.getLsbD 0

/-- Half-precision lanes without the half-precision forms. -/
def scalarNoHalf (f : FTwoRegScalar) (s : State) : Bool := scalarFloat f && noHalf (f.size == 0b01#2) s

/-- VMLA (by scalar) (rule R301). -/
def execVmlaScalar (f : FTwoRegScalar) (s : State) : Out :=
  byScalarAcc f (scalarNoHalf f s)
    (fun _ d a b => if scalarFloat f then fpMulThenAdd false d a b else plain (d + a * b)) s

/-- VQDMLAL (by scalar) (rule R302). -/
def execVqdmlalScalar (f : FTwoRegScalar) (s : State) : Out :=
  longScalarAcc f (fun _ d a b => satDoubleMulAcc false d a b) s

/-- VMLAL (by scalar): w[24] selects unsigned (rule R303). -/
def execVmlalScalar (f : FTwoRegScalar) (s : State) : Out :=
  longScalarAcc f (fun e d a b => plain (d + mulInt (2 * e) (isSet f.Q) a b)) s

/-- VQDMLSL (by scalar) (rule R304). -/
def execVqdmlslScalar (f : FTwoRegScalar) (s : State) : Out :=
  longScalarAcc f (fun _ d a b => satDoubleMulAcc true d a b) s

/-- VMLS (by scalar) (rule R305). -/
def execVmlsScalar (f : FTwoRegScalar) (s : State) : Out :=
  byScalarAcc f (scalarNoHalf f s)
    (fun _ d a b => if scalarFloat f then fpMulThenAdd true d a b else plain (d - a * b)) s

/-- VQDMULL (by scalar) (rule R306). -/
def execVqdmullScalar (f : FTwoRegScalar) (s : State) : Out :=
  longScalar f (fun e a b => satDoubleMul (2 * e) a b) s

/-- VMLSL (by scalar): w[24] selects unsigned (rule R307). -/
def execVmlslScalar (f : FTwoRegScalar) (s : State) : Out :=
  longScalarAcc f (fun e d a b => plain (d - mulInt (2 * e) (isSet f.Q) a b)) s

/-- VMUL (by scalar) (rule R308). -/
def execVmulScalar (f : FTwoRegScalar) (s : State) : Out :=
  byScalar f (scalarNoHalf f s) (fun _ a b => if scalarFloat f then fpMul a b else plain (a * b)) s

/-- VMULL (by scalar): w[24] selects unsigned (rule R309). -/
def execVmullScalar (f : FTwoRegScalar) (s : State) : Out :=
  longScalar f (fun e a b => plain (mulInt (2 * e) (isSet f.Q) a b)) s

/-- VQDMULH (by scalar) (rule R310). -/
def execVqdmulhScalar (f : FTwoRegScalar) (s : State) : Out :=
  byScalar f false (fun _ a b => satDoubleMulHigh false a b) s

/-- VQRDMULH (by scalar) (rule R311). -/
def execVqrdmulhScalar (f : FTwoRegScalar) (s : State) : Out :=
  byScalar f false (fun _ a b => satDoubleMulHigh true a b) s

/-- VQRDMLAH (by scalar) (rule R312). -/
def execVqrdmlahScalar (f : FTwoRegScalar) (s : State) : Out :=
  byScalarAcc f false (fun _ d a b => satRoundDoubleMulAccHigh false d a b) s

/-- VQRDMLSH (by scalar) (rule R313). -/
def execVqrdmlshScalar (f : FTwoRegScalar) (s : State) : Out :=
  byScalarAcc f false (fun _ d a b => satRoundDoubleMulAccHigh true d a b) s

end Sys2Proof.Machine
end

