-- ==== Sys2Proof/Machine/TwoRegShift.lean ====
section
/-! DEFINITION. The meanings of "Advanced SIMD two registers and shift amount" (44_asimd_shift_imm.md rules R351 to R368,
R375). Where a row is UNDEFINED beyond rule R375 is notes/assumptions/11.md (PRESUMED). -/

namespace Sys2Proof.Machine

/-- A quadword operand with an odd register number (rule R196). -/
def shiftOdd (f : FTwoRegShift) : Bool := oddQuad f.Q f.d || oddQuad f.Q f.m

/-- A lane-by-lane operation on one vector. -/
def shiftRow (f : FTwoRegShift) (op : (e : Nat) → BitVec e → Lane e) (s : State) : Out :=
  simdOp (shiftOdd f) (unary (op f.esize) f.d (regCount f.Q) f.m (regCount f.Q)) s

/-- A lane-by-lane operation on the destination and one vector. -/
def shiftRowAcc (f : FTwoRegShift) (op : (e : Nat) → BitVec e → BitVec e → Lane e) (s : State) : Out :=
  simdOp (shiftOdd f) (accumulateOne (op f.esize) f.d (regCount f.Q) f.m (regCount f.Q)) s

/-- A row that narrows each lane of a quadword; L = 1 is no such row (rule R375). -/
def narrowRow (f : FTwoRegShift) (op : (e : Nat) → BitVec (2 * e) → Lane e) (s : State) : Out :=
  simdOp (isSet f.L || odd f.m) (unary (op f.esize) f.d 1 f.m 2) s

/-- A row that lengthens each lane of a doubleword and shifts it left by imm6 - esize; L = 1 is no such row
(rule R375). -/
def lengthenRow (f : FTwoRegShift) (s : State) : Out :=
  simdOp (isSet f.L || odd f.d)
    (unary (a := f.esize) (o := 2 * f.esize) (fun a => plain (widen (2 * f.esize) (isSet f.U) a <<< f.left))
      f.d 2 f.m 1) s

/-- VSHR (rule R351). -/
def execVshr (f : FTwoRegShift) (s : State) : Out :=
  shiftRow f (fun e a => plain (wrapInt e (shiftRightInt (isSet f.U) false f.right a))) s

/-- VSRA (rule R352). -/
def execVsra (f : FTwoRegShift) (s : State) : Out :=
  shiftRowAcc f (fun e d a => plain (d + wrapInt e (shiftRightInt (isSet f.U) false f.right a))) s

/-- VMOVL: lengthen with no shift, and for an imm3H with more than one bit the shift that VSHLL has there
(rules R353, R375; notes/assumptions/17.md). -/
def execVmovl (f : FTwoRegShift) (s : State) : Out := lengthenRow f s

/-- VRSHR (rule R354). -/
def execVrshr (f : FTwoRegShift) (s : State) : Out :=
  shiftRow f (fun e a => plain (wrapInt e (shiftRightInt (isSet f.U) true f.right a))) s

/-- VRSRA (rule R355). -/
def execVrsra (f : FTwoRegShift) (s : State) : Out :=
  shiftRowAcc f (fun e d a => plain (d + wrapInt e (shiftRightInt (isSet f.U) true f.right a))) s

/-- VQSHL (immediate) (rule R356). -/
def execVqshlImm (f : FTwoRegShift) (s : State) : Out :=
  shiftRow f (fun e a => saturate e (isSet f.U) (shiftInt (laneInt (isSet f.U) a) f.left)) s

/-- VQSHRN (rule R357). -/
def execVqshrn (f : FTwoRegShift) (s : State) : Out :=
  narrowRow f (fun e a => saturate e (isSet f.U) (shiftRightInt (isSet f.U) false f.right a)) s

/-- VQRSHRN (rule R358). -/
def execVqrshrn (f : FTwoRegShift) (s : State) : Out :=
  narrowRow f (fun e a => saturate e (isSet f.U) (shiftRightInt (isSet f.U) true f.right a)) s

/-- VSHLL (immediate) (rule R359). -/
def execVshllImm (f : FTwoRegShift) (s : State) : Out := lengthenRow f s

/-- The fraction bits of the fixed-point conversions: 64 - imm6 (rule R375). -/
def fractionBits (f : FTwoRegShift) : Nat := 64 - f.imm6

/-- Half-precision lanes: opc<1> = 0, as in the family (PRESUMED, notes/assumptions/29.md). Rules R360 and R375 say only
that opc<1:0> selects direction and width. -/
def fixedHalf (f : FTwoRegShift) : Bool := !f.opc.getLsbD 1

/-- No such fixed-point conversion: L = 1, more fraction bits than lane bits, or half-precision lanes that are not
implemented (notes/assumptions/11.md). -/
def fixedUndef (f : FTwoRegShift) (s : State) : Bool :=
  isSet f.L || decide (fpSize (fixedHalf f) < fractionBits f) || noHalf (fixedHalf f) s

/-- VCVT between floating-point and fixed-point: opc<1:0> and U select direction, width and signedness (rules R360, R375).
Those rules do not say which bit of opc is which, nor with which value: opc<0> = 1 is to fixed-point and opc<1> = 0 is half
precision, as in the family (PRESUMED, notes/assumptions/29.md). They name no rounding either: to fixed-point it is toward
zero, from fixed-point to nearest even (PRESUMED, notes/assumptions/23.md). -/
def execVcvtFpFixedAsimd (f : FTwoRegShift) (s : State) : Out :=
  simdOp (shiftOdd f || fixedUndef f s)
    (unary (a := fpSize (fixedHalf f)) (o := fpSize (fixedHalf f))
      (fun a =>
        if f.opc.getLsbD 0 then fpToFixed .towardZero (isSet f.U) (fractionBits f) a
        else fpFromFixed (isSet f.U) (fractionBits f) a)
      f.d (regCount f.Q) f.m (regCount f.Q)) s

/-- VSHL (immediate) (rule R361). -/
def execVshlImm (f : FTwoRegShift) (s : State) : Out := shiftRow f (fun _ a => plain (a <<< f.left)) s

/-- VSHRN (rule R362). -/
def execVshrn (f : FTwoRegShift) (s : State) : Out :=
  narrowRow f (fun e a => plain (wrapInt e (shiftRightInt true false f.right a))) s

/-- VRSHRN (rule R363). -/
def execVrshrn (f : FTwoRegShift) (s : State) : Out :=
  narrowRow f (fun e a => plain (wrapInt e (shiftRightInt true true f.right a))) s

/-- VSRI (rule R364). -/
def execVsri (f : FTwoRegShift) (s : State) : Out :=
  shiftRowAcc f (fun _ d a => plain (shiftRightInsert f.right d a)) s

/-- VSLI (rule R365). -/
def execVsli (f : FTwoRegShift) (s : State) : Out :=
  shiftRowAcc f (fun _ d a => plain (shiftLeftInsert f.left d a)) s

/-- VQSHLU (immediate): signed operand, unsigned result (rule R366). -/
def execVqshluImm (f : FTwoRegShift) (s : State) : Out :=
  shiftRow f (fun e a => saturate e true (shiftInt a.toInt f.left)) s

/-- VQSHRUN: signed operand, unsigned result (rule R367). -/
def execVqshrun (f : FTwoRegShift) (s : State) : Out :=
  narrowRow f (fun e a => saturate e true (shiftRightInt false false f.right a)) s

/-- VQRSHRUN: signed operand, unsigned result (rule R368). -/
def execVqrshrun (f : FTwoRegShift) (s : State) : Out :=
  narrowRow f (fun e a => saturate e true (shiftRightInt false true f.right a)) s

end Sys2Proof.Machine
end

