-- ==== Sys2Proof/Machine/Dispatch.lean ====
section
/-! DEFINITION. One arm per constructor of `Instr`, each a call of its meaning. -/

namespace Sys2Proof.Machine

def exec (i : Instr) (s : State) : Host.Outcome State Fault Refusal :=
  match i with
  | .unallocatedTop5 f => Sys2Proof.Machine.execUnallocatedTop5 f s
  | .notInSourceTop f => Sys2Proof.Machine.execNotInSourceTop f s
  | .unallocatedMisc1 f => Sys2Proof.Machine.execUnallocatedMisc1 f s
  | .unallocatedMisc3 f => Sys2Proof.Machine.execUnallocatedMisc3 f s
  | .unallocatedMisc4 f => Sys2Proof.Machine.execUnallocatedMisc4 f s
  | .unallocatedMisc5 f => Sys2Proof.Machine.execUnallocatedMisc5 f s
  | .setpan f => Sys2Proof.Machine.execSetpan f s
  | .unallocatedMisc7 f => Sys2Proof.Machine.execUnallocatedMisc7 f s
  | .constrainedUnpredictableMisc8 f => Sys2Proof.Machine.execConstrainedUnpredictableMisc8 f s
  | .unallocatedMisc9 f => Sys2Proof.Machine.execUnallocatedMisc9 f s
  | .unallocatedMisc10 f => Sys2Proof.Machine.execUnallocatedMisc10 f s
  | .unallocatedMisc11 f => Sys2Proof.Machine.execUnallocatedMisc11 f s
  | .unallocatedMisc12 f => Sys2Proof.Machine.execUnallocatedMisc12 f s
  | .unallocatedMisc13 f => Sys2Proof.Machine.execUnallocatedMisc13 f s
  | .unallocatedMisc14 f => Sys2Proof.Machine.execUnallocatedMisc14 f s
  | .unallocatedMisc15 f => Sys2Proof.Machine.execUnallocatedMisc15 f s
  | .setend f => Sys2Proof.Machine.execSetend f s
  | .cps f => Sys2Proof.Machine.execCps f s
  | .unallocatedCps3 f => Sys2Proof.Machine.execUnallocatedCps3 f s
  | .vfma f => Sys2Proof.Machine.execVfma f s
  | .vaddFp f => Sys2Proof.Machine.execVaddFp f s
  | .vmlaFp f => Sys2Proof.Machine.execVmlaFp f s
  | .vceqRegA2 f => Sys2Proof.Machine.execVceqRegA2 f s
  | .vmaxFp f => Sys2Proof.Machine.execVmaxFp f s
  | .vrecps f => Sys2Proof.Machine.execVrecps f s
  | .vhadd f => Sys2Proof.Machine.execVhadd f s
  | .vandReg f => Sys2Proof.Machine.execVandReg f s
  | .vqadd f => Sys2Proof.Machine.execVqadd f s
  | .vrhadd f => Sys2Proof.Machine.execVrhadd f s
  | .sha1c f => Sys2Proof.Machine.execSha1c f s
  | .vhsub f => Sys2Proof.Machine.execVhsub f s
  | .vbicReg f => Sys2Proof.Machine.execVbicReg f s
  | .vqsub f => Sys2Proof.Machine.execVqsub f s
  | .vcgtRegA1 f => Sys2Proof.Machine.execVcgtRegA1 f s
  | .vcgeRegA1 f => Sys2Proof.Machine.execVcgeRegA1 f s
  | .sha1p f => Sys2Proof.Machine.execSha1p f s
  | .vfms f => Sys2Proof.Machine.execVfms f s
  | .vsubFp f => Sys2Proof.Machine.execVsubFp f s
  | .vmlsFp f => Sys2Proof.Machine.execVmlsFp f s
  | .unallocatedThreeSame21 f => Sys2Proof.Machine.execUnallocatedThreeSame21 f s
  | .vminFp f => Sys2Proof.Machine.execVminFp f s
  | .vrsqrts f => Sys2Proof.Machine.execVrsqrts f s
  | .vshlReg f => Sys2Proof.Machine.execVshlReg f s
  | .vaddInt f => Sys2Proof.Machine.execVaddInt f s
  | .vorrReg f => Sys2Proof.Machine.execVorrReg f s
  | .vtst f => Sys2Proof.Machine.execVtst f s
  | .vqshlReg f => Sys2Proof.Machine.execVqshlReg f s
  | .vmlaInt f => Sys2Proof.Machine.execVmlaInt f s
  | .vrshl f => Sys2Proof.Machine.execVrshl f s
  | .vqrshl f => Sys2Proof.Machine.execVqrshl f s
  | .vqdmulh3same f => Sys2Proof.Machine.execVqdmulh3same f s
  | .sha1m f => Sys2Proof.Machine.execSha1m f s
  | .vpaddInt f => Sys2Proof.Machine.execVpaddInt f s
  | .vmaxInt f => Sys2Proof.Machine.execVmaxInt f s
  | .vornReg f => Sys2Proof.Machine.execVornReg f s
  | .vminInt f => Sys2Proof.Machine.execVminInt f s
  | .vabdInt f => Sys2Proof.Machine.execVabdInt f s
  | .vaba f => Sys2Proof.Machine.execVaba f s
  | .sha1su0 f => Sys2Proof.Machine.execSha1su0 f s
  | .vpaddFp f => Sys2Proof.Machine.execVpaddFp f s
  | .vmulFp f => Sys2Proof.Machine.execVmulFp f s
  | .vcgeRegA2 f => Sys2Proof.Machine.execVcgeRegA2 f s
  | .vacge f => Sys2Proof.Machine.execVacge f s
  | .vpmaxFp f => Sys2Proof.Machine.execVpmaxFp f s
  | .vmaxnm f => Sys2Proof.Machine.execVmaxnm f s
  | .veor f => Sys2Proof.Machine.execVeor f s
  | .vmulIntPoly f => Sys2Proof.Machine.execVmulIntPoly f s
  | .sha256h f => Sys2Proof.Machine.execSha256h f s
  | .vpmaxInt f => Sys2Proof.Machine.execVpmaxInt f s
  | .vbsl f => Sys2Proof.Machine.execVbsl f s
  | .vpminInt f => Sys2Proof.Machine.execVpminInt f s
  | .unallocatedThreeSame53 f => Sys2Proof.Machine.execUnallocatedThreeSame53 f s
  | .sha256h2 f => Sys2Proof.Machine.execSha256h2 f s
  | .vabdFp f => Sys2Proof.Machine.execVabdFp f s
  | .vcgtRegA2 f => Sys2Proof.Machine.execVcgtRegA2 f s
  | .vacgt f => Sys2Proof.Machine.execVacgt f s
  | .vpminFp f => Sys2Proof.Machine.execVpminFp f s
  | .vminnm f => Sys2Proof.Machine.execVminnm f s
  | .vsubInt f => Sys2Proof.Machine.execVsubInt f s
  | .vbit f => Sys2Proof.Machine.execVbit f s
  | .vceqRegA1 f => Sys2Proof.Machine.execVceqRegA1 f s
  | .vmlsInt f => Sys2Proof.Machine.execVmlsInt f s
  | .vqrdmulh3same f => Sys2Proof.Machine.execVqrdmulh3same f s
  | .sha256su1 f => Sys2Proof.Machine.execSha256su1 f s
  | .vqrdmlah3same f => Sys2Proof.Machine.execVqrdmlah3same f s
  | .vbif f => Sys2Proof.Machine.execVbif f s
  | .vqrdmlsh3same f => Sys2Proof.Machine.execVqrdmlsh3same f s
  | .unallocatedThreeSame69 f => Sys2Proof.Machine.execUnallocatedThreeSame69 f s
  | .notInSourceThreeSame f => Sys2Proof.Machine.execNotInSourceThreeSame f s
  | .notInSourceTwoRegThreeDiff f => Sys2Proof.Machine.execNotInSourceTwoRegThreeDiff f s
  | .vrev64 f => Sys2Proof.Machine.execVrev64 f s
  | .vrev32 f => Sys2Proof.Machine.execVrev32 f s
  | .vrev16 f => Sys2Proof.Machine.execVrev16 f s
  | .unallocatedTwoRegMisc4 f => Sys2Proof.Machine.execUnallocatedTwoRegMisc4 f s
  | .vpaddl f => Sys2Proof.Machine.execVpaddl f s
  | .aese f => Sys2Proof.Machine.execAese f s
  | .aesd f => Sys2Proof.Machine.execAesd f s
  | .aesmc f => Sys2Proof.Machine.execAesmc f s
  | .aesimc f => Sys2Proof.Machine.execAesimc f s
  | .vcls f => Sys2Proof.Machine.execVcls f s
  | .vswp f => Sys2Proof.Machine.execVswp f s
  | .vclz f => Sys2Proof.Machine.execVclz f s
  | .vcnt f => Sys2Proof.Machine.execVcnt f s
  | .vmvnReg f => Sys2Proof.Machine.execVmvnReg f s
  | .vpadal f => Sys2Proof.Machine.execVpadal f s
  | .vqabs f => Sys2Proof.Machine.execVqabs f s
  | .vqneg f => Sys2Proof.Machine.execVqneg f s
  | .vcgtImm0 f => Sys2Proof.Machine.execVcgtImm0 f s
  | .vcgeImm0 f => Sys2Proof.Machine.execVcgeImm0 f s
  | .vceqImm0 f => Sys2Proof.Machine.execVceqImm0 f s
  | .vcleImm0 f => Sys2Proof.Machine.execVcleImm0 f s
  | .vcltImm0 f => Sys2Proof.Machine.execVcltImm0 f s
  | .vabs f => Sys2Proof.Machine.execVabs f s
  | .vneg f => Sys2Proof.Machine.execVneg f s
  | .sha1h f => Sys2Proof.Machine.execSha1h f s
  | .vtrn f => Sys2Proof.Machine.execVtrn f s
  | .vuzp f => Sys2Proof.Machine.execVuzp f s
  | .vzip f => Sys2Proof.Machine.execVzip f s
  | .vmovn f => Sys2Proof.Machine.execVmovn f s
  | .vqmovun f => Sys2Proof.Machine.execVqmovun f s
  | .vqmovn f => Sys2Proof.Machine.execVqmovn f s
  | .vshllMisc f => Sys2Proof.Machine.execVshllMisc f s
  | .sha1su1 f => Sys2Proof.Machine.execSha1su1 f s
  | .sha256su0 f => Sys2Proof.Machine.execSha256su0 f s
  | .vrintnAsimd f => Sys2Proof.Machine.execVrintnAsimd f s
  | .vrintxAsimd f => Sys2Proof.Machine.execVrintxAsimd f s
  | .vrintaAsimd f => Sys2Proof.Machine.execVrintaAsimd f s
  | .vrintzAsimd f => Sys2Proof.Machine.execVrintzAsimd f s
  | .vcvtSpToHp f => Sys2Proof.Machine.execVcvtSpToHp f s
  | .unallocatedTwoRegMisc40 f => Sys2Proof.Machine.execUnallocatedTwoRegMisc40 f s
  | .vrintmAsimd f => Sys2Proof.Machine.execVrintmAsimd f s
  | .vcvtHpToSp f => Sys2Proof.Machine.execVcvtHpToSp f s
  | .unallocatedTwoRegMisc43 f => Sys2Proof.Machine.execUnallocatedTwoRegMisc43 f s
  | .vrintpAsimd f => Sys2Proof.Machine.execVrintpAsimd f s
  | .vcvtaAsimd f => Sys2Proof.Machine.execVcvtaAsimd f s
  | .vcvtnAsimd f => Sys2Proof.Machine.execVcvtnAsimd f s
  | .vcvtpAsimd f => Sys2Proof.Machine.execVcvtpAsimd f s
  | .vcvtmAsimd f => Sys2Proof.Machine.execVcvtmAsimd f s
  | .vrecpe f => Sys2Proof.Machine.execVrecpe f s
  | .vrsqrte f => Sys2Proof.Machine.execVrsqrte f s
  | .vcvtFpIntAsimd f => Sys2Proof.Machine.execVcvtFpIntAsimd f s
  | .notInSourceTwoRegMisc f => Sys2Proof.Machine.execNotInSourceTwoRegMisc f s
  | .vdupScalar f => Sys2Proof.Machine.execVdupScalar f s
  | .unallocatedDup2 f => Sys2Proof.Machine.execUnallocatedDup2 f s
  | .unallocatedDup3 f => Sys2Proof.Machine.execUnallocatedDup3 f s
  | .unallocatedDup4 f => Sys2Proof.Machine.execUnallocatedDup4 f s
  | .vaddl f => Sys2Proof.Machine.execVaddl f s
  | .vaddw f => Sys2Proof.Machine.execVaddw f s
  | .vsubl f => Sys2Proof.Machine.execVsubl f s
  | .vaddhn f => Sys2Proof.Machine.execVaddhn f s
  | .vsubw f => Sys2Proof.Machine.execVsubw f s
  | .vsubhn f => Sys2Proof.Machine.execVsubhn f s
  | .vqdmlal3diff f => Sys2Proof.Machine.execVqdmlal3diff f s
  | .vabal f => Sys2Proof.Machine.execVabal f s
  | .vqdmlsl3diff f => Sys2Proof.Machine.execVqdmlsl3diff f s
  | .vqdmull3diff f => Sys2Proof.Machine.execVqdmull3diff f s
  | .vabdlInt f => Sys2Proof.Machine.execVabdlInt f s
  | .vmlalInt f => Sys2Proof.Machine.execVmlalInt f s
  | .vmlslInt f => Sys2Proof.Machine.execVmlslInt f s
  | .vraddhn f => Sys2Proof.Machine.execVraddhn f s
  | .vrsubhn f => Sys2Proof.Machine.execVrsubhn f s
  | .vmullIntPoly f => Sys2Proof.Machine.execVmullIntPoly f s
  | .unallocatedThreeDiff17 f => Sys2Proof.Machine.execUnallocatedThreeDiff17 f s
  | .unallocatedThreeDiff18 f => Sys2Proof.Machine.execUnallocatedThreeDiff18 f s
  | .unallocatedThreeDiff19 f => Sys2Proof.Machine.execUnallocatedThreeDiff19 f s
  | .unallocatedThreeDiff20 f => Sys2Proof.Machine.execUnallocatedThreeDiff20 f s
  | .vmlaScalar f => Sys2Proof.Machine.execVmlaScalar f s
  | .vqdmlalScalar f => Sys2Proof.Machine.execVqdmlalScalar f s
  | .vmlalScalar f => Sys2Proof.Machine.execVmlalScalar f s
  | .vqdmlslScalar f => Sys2Proof.Machine.execVqdmlslScalar f s
  | .vmlsScalar f => Sys2Proof.Machine.execVmlsScalar f s
  | .vqdmullScalar f => Sys2Proof.Machine.execVqdmullScalar f s
  | .vmlslScalar f => Sys2Proof.Machine.execVmlslScalar f s
  | .vmulScalar f => Sys2Proof.Machine.execVmulScalar f s
  | .unallocatedTwoRegScalar9 f => Sys2Proof.Machine.execUnallocatedTwoRegScalar9 f s
  | .vmullScalar f => Sys2Proof.Machine.execVmullScalar f s
  | .unallocatedTwoRegScalar11 f => Sys2Proof.Machine.execUnallocatedTwoRegScalar11 f s
  | .vqdmulhScalar f => Sys2Proof.Machine.execVqdmulhScalar f s
  | .vqrdmulhScalar f => Sys2Proof.Machine.execVqrdmulhScalar f s
  | .unallocatedTwoRegScalar14 f => Sys2Proof.Machine.execUnallocatedTwoRegScalar14 f s
  | .vqrdmlahScalar f => Sys2Proof.Machine.execVqrdmlahScalar f s
  | .vqrdmlshScalar f => Sys2Proof.Machine.execVqrdmlshScalar f s
  | .vmovImmA1 f => Sys2Proof.Machine.execVmovImmA1 f s
  | .vmvnImmA1 f => Sys2Proof.Machine.execVmvnImmA1 f s
  | .vorrImmA1 f => Sys2Proof.Machine.execVorrImmA1 f s
  | .vbicImmA1 f => Sys2Proof.Machine.execVbicImmA1 f s
  | .vmovImmA3 f => Sys2Proof.Machine.execVmovImmA3 f s
  | .vmvnImmA2 f => Sys2Proof.Machine.execVmvnImmA2 f s
  | .vorrImmA2 f => Sys2Proof.Machine.execVorrImmA2 f s
  | .vbicImmA2 f => Sys2Proof.Machine.execVbicImmA2 f s
  | .vmovImmA4 f => Sys2Proof.Machine.execVmovImmA4 f s
  | .vmvnImmA3 f => Sys2Proof.Machine.execVmvnImmA3 f s
  | .vmovImmA5 f => Sys2Proof.Machine.execVmovImmA5 f s
  | .unallocatedOneRegImm12 f => Sys2Proof.Machine.execUnallocatedOneRegImm12 f s
  | .vshr f => Sys2Proof.Machine.execVshr f s
  | .vsra f => Sys2Proof.Machine.execVsra f s
  | .vmovl f => Sys2Proof.Machine.execVmovl f s
  | .vrshr f => Sys2Proof.Machine.execVrshr f s
  | .vrsra f => Sys2Proof.Machine.execVrsra f s
  | .vqshlImm f => Sys2Proof.Machine.execVqshlImm f s
  | .vqshrn f => Sys2Proof.Machine.execVqshrn f s
  | .vqrshrn f => Sys2Proof.Machine.execVqrshrn f s
  | .vshllImm f => Sys2Proof.Machine.execVshllImm f s
  | .vcvtFpFixedAsimd f => Sys2Proof.Machine.execVcvtFpFixedAsimd f s
  | .vshlImm f => Sys2Proof.Machine.execVshlImm f s
  | .vshrn f => Sys2Proof.Machine.execVshrn f s
  | .vrshrn f => Sys2Proof.Machine.execVrshrn f s
  | .vsri f => Sys2Proof.Machine.execVsri f s
  | .vsli f => Sys2Proof.Machine.execVsli f s
  | .vqshluImm f => Sys2Proof.Machine.execVqshluImm f s
  | .vqshrun f => Sys2Proof.Machine.execVqshrun f s
  | .vqrshrun f => Sys2Proof.Machine.execVqrshrun f s
  | .notInSourceTwoRegShift f => Sys2Proof.Machine.execNotInSourceTwoRegShift f s
  | .constrainedUnpredictableMemHint1 f => Sys2Proof.Machine.execConstrainedUnpredictableMemHint1 f s
  | .constrainedUnpredictableMemHint2 f => Sys2Proof.Machine.execConstrainedUnpredictableMemHint2 f s
  | .constrainedUnpredictableMemHint4 f => Sys2Proof.Machine.execConstrainedUnpredictableMemHint4 f s
  | .constrainedUnpredictableMemHint7 f => Sys2Proof.Machine.execConstrainedUnpredictableMemHint7 f s
  | .unallocatedMemHint8 f => Sys2Proof.Machine.execUnallocatedMemHint8 f s
  | .constrainedUnpredictableBarrier1 f => Sys2Proof.Machine.execConstrainedUnpredictableBarrier1 f s
  | .clrex f => Sys2Proof.Machine.execClrex f s
  | .constrainedUnpredictableBarrier3 f => Sys2Proof.Machine.execConstrainedUnpredictableBarrier3 f s
  | .dsb f => Sys2Proof.Machine.execDsb f s
  | .ssbb f => Sys2Proof.Machine.execSsbb f s
  | .pssbb f => Sys2Proof.Machine.execPssbb f s
  | .dmb f => Sys2Proof.Machine.execDmb f s
  | .isb f => Sys2Proof.Machine.execIsb f s
  | .sb f => Sys2Proof.Machine.execSb f s
  | .constrainedUnpredictableBarrier10 f => Sys2Proof.Machine.execConstrainedUnpredictableBarrier10 f s
  | .reservedHintNopPldImm f => Sys2Proof.Machine.execReservedHintNopPldImm f s
  | .pliImmLit f => Sys2Proof.Machine.execPliImmLit f s
  | .pldLit f => Sys2Proof.Machine.execPldLit f s
  | .pldwImm f => Sys2Proof.Machine.execPldwImm f s
  | .pldImm f => Sys2Proof.Machine.execPldImm f s
  | .reservedHintNopPldReg f => Sys2Proof.Machine.execReservedHintNopPldReg f s
  | .pliReg f => Sys2Proof.Machine.execPliReg f s
  | .pldwReg f => Sys2Proof.Machine.execPldwReg f s
  | .pldReg f => Sys2Proof.Machine.execPldReg f s
  | .asimdLdstMult f => Sys2Proof.Machine.execAsimdLdstMult f s
  | .asimdLdAll f => Sys2Proof.Machine.execAsimdLdAll f s
  | .asimdLdstOne f => Sys2Proof.Machine.execAsimdLdstOne f s

end Sys2Proof.Machine
end

