-- ==== Sys2Proof/Decode.lean ====
section
/-! DEFINITION. The decoder: the decode tree of rule R87, table by table, and the encoder written from the same diagrams.
A word with w[31:27] = 11110 reaches exactly one leaf; any other word is `outside` (rule R89). -/

namespace Sys2Proof

/-- The field w[lo + len - 1 : lo] (rule R5). -/
def bits (w : Word) (lo len : Nat) : BitVec len := w.extractLsb' lo len

/-- The operand record of a word under the diagram of rule R62 (rule R88). -/
def FTop.ofWord (w : Word) : FTop where
  op0 := bits w 25 2
  undrawn21 := bits w 21 4
  op1 := bits w 20 1
  undrawn0 := bits w 0 20

/-- The word of an operand record under the diagram of rule R62. -/
def FTop.toWord (f : FTop) : Word :=
  0b11110#5 ++ f.op0 ++ f.undrawn21 ++ f.op1 ++ f.undrawn0

/-- The operand record of a word under the diagram of rule R63 (rule R88). -/
def FMisc.ofWord (w : Word) : FMisc where
  op0 := bits w 20 5
  undrawn8 := bits w 8 12
  op1 := bits w 4 4
  undrawn0 := bits w 0 4

/-- The word of an operand record under the diagram of rule R63. -/
def FMisc.toWord (f : FMisc) : Word :=
  0b1111000#7 ++ f.op0 ++ f.undrawn8 ++ f.op1 ++ f.undrawn0

/-- The operand record of a word under the diagram of rule R64 (rule R88). -/
def FCps.ofWord (w : Word) : FCps where
  imod := bits w 18 2
  M := bits w 17 1
  op := bits w 16 1
  E := bits w 9 1
  A := bits w 8 1
  I := bits w 7 1
  F := bits w 6 1
  mode := bits w 0 5

/-- The word of an operand record under the diagram of rule R64, parenthesised bits as printed (rule R9). -/
def FCps.toWord (f : FCps) : Word :=
  0b111100010000#12 ++ f.imod ++ f.M ++ f.op ++ 0b000000#6 ++ f.E ++ f.A ++ f.I ++ f.F ++ 0b0#1 ++ f.mode

/-- The operand record of a word under the diagram of rule R66 (rule R88). -/
def FThreeSame.ofWord (w : Word) : FThreeSame where
  U := bits w 24 1
  D := bits w 22 1
  size := bits w 20 2
  Vn := bits w 16 4
  Vd := bits w 12 4
  opc := bits w 8 4
  N := bits w 7 1
  Q := bits w 6 1
  M := bits w 5 1
  o1 := bits w 4 1
  Vm := bits w 0 4

/-- The word of an operand record under the diagram of rule R66. -/
def FThreeSame.toWord (f : FThreeSame) : Word :=
  0b1111001#7 ++ f.U ++ 0b0#1 ++ f.D ++ f.size ++ f.Vn ++ f.Vd ++ f.opc ++ f.N ++ f.Q ++ f.M ++ f.o1 ++ f.Vm

/-- The operand record of a word under the diagram of rule R67 (rule R88). -/
def FTwoRegThreeDiff.ofWord (w : Word) : FTwoRegThreeDiff where
  op0 := bits w 24 1
  undrawn22 := bits w 22 1
  op1 := bits w 20 2
  undrawn12 := bits w 12 8
  op2 := bits w 10 2
  undrawn7 := bits w 7 3
  op3 := bits w 6 1
  undrawn5 := bits w 5 1
  undrawn0 := bits w 0 4

/-- The word of an operand record under the diagram of rule R67. -/
def FTwoRegThreeDiff.toWord (f : FTwoRegThreeDiff) : Word :=
  0b1111001#7 ++ f.op0 ++ 0b1#1 ++ f.undrawn22 ++ f.op1 ++ f.undrawn12 ++ f.op2 ++ f.undrawn7 ++ f.op3 ++
    f.undrawn5 ++ 0b0#1 ++ f.undrawn0

/-- The operand record of a word under the diagram of rule R68 (rule R88). -/
def FTwoRegMisc.ofWord (w : Word) : FTwoRegMisc where
  D := bits w 22 1
  size := bits w 18 2
  opc1 := bits w 16 2
  Vd := bits w 12 4
  opc2 := bits w 7 4
  Q := bits w 6 1
  M := bits w 5 1
  Vm := bits w 0 4

/-- The word of an operand record under the diagram of rule R68. -/
def FTwoRegMisc.toWord (f : FTwoRegMisc) : Word :=
  0b111100111#9 ++ f.D ++ 0b11#2 ++ f.size ++ f.opc1 ++ f.Vd ++ 0b0#1 ++ f.opc2 ++ f.Q ++ f.M ++ 0b0#1 ++ f.Vm

/-- The operand record of a word under the diagram of rule R69 (rule R88). -/
def FDup.ofWord (w : Word) : FDup where
  D := bits w 22 1
  imm4 := bits w 16 4
  Vd := bits w 12 4
  opc := bits w 7 3
  Q := bits w 6 1
  M := bits w 5 1
  Vm := bits w 0 4

/-- The word of an operand record under the diagram of rule R69. -/
def FDup.toWord (f : FDup) : Word :=
  0b111100111#9 ++ f.D ++ 0b11#2 ++ f.imm4 ++ f.Vd ++ 0b11#2 ++ f.opc ++ f.Q ++ f.M ++ 0b0#1 ++ f.Vm

/-- The operand record of a word under the diagram of rule R70 (rule R88). -/
def FThreeDiff.ofWord (w : Word) : FThreeDiff where
  U := bits w 24 1
  D := bits w 22 1
  size := bits w 20 2
  Vn := bits w 16 4
  Vd := bits w 12 4
  opc := bits w 8 4
  N := bits w 7 1
  M := bits w 5 1
  Vm := bits w 0 4

/-- The word of an operand record under the diagram of rule R70. -/
def FThreeDiff.toWord (f : FThreeDiff) : Word :=
  0b1111001#7 ++ f.U ++ 0b1#1 ++ f.D ++ f.size ++ f.Vn ++ f.Vd ++ f.opc ++ f.N ++ 0b0#1 ++ f.M ++ 0b0#1 ++ f.Vm

/-- The operand record of a word under the diagram of rule R71 (rule R88). -/
def FTwoRegScalar.ofWord (w : Word) : FTwoRegScalar where
  Q := bits w 24 1
  D := bits w 22 1
  size := bits w 20 2
  Vn := bits w 16 4
  Vd := bits w 12 4
  opc := bits w 8 4
  N := bits w 7 1
  M := bits w 5 1
  Vm := bits w 0 4

/-- The word of an operand record under the diagram of rule R71. -/
def FTwoRegScalar.toWord (f : FTwoRegScalar) : Word :=
  0b1111001#7 ++ f.Q ++ 0b1#1 ++ f.D ++ f.size ++ f.Vn ++ f.Vd ++ f.opc ++ f.N ++ 0b1#1 ++ f.M ++ 0b0#1 ++ f.Vm

/-- The operand record of a word under the diagram of rule R73 (rule R88). -/
def FOneRegImm.ofWord (w : Word) : FOneRegImm where
  i := bits w 24 1
  D := bits w 22 1
  imm3 := bits w 16 3
  Vd := bits w 12 4
  cmode := bits w 8 4
  Q := bits w 6 1
  op := bits w 5 1
  imm4 := bits w 0 4

/-- The word of an operand record under the diagram of rule R73. -/
def FOneRegImm.toWord (f : FOneRegImm) : Word :=
  0b1111001#7 ++ f.i ++ 0b1#1 ++ f.D ++ 0b000#3 ++ f.imm3 ++ f.Vd ++ f.cmode ++ 0b0#1 ++ f.Q ++ f.op ++
    0b1#1 ++ f.imm4

/-- The operand record of a word under the diagram of rule R74 (rule R88). -/
def FTwoRegShift.ofWord (w : Word) : FTwoRegShift where
  U := bits w 24 1
  D := bits w 22 1
  imm3H := bits w 19 3
  imm3L := bits w 16 3
  Vd := bits w 12 4
  opc := bits w 8 4
  L := bits w 7 1
  Q := bits w 6 1
  M := bits w 5 1
  Vm := bits w 0 4

/-- The word of an operand record under the diagram of rule R74. -/
def FTwoRegShift.toWord (f : FTwoRegShift) : Word :=
  0b1111001#7 ++ f.U ++ 0b1#1 ++ f.D ++ f.imm3H ++ f.imm3L ++ f.Vd ++ f.opc ++ f.L ++ f.Q ++ f.M ++ 0b1#1 ++
    f.Vm

/-- The operand record of a word under the diagram of rule R75 (rule R88). -/
def FMemHint.ofWord (w : Word) : FMemHint where
  op0 := bits w 21 5
  undrawn5 := bits w 5 15
  op1 := bits w 4 1
  undrawn0 := bits w 0 4

/-- The word of an operand record under the diagram of rule R75. -/
def FMemHint.toWord (f : FMemHint) : Word :=
  0b111101#6 ++ f.op0 ++ 0b1#1 ++ f.undrawn5 ++ f.op1 ++ f.undrawn0

/-- The operand record of a word under the diagram of rule R76 (rule R88). -/
def FBarrier.ofWord (w : Word) : FBarrier where
  opcode := bits w 4 4
  option := bits w 0 4

/-- The word of an operand record under the diagram of rule R76, parenthesised bits as printed (rule R9). -/
def FBarrier.toWord (f : FBarrier) : Word :=
  0b111101010111#12 ++ 0b11111111#8 ++ 0b0000#4 ++ f.opcode ++ f.option

/-- The operand record of a word under the diagram of rule R77 (rule R88). -/
def FPldImm.ofWord (w : Word) : FPldImm where
  D := bits w 24 1
  U := bits w 23 1
  R := bits w 22 1
  Rn := bits w 16 4
  imm12 := bits w 0 12

/-- The word of an operand record under the diagram of rule R77, parenthesised bits as printed (rule R9). -/
def FPldImm.toWord (f : FPldImm) : Word :=
  0b1111010#7 ++ f.D ++ f.U ++ f.R ++ 0b01#2 ++ f.Rn ++ 0b1111#4 ++ f.imm12

/-- The operand record of a word under the diagram of rule R78 (rule R88). -/
def FPldReg.ofWord (w : Word) : FPldReg where
  D := bits w 24 1
  U := bits w 23 1
  o2 := bits w 22 1
  Rn := bits w 16 4
  imm5 := bits w 7 5
  type := bits w 5 2
  Rm := bits w 0 4

/-- The word of an operand record under the diagram of rule R78, parenthesised bits as printed (rule R9). -/
def FPldReg.toWord (f : FPldReg) : Word :=
  0b1111011#7 ++ f.D ++ f.U ++ f.o2 ++ 0b01#2 ++ f.Rn ++ 0b1111#4 ++ f.imm5 ++ f.type ++ 0b0#1 ++ f.Rm

/-- The operand record of a word under the diagram of rule R80 (rule R88). -/
def FLdStMult.ofWord (w : Word) : FLdStMult where
  D := bits w 22 1
  L := bits w 21 1
  Rn := bits w 16 4
  Vd := bits w 12 4
  type := bits w 8 4
  size := bits w 6 2
  align := bits w 4 2
  Rm := bits w 0 4

/-- The word of an operand record under the diagram of rule R80. -/
def FLdStMult.toWord (f : FLdStMult) : Word :=
  0b111101000#9 ++ f.D ++ f.L ++ 0b0#1 ++ f.Rn ++ f.Vd ++ f.type ++ f.size ++ f.align ++ f.Rm

/-- The operand record of a word under the diagram of rule R81 (rule R88). -/
def FLdStAll.ofWord (w : Word) : FLdStAll where
  D := bits w 22 1
  L := bits w 21 1
  Rn := bits w 16 4
  Vd := bits w 12 4
  N := bits w 8 2
  size := bits w 6 2
  T := bits w 5 1
  a := bits w 4 1
  Rm := bits w 0 4

/-- The word of an operand record under the diagram of rule R81. -/
def FLdStAll.toWord (f : FLdStAll) : Word :=
  0b111101001#9 ++ f.D ++ f.L ++ 0b0#1 ++ f.Rn ++ f.Vd ++ 0b11#2 ++ f.N ++ f.size ++ f.T ++ f.a ++ f.Rm

/-- The operand record of a word under the diagram of rule R82 (rule R88). -/
def FLdStOne.ofWord (w : Word) : FLdStOne where
  D := bits w 22 1
  L := bits w 21 1
  Rn := bits w 16 4
  Vd := bits w 12 4
  size := bits w 10 2
  N := bits w 8 2
  index_align := bits w 4 4
  Rm := bits w 0 4

/-- The word of an operand record under the diagram of rule R82. -/
def FLdStOne.toWord (f : FLdStOne) : Word :=
  0b111101001#9 ++ f.D ++ f.L ++ 0b0#1 ++ f.Rn ++ f.Vd ++ f.size ++ f.N ++ f.index_align ++ f.Rm

/-- Table "Change Process State" (rule R104); the last row takes what is left. -/
def decodeCps (f : FCps) : Instr :=
  if f.op = 0b1#1 ∧ f.mode &&& 0b10000#5 = 0b00000#5 then .setend f
  else if f.op = 0b0#1 then .cps f
  else .unallocatedCps3 f

/-- Table "Advanced SIMD three registers of the same length" (rules R120, R188); what no row takes is the table's residue. -/
def decodeThreeSame (f : FThreeSame) : Instr :=
  if f.U = 0b0#1 ∧ f.size &&& 0b10#2 = 0b00#2 ∧ f.opc = 0b1100#4 ∧ f.o1 = 0b1#1 then .vfma f
  else if f.U = 0b0#1 ∧ f.size &&& 0b10#2 = 0b00#2 ∧ f.opc = 0b1101#4 ∧ f.o1 = 0b0#1 then .vaddFp f
  else if f.U = 0b0#1 ∧ f.size &&& 0b10#2 = 0b00#2 ∧ f.opc = 0b1101#4 ∧ f.o1 = 0b1#1 then .vmlaFp f
  else if f.U = 0b0#1 ∧ f.size &&& 0b10#2 = 0b00#2 ∧ f.opc = 0b1110#4 ∧ f.o1 = 0b0#1 then .vceqRegA2 f
  else if f.U = 0b0#1 ∧ f.size &&& 0b10#2 = 0b00#2 ∧ f.opc = 0b1111#4 ∧ f.o1 = 0b0#1 then .vmaxFp f
  else if f.U = 0b0#1 ∧ f.size &&& 0b10#2 = 0b00#2 ∧ f.opc = 0b1111#4 ∧ f.o1 = 0b1#1 then .vrecps f
  else if f.opc = 0b0000#4 ∧ f.o1 = 0b0#1 then .vhadd f
  else if f.U = 0b0#1 ∧ f.size = 0b00#2 ∧ f.opc = 0b0001#4 ∧ f.o1 = 0b1#1 then .vandReg f
  else if f.opc = 0b0000#4 ∧ f.o1 = 0b1#1 then .vqadd f
  else if f.opc = 0b0001#4 ∧ f.o1 = 0b0#1 then .vrhadd f
  else if f.U = 0b0#1 ∧ f.size = 0b00#2 ∧ f.opc = 0b1100#4 ∧ f.o1 = 0b0#1 then .sha1c f
  else if f.opc = 0b0010#4 ∧ f.o1 = 0b0#1 then .vhsub f
  else if f.U = 0b0#1 ∧ f.size = 0b01#2 ∧ f.opc = 0b0001#4 ∧ f.o1 = 0b1#1 then .vbicReg f
  else if f.opc = 0b0010#4 ∧ f.o1 = 0b1#1 then .vqsub f
  else if f.opc = 0b0011#4 ∧ f.o1 = 0b0#1 then .vcgtRegA1 f
  else if f.opc = 0b0011#4 ∧ f.o1 = 0b1#1 then .vcgeRegA1 f
  else if f.U = 0b0#1 ∧ f.size = 0b01#2 ∧ f.opc = 0b1100#4 ∧ f.o1 = 0b0#1 then .sha1p f
  else if f.U = 0b0#1 ∧ f.size &&& 0b10#2 = 0b10#2 ∧ f.opc = 0b1100#4 ∧ f.o1 = 0b1#1 then .vfms f
  else if f.U = 0b0#1 ∧ f.size &&& 0b10#2 = 0b10#2 ∧ f.opc = 0b1101#4 ∧ f.o1 = 0b0#1 then .vsubFp f
  else if f.U = 0b0#1 ∧ f.size &&& 0b10#2 = 0b10#2 ∧ f.opc = 0b1101#4 ∧ f.o1 = 0b1#1 then .vmlsFp f
  else if f.U = 0b0#1 ∧ f.size &&& 0b10#2 = 0b10#2 ∧ f.opc = 0b1110#4 ∧ f.o1 = 0b0#1 then .unallocatedThreeSame21 f
  else if f.U = 0b0#1 ∧ f.size &&& 0b10#2 = 0b10#2 ∧ f.opc = 0b1111#4 ∧ f.o1 = 0b0#1 then .vminFp f
  else if f.U = 0b0#1 ∧ f.size &&& 0b10#2 = 0b10#2 ∧ f.opc = 0b1111#4 ∧ f.o1 = 0b1#1 then .vrsqrts f
  else if f.opc = 0b0100#4 ∧ f.o1 = 0b0#1 then .vshlReg f
  else if f.U = 0b0#1 ∧ f.opc = 0b1000#4 ∧ f.o1 = 0b0#1 then .vaddInt f
  else if f.U = 0b0#1 ∧ f.size = 0b10#2 ∧ f.opc = 0b0001#4 ∧ f.o1 = 0b1#1 then .vorrReg f
  else if f.U = 0b0#1 ∧ f.opc = 0b1000#4 ∧ f.o1 = 0b1#1 then .vtst f
  else if f.opc = 0b0100#4 ∧ f.o1 = 0b1#1 then .vqshlReg f
  else if f.U = 0b0#1 ∧ f.opc = 0b1001#4 ∧ f.o1 = 0b0#1 then .vmlaInt f
  else if f.opc = 0b0101#4 ∧ f.o1 = 0b0#1 then .vrshl f
  else if f.opc = 0b0101#4 ∧ f.o1 = 0b1#1 then .vqrshl f
  else if f.U = 0b0#1 ∧ f.opc = 0b1011#4 ∧ f.o1 = 0b0#1 then .vqdmulh3same f
  else if f.U = 0b0#1 ∧ f.size = 0b10#2 ∧ f.opc = 0b1100#4 ∧ f.o1 = 0b0#1 then .sha1m f
  else if f.U = 0b0#1 ∧ f.opc = 0b1011#4 ∧ f.o1 = 0b1#1 then .vpaddInt f
  else if f.opc = 0b0110#4 ∧ f.o1 = 0b0#1 then .vmaxInt f
  else if f.U = 0b0#1 ∧ f.size = 0b11#2 ∧ f.opc = 0b0001#4 ∧ f.o1 = 0b1#1 then .vornReg f
  else if f.opc = 0b0110#4 ∧ f.o1 = 0b1#1 then .vminInt f
  else if f.opc = 0b0111#4 ∧ f.o1 = 0b0#1 then .vabdInt f
  else if f.opc = 0b0111#4 ∧ f.o1 = 0b1#1 then .vaba f
  else if f.U = 0b0#1 ∧ f.size = 0b11#2 ∧ f.opc = 0b1100#4 ∧ f.o1 = 0b0#1 then .sha1su0 f
  else if f.U = 0b1#1 ∧ f.size &&& 0b10#2 = 0b00#2 ∧ f.opc = 0b1101#4 ∧ f.o1 = 0b0#1 then .vpaddFp f
  else if f.U = 0b1#1 ∧ f.size &&& 0b10#2 = 0b00#2 ∧ f.opc = 0b1101#4 ∧ f.o1 = 0b1#1 then .vmulFp f
  else if f.U = 0b1#1 ∧ f.size &&& 0b10#2 = 0b00#2 ∧ f.opc = 0b1110#4 ∧ f.o1 = 0b0#1 then .vcgeRegA2 f
  else if f.U = 0b1#1 ∧ f.size &&& 0b10#2 = 0b00#2 ∧ f.opc = 0b1110#4 ∧ f.o1 = 0b1#1 then .vacge f
  else if f.U = 0b1#1 ∧ f.size &&& 0b10#2 = 0b00#2 ∧ f.opc = 0b1111#4 ∧ f.Q = 0b0#1 ∧ f.o1 = 0b0#1 then .vpmaxFp f
  else if f.U = 0b1#1 ∧ f.size &&& 0b10#2 = 0b00#2 ∧ f.opc = 0b1111#4 ∧ f.o1 = 0b1#1 then .vmaxnm f
  else if f.U = 0b1#1 ∧ f.size = 0b00#2 ∧ f.opc = 0b0001#4 ∧ f.o1 = 0b1#1 then .veor f
  else if f.opc = 0b1001#4 ∧ f.o1 = 0b1#1 then .vmulIntPoly f
  else if f.U = 0b1#1 ∧ f.size = 0b00#2 ∧ f.opc = 0b1100#4 ∧ f.o1 = 0b0#1 then .sha256h f
  else if f.opc = 0b1010#4 ∧ f.Q = 0b0#1 ∧ f.o1 = 0b0#1 then .vpmaxInt f
  else if f.U = 0b1#1 ∧ f.size = 0b01#2 ∧ f.opc = 0b0001#4 ∧ f.o1 = 0b1#1 then .vbsl f
  else if f.opc = 0b1010#4 ∧ f.Q = 0b0#1 ∧ f.o1 = 0b1#1 then .vpminInt f
  else if f.opc = 0b1010#4 ∧ f.Q = 0b1#1 then .unallocatedThreeSame53 f
  else if f.U = 0b1#1 ∧ f.size = 0b01#2 ∧ f.opc = 0b1100#4 ∧ f.o1 = 0b0#1 then .sha256h2 f
  else if f.U = 0b1#1 ∧ f.size &&& 0b10#2 = 0b10#2 ∧ f.opc = 0b1101#4 ∧ f.o1 = 0b0#1 then .vabdFp f
  else if f.U = 0b1#1 ∧ f.size &&& 0b10#2 = 0b10#2 ∧ f.opc = 0b1110#4 ∧ f.o1 = 0b0#1 then .vcgtRegA2 f
  else if f.U = 0b1#1 ∧ f.size &&& 0b10#2 = 0b10#2 ∧ f.opc = 0b1110#4 ∧ f.o1 = 0b1#1 then .vacgt f
  else if f.U = 0b1#1 ∧ f.size &&& 0b10#2 = 0b10#2 ∧ f.opc = 0b1111#4 ∧ f.Q = 0b0#1 ∧ f.o1 = 0b0#1 then .vpminFp f
  else if f.U = 0b1#1 ∧ f.size &&& 0b10#2 = 0b10#2 ∧ f.opc = 0b1111#4 ∧ f.o1 = 0b1#1 then .vminnm f
  else if f.U = 0b1#1 ∧ f.opc = 0b1000#4 ∧ f.o1 = 0b0#1 then .vsubInt f
  else if f.U = 0b1#1 ∧ f.size = 0b10#2 ∧ f.opc = 0b0001#4 ∧ f.o1 = 0b1#1 then .vbit f
  else if f.U = 0b1#1 ∧ f.opc = 0b1000#4 ∧ f.o1 = 0b1#1 then .vceqRegA1 f
  else if f.U = 0b1#1 ∧ f.opc = 0b1001#4 ∧ f.o1 = 0b0#1 then .vmlsInt f
  else if f.U = 0b1#1 ∧ f.opc = 0b1011#4 ∧ f.o1 = 0b0#1 then .vqrdmulh3same f
  else if f.U = 0b1#1 ∧ f.size = 0b10#2 ∧ f.opc = 0b1100#4 ∧ f.o1 = 0b0#1 then .sha256su1 f
  else if f.U = 0b1#1 ∧ f.opc = 0b1011#4 ∧ f.o1 = 0b1#1 then .vqrdmlah3same f
  else if f.U = 0b1#1 ∧ f.size = 0b11#2 ∧ f.opc = 0b0001#4 ∧ f.o1 = 0b1#1 then .vbif f
  else if f.U = 0b1#1 ∧ f.opc = 0b1100#4 ∧ f.o1 = 0b1#1 then .vqrdmlsh3same f
  else if f.U = 0b1#1 ∧ f.opc = 0b1111#4 ∧ f.Q = 0b1#1 ∧ f.o1 = 0b0#1 then .unallocatedThreeSame69 f
  else .notInSourceThreeSame f

/-- Table "Advanced SIMD two registers misc" (rules R200, R250); what no row takes is the table's residue. -/
def decodeTwoRegMisc (f : FTwoRegMisc) : Instr :=
  if f.opc1 = 0b00#2 ∧ f.opc2 = 0b0000#4 then .vrev64 f
  else if f.opc1 = 0b00#2 ∧ f.opc2 = 0b0001#4 then .vrev32 f
  else if f.opc1 = 0b00#2 ∧ f.opc2 = 0b0010#4 then .vrev16 f
  else if f.opc1 = 0b00#2 ∧ f.opc2 = 0b0011#4 then .unallocatedTwoRegMisc4 f
  else if f.opc1 = 0b00#2 ∧ f.opc2 &&& 0b1110#4 = 0b0100#4 then .vpaddl f
  else if f.opc1 = 0b00#2 ∧ f.opc2 = 0b0110#4 ∧ f.Q = 0b0#1 then .aese f
  else if f.opc1 = 0b00#2 ∧ f.opc2 = 0b0110#4 ∧ f.Q = 0b1#1 then .aesd f
  else if f.opc1 = 0b00#2 ∧ f.opc2 = 0b0111#4 ∧ f.Q = 0b0#1 then .aesmc f
  else if f.opc1 = 0b00#2 ∧ f.opc2 = 0b0111#4 ∧ f.Q = 0b1#1 then .aesimc f
  else if f.opc1 = 0b00#2 ∧ f.opc2 = 0b1000#4 then .vcls f
  else if f.size = 0b00#2 ∧ f.opc1 = 0b10#2 ∧ f.opc2 = 0b0000#4 then .vswp f
  else if f.opc1 = 0b00#2 ∧ f.opc2 = 0b1001#4 then .vclz f
  else if f.opc1 = 0b00#2 ∧ f.opc2 = 0b1010#4 then .vcnt f
  else if f.opc1 = 0b00#2 ∧ f.opc2 = 0b1011#4 then .vmvnReg f
  else if f.opc1 = 0b00#2 ∧ f.opc2 &&& 0b1110#4 = 0b1100#4 then .vpadal f
  else if f.opc1 = 0b00#2 ∧ f.opc2 = 0b1110#4 then .vqabs f
  else if f.opc1 = 0b00#2 ∧ f.opc2 = 0b1111#4 then .vqneg f
  else if f.opc1 = 0b01#2 ∧ f.opc2 &&& 0b0111#4 = 0b0000#4 then .vcgtImm0 f
  else if f.opc1 = 0b01#2 ∧ f.opc2 &&& 0b0111#4 = 0b0001#4 then .vcgeImm0 f
  else if f.opc1 = 0b01#2 ∧ f.opc2 &&& 0b0111#4 = 0b0010#4 then .vceqImm0 f
  else if f.opc1 = 0b01#2 ∧ f.opc2 &&& 0b0111#4 = 0b0011#4 then .vcleImm0 f
  else if f.opc1 = 0b01#2 ∧ f.opc2 &&& 0b0111#4 = 0b0100#4 then .vcltImm0 f
  else if f.opc1 = 0b01#2 ∧ f.opc2 &&& 0b0111#4 = 0b0110#4 then .vabs f
  else if f.opc1 = 0b01#2 ∧ f.opc2 &&& 0b0111#4 = 0b0111#4 then .vneg f
  else if f.opc1 = 0b01#2 ∧ f.opc2 = 0b0101#4 ∧ f.Q = 0b1#1 then .sha1h f
  else if f.opc1 = 0b10#2 ∧ f.opc2 = 0b0001#4 then .vtrn f
  else if f.opc1 = 0b10#2 ∧ f.opc2 = 0b0010#4 then .vuzp f
  else if f.opc1 = 0b10#2 ∧ f.opc2 = 0b0011#4 then .vzip f
  else if f.opc1 = 0b10#2 ∧ f.opc2 = 0b0100#4 ∧ f.Q = 0b0#1 then .vmovn f
  else if f.opc1 = 0b10#2 ∧ f.opc2 = 0b0100#4 ∧ f.Q = 0b1#1 then .vqmovun f
  else if f.opc1 = 0b10#2 ∧ f.opc2 = 0b0101#4 then .vqmovn f
  else if f.opc1 = 0b10#2 ∧ f.opc2 = 0b0110#4 ∧ f.Q = 0b0#1 then .vshllMisc f
  else if f.opc1 = 0b10#2 ∧ f.opc2 = 0b0111#4 ∧ f.Q = 0b0#1 then .sha1su1 f
  else if f.opc1 = 0b10#2 ∧ f.opc2 = 0b0111#4 ∧ f.Q = 0b1#1 then .sha256su0 f
  else if f.opc1 = 0b10#2 ∧ f.opc2 = 0b1000#4 then .vrintnAsimd f
  else if f.opc1 = 0b10#2 ∧ f.opc2 = 0b1001#4 then .vrintxAsimd f
  else if f.opc1 = 0b10#2 ∧ f.opc2 = 0b1010#4 then .vrintaAsimd f
  else if f.opc1 = 0b10#2 ∧ f.opc2 = 0b1011#4 then .vrintzAsimd f
  else if f.opc1 = 0b10#2 ∧ f.opc2 = 0b1100#4 ∧ f.Q = 0b0#1 then .vcvtSpToHp f
  else if f.opc1 = 0b10#2 ∧ f.opc2 = 0b1100#4 ∧ f.Q = 0b1#1 then .unallocatedTwoRegMisc40 f
  else if f.opc1 = 0b10#2 ∧ f.opc2 = 0b1101#4 then .vrintmAsimd f
  else if f.opc1 = 0b10#2 ∧ f.opc2 = 0b1110#4 ∧ f.Q = 0b0#1 then .vcvtHpToSp f
  else if f.opc1 = 0b10#2 ∧ f.opc2 = 0b1110#4 ∧ f.Q = 0b1#1 then .unallocatedTwoRegMisc43 f
  else if f.opc1 = 0b10#2 ∧ f.opc2 = 0b1111#4 then .vrintpAsimd f
  else if f.opc1 = 0b11#2 ∧ f.opc2 &&& 0b1110#4 = 0b0000#4 then .vcvtaAsimd f
  else if f.opc1 = 0b11#2 ∧ f.opc2 &&& 0b1110#4 = 0b0010#4 then .vcvtnAsimd f
  else if f.opc1 = 0b11#2 ∧ f.opc2 &&& 0b1110#4 = 0b0100#4 then .vcvtpAsimd f
  else if f.opc1 = 0b11#2 ∧ f.opc2 &&& 0b1110#4 = 0b0110#4 then .vcvtmAsimd f
  else if f.opc1 = 0b11#2 ∧ f.opc2 &&& 0b1101#4 = 0b1000#4 then .vrecpe f
  else if f.opc1 = 0b11#2 ∧ f.opc2 &&& 0b1101#4 = 0b1001#4 then .vrsqrte f
  else if f.opc1 = 0b11#2 ∧ f.opc2 &&& 0b1100#4 = 0b1100#4 then .vcvtFpIntAsimd f
  else .notInSourceTwoRegMisc f

/-- Table "Advanced SIMD duplicate (scalar)" (rule R255); the last row takes what is left. -/
def decodeDup (f : FDup) : Instr :=
  if f.opc = 0b000#3 then .vdupScalar f
  else if f.opc = 0b001#3 then .unallocatedDup2 f
  else if f.opc &&& 0b110#3 = 0b010#3 then .unallocatedDup3 f
  else .unallocatedDup4 f

/-- Table "Advanced SIMD three registers of different lengths" (rule R280); the last row takes what is left. -/
def decodeThreeDiff (f : FThreeDiff) : Instr :=
  if f.opc = 0b0000#4 then .vaddl f
  else if f.opc = 0b0001#4 then .vaddw f
  else if f.opc = 0b0010#4 then .vsubl f
  else if f.U = 0b0#1 ∧ f.opc = 0b0100#4 then .vaddhn f
  else if f.opc = 0b0011#4 then .vsubw f
  else if f.U = 0b0#1 ∧ f.opc = 0b0110#4 then .vsubhn f
  else if f.U = 0b0#1 ∧ f.opc = 0b1001#4 then .vqdmlal3diff f
  else if f.opc = 0b0101#4 then .vabal f
  else if f.U = 0b0#1 ∧ f.opc = 0b1011#4 then .vqdmlsl3diff f
  else if f.U = 0b0#1 ∧ f.opc = 0b1101#4 then .vqdmull3diff f
  else if f.opc = 0b0111#4 then .vabdlInt f
  else if f.opc = 0b1000#4 then .vmlalInt f
  else if f.opc = 0b1010#4 then .vmlslInt f
  else if f.U = 0b1#1 ∧ f.opc = 0b0100#4 then .vraddhn f
  else if f.U = 0b1#1 ∧ f.opc = 0b0110#4 then .vrsubhn f
  else if f.opc &&& 0b1101#4 = 0b1100#4 then .vmullIntPoly f
  else if f.U = 0b1#1 ∧ f.opc = 0b1001#4 then .unallocatedThreeDiff17 f
  else if f.U = 0b1#1 ∧ f.opc = 0b1011#4 then .unallocatedThreeDiff18 f
  else if f.U = 0b1#1 ∧ f.opc = 0b1101#4 then .unallocatedThreeDiff19 f
  else .unallocatedThreeDiff20 f

/-- Table "Advanced SIMD two registers and a scalar" (rule R300); the last row takes what is left. -/
def decodeTwoRegScalar (f : FTwoRegScalar) : Instr :=
  if f.opc &&& 0b1110#4 = 0b0000#4 then .vmlaScalar f
  else if f.Q = 0b0#1 ∧ f.opc = 0b0011#4 then .vqdmlalScalar f
  else if f.opc = 0b0010#4 then .vmlalScalar f
  else if f.Q = 0b0#1 ∧ f.opc = 0b0111#4 then .vqdmlslScalar f
  else if f.opc &&& 0b1110#4 = 0b0100#4 then .vmlsScalar f
  else if f.Q = 0b0#1 ∧ f.opc = 0b1011#4 then .vqdmullScalar f
  else if f.opc = 0b0110#4 then .vmlslScalar f
  else if f.opc &&& 0b1110#4 = 0b1000#4 then .vmulScalar f
  else if f.Q = 0b1#1 ∧ f.opc = 0b0011#4 then .unallocatedTwoRegScalar9 f
  else if f.opc = 0b1010#4 then .vmullScalar f
  else if f.Q = 0b1#1 ∧ f.opc = 0b0111#4 then .unallocatedTwoRegScalar11 f
  else if f.opc = 0b1100#4 then .vqdmulhScalar f
  else if f.opc = 0b1101#4 then .vqrdmulhScalar f
  else if f.Q = 0b1#1 ∧ f.opc = 0b1011#4 then .unallocatedTwoRegScalar14 f
  else if f.opc = 0b1110#4 then .vqrdmlahScalar f
  else .vqrdmlshScalar f

/-- Table "Advanced SIMD one register and modified immediate" (rule R330); the last row takes what is left. -/
def decodeOneRegImm (f : FOneRegImm) : Instr :=
  if f.cmode &&& 0b1001#4 = 0b0000#4 ∧ f.op = 0b0#1 then .vmovImmA1 f
  else if f.cmode &&& 0b1001#4 = 0b0000#4 ∧ f.op = 0b1#1 then .vmvnImmA1 f
  else if f.cmode &&& 0b1001#4 = 0b0001#4 ∧ f.op = 0b0#1 then .vorrImmA1 f
  else if f.cmode &&& 0b1001#4 = 0b0001#4 ∧ f.op = 0b1#1 then .vbicImmA1 f
  else if f.cmode &&& 0b1101#4 = 0b1000#4 ∧ f.op = 0b0#1 then .vmovImmA3 f
  else if f.cmode &&& 0b1101#4 = 0b1000#4 ∧ f.op = 0b1#1 then .vmvnImmA2 f
  else if f.cmode &&& 0b1101#4 = 0b1001#4 ∧ f.op = 0b0#1 then .vorrImmA2 f
  else if f.cmode &&& 0b1101#4 = 0b1001#4 ∧ f.op = 0b1#1 then .vbicImmA2 f
  else if f.cmode &&& 0b1100#4 = 0b1100#4 ∧ f.op = 0b0#1 then .vmovImmA4 f
  else if f.cmode &&& 0b1110#4 = 0b1100#4 ∧ f.op = 0b1#1 then .vmvnImmA3 f
  else if f.cmode = 0b1110#4 ∧ f.op = 0b1#1 then .vmovImmA5 f
  else .unallocatedOneRegImm12 f

/-- Table "Advanced SIMD two registers and shift amount" (rules R350, R369); what no row takes is the table's residue. -/
def decodeTwoRegShift (f : FTwoRegShift) : Instr :=
  if f.opc = 0b0000#4 then .vshr f
  else if f.opc = 0b0001#4 then .vsra f
  else if f.imm3L = 0b000#3 ∧ f.opc = 0b1010#4 ∧ f.Q = 0b0#1 then .vmovl f
  else if f.opc = 0b0010#4 then .vrshr f
  else if f.opc = 0b0011#4 then .vrsra f
  else if f.opc = 0b0111#4 then .vqshlImm f
  else if f.opc = 0b1001#4 ∧ f.Q = 0b0#1 then .vqshrn f
  else if f.opc = 0b1001#4 ∧ f.Q = 0b1#1 then .vqrshrn f
  else if f.opc = 0b1010#4 ∧ f.Q = 0b0#1 ∧ f.imm3L ≠ 0b000#3 then .vshllImm f
  else if f.opc &&& 0b1100#4 = 0b1100#4 then .vcvtFpFixedAsimd f
  else if f.U = 0b0#1 ∧ f.opc = 0b0101#4 then .vshlImm f
  else if f.U = 0b0#1 ∧ f.opc = 0b1000#4 ∧ f.Q = 0b0#1 then .vshrn f
  else if f.U = 0b0#1 ∧ f.opc = 0b1000#4 ∧ f.Q = 0b1#1 then .vrshrn f
  else if f.U = 0b1#1 ∧ f.opc = 0b0100#4 then .vsri f
  else if f.U = 0b1#1 ∧ f.opc = 0b0101#4 then .vsli f
  else if f.U = 0b1#1 ∧ f.opc = 0b0110#4 then .vqshluImm f
  else if f.U = 0b1#1 ∧ f.opc = 0b1000#4 ∧ f.Q = 0b0#1 then .vqshrun f
  else if f.U = 0b1#1 ∧ f.opc = 0b1000#4 ∧ f.Q = 0b1#1 then .vqrshrun f
  else .notInSourceTwoRegShift f

/-- Table "Barriers" (rule R385); the last row takes what is left. -/
def decodeBarrier (f : FBarrier) : Instr :=
  if f.opcode = 0b0000#4 then .constrainedUnpredictableBarrier1 f
  else if f.opcode = 0b0001#4 then .clrex f
  else if f.opcode &&& 0b1110#4 = 0b0010#4 then .constrainedUnpredictableBarrier3 f
  else if f.opcode = 0b0100#4 ∧ f.option ≠ 0b0000#4 ∧ f.option ≠ 0b0100#4 then .dsb f
  else if f.opcode = 0b0100#4 ∧ f.option = 0b0000#4 then .ssbb f
  else if f.opcode = 0b0100#4 ∧ f.option = 0b0100#4 then .pssbb f
  else if f.opcode = 0b0101#4 then .dmb f
  else if f.opcode = 0b0110#4 then .isb f
  else if f.opcode = 0b0111#4 then .sb f
  else .constrainedUnpredictableBarrier10 f

/-- Table "Preload (immediate)" (rule R400); the last row takes what is left. -/
def decodePldImm (f : FPldImm) : Instr :=
  if f.D = 0b0#1 ∧ f.R = 0b0#1 then .reservedHintNopPldImm f
  else if f.D = 0b0#1 ∧ f.R = 0b1#1 then .pliImmLit f
  else if f.D = 0b1#1 ∧ f.Rn = 0b1111#4 then .pldLit f
  else if f.D = 0b1#1 ∧ f.R = 0b0#1 ∧ f.Rn ≠ 0b1111#4 then .pldwImm f
  else .pldImm f

/-- Table "Preload (register)" (rule R410); the last row takes what is left. -/
def decodePldReg (f : FPldReg) : Instr :=
  if f.D = 0b0#1 ∧ f.o2 = 0b0#1 then .reservedHintNopPldReg f
  else if f.D = 0b0#1 ∧ f.o2 = 0b1#1 then .pliReg f
  else if f.D = 0b1#1 ∧ f.o2 = 0b0#1 then .pldwReg f
  else .pldReg f

/-- Table "Miscellaneous" (rule R100); its row 2 is the table "Change Process State". -/
def decodeMisc (w : Word) : Instr :=
  let f := FMisc.ofWord w
  if f.op0 &&& 0b10000#5 = 0b00000#5 then .unallocatedMisc1 f
  else if f.op0 = 0b10000#5 ∧ f.op1 &&& 0b0010#4 = 0b0000#4 then decodeCps (FCps.ofWord w)
  else if f.op0 = 0b10001#5 ∧ f.op1 = 0b1000#4 then .unallocatedMisc3 f
  else if f.op0 = 0b10001#5 ∧ f.op1 &&& 0b0111#4 = 0b0100#4 then .unallocatedMisc4 f
  else if f.op0 = 0b10001#5 ∧ f.op1 &&& 0b0011#4 = 0b0001#4 then .unallocatedMisc5 f
  else if f.op0 = 0b10001#5 ∧ f.op1 = 0b0000#4 then .setpan f
  else if f.op0 &&& 0b11110#5 = 0b10000#5 ∧ f.op1 = 0b0111#4 then .unallocatedMisc7 f
  else if f.op0 = 0b10010#5 ∧ f.op1 = 0b0111#4 then .constrainedUnpredictableMisc8 f
  else if f.op0 = 0b10011#5 ∧ f.op1 = 0b0111#4 then .unallocatedMisc9 f
  else if f.op0 &&& 0b11110#5 = 0b10010#5 ∧ f.op1 &&& 0b0010#4 = 0b0000#4 then .unallocatedMisc10 f
  else if f.op0 &&& 0b11100#5 = 0b10000#5 ∧ f.op1 = 0b0011#4 then .unallocatedMisc11 f
  else if f.op0 &&& 0b11100#5 = 0b10000#5 ∧ f.op1 &&& 0b1011#4 = 0b0010#4 then .unallocatedMisc12 f
  else if f.op0 &&& 0b11100#5 = 0b10000#5 ∧ f.op1 &&& 0b1010#4 = 0b1010#4 then .unallocatedMisc13 f
  else if f.op0 &&& 0b11100#5 = 0b10100#5 then .unallocatedMisc14 f
  else .unallocatedMisc15 f

/-- Table "Advanced SIMD two registers, or three registers of different lengths" (rules R85, R98). -/
def decodeTwoRegThreeDiff (w : Word) : Instr :=
  let f := FTwoRegThreeDiff.ofWord w
  if f.op0 = 0b1#1 ∧ f.op1 = 0b11#2 ∧ f.op2 &&& 0b10#2 = 0b00#2 then decodeTwoRegMisc (FTwoRegMisc.ofWord w)
  else if f.op0 = 0b1#1 ∧ f.op1 = 0b11#2 ∧ f.op2 = 0b11#2 then decodeDup (FDup.ofWord w)
  else if f.op1 ≠ 0b11#2 ∧ f.op3 = 0b0#1 then decodeThreeDiff (FThreeDiff.ofWord w)
  else if f.op1 ≠ 0b11#2 then decodeTwoRegScalar (FTwoRegScalar.ofWord w)
  else .notInSourceTwoRegThreeDiff f

/-- Table "Advanced SIMD shifts and immediate generation" (rule R86): its field w[21:7] matches 000xxxxxxxxxxx0 when
w[21:19] = 000 and w[7] = 0. -/
def decodeShiftImm (w : Word) : Instr :=
  if bits w 19 3 = 0b000#3 ∧ bits w 7 1 = 0b0#1 then decodeOneRegImm (FOneRegImm.ofWord w)
  else decodeTwoRegShift (FTwoRegShift.ofWord w)

/-- Table "Advanced SIMD data-processing" (rule R84). -/
def decodeSimdData (w : Word) : Instr :=
  if bits w 23 1 = 0b0#1 then decodeThreeSame (FThreeSame.ofWord w)
  else if bits w 4 1 = 0b0#1 then decodeTwoRegThreeDiff w
  else decodeShiftImm w

/-- Table "Memory hints and barriers" (rule R380). -/
def decodeMemHint (w : Word) : Instr :=
  let f := FMemHint.ofWord w
  if f.op0 &&& 0b11001#5 = 0b00001#5 then .constrainedUnpredictableMemHint1 f
  else if f.op0 = 0b01001#5 then .constrainedUnpredictableMemHint2 f
  else if f.op0 = 0b01011#5 then decodeBarrier (FBarrier.ofWord w)
  else if f.op0 &&& 0b11101#5 = 0b01101#5 then .constrainedUnpredictableMemHint4 f
  else if f.op0 &&& 0b10001#5 = 0b00000#5 then decodePldImm (FPldImm.ofWord w)
  else if f.op0 &&& 0b10001#5 = 0b10000#5 ∧ f.op1 = 0b0#1 then decodePldReg (FPldReg.ofWord w)
  else if f.op0 &&& 0b10001#5 = 0b10001#5 ∧ f.op1 = 0b0#1 then .constrainedUnpredictableMemHint7 f
  else .unallocatedMemHint8 f

/-- Table "Advanced SIMD element or structure load/store" (rule R420). -/
def decodeLdSt (w : Word) : Instr :=
  if bits w 23 1 = 0b0#1 then .asimdLdstMult (FLdStMult.ofWord w)
  else if bits w 10 2 = 0b11#2 then .asimdLdAll (FLdStAll.ofWord w)
  else .asimdLdstOne (FLdStOne.ofWord w)

/-- Table "Unconditional instructions" (rules R83, R96, R97). A word of its fourth row has a diagram only with
w[24] = 0; with w[24] = 1 the source has no row for it (90_conflicts.md C1). -/
def decodeTop (w : Word) : Instr :=
  let f := FTop.ofWord w
  if f.op0 = 0b00#2 then decodeMisc w
  else if f.op0 = 0b01#2 then decodeSimdData w
  else if f.op1 = 0b1#1 then decodeMemHint w
  else if f.op0 = 0b11#2 then .unallocatedTop5 f
  else if bits w 24 1 = 0b0#1 then decodeLdSt w
  else .notInSourceTop f

/-- What a word decodes to: an instruction of the table, or a word outside its space (rule R89). -/
inductive Decoded where
  | instr (i : Instr)
  | outside
deriving DecidableEq, Repr

/-- The decoder, total on 32-bit words (rule R89). -/
def decode (w : Word) : Decoded := if bits w 27 5 = 0b11110#5 then .instr (decodeTop w) else .outside

/-- The instruction this decoder reads from a table word of `nbits` bits; the bits above `nbits` are 0 (every
instruction is one 32-bit word, rule R60). -/
def decodeTableWord (nbits w : Nat) : Option Instr :=
  match decode (BitVec.ofNat 32 (w % 2 ^ nbits)) with
  | .instr i => some i
  | .outside => none

/-- The word of an instruction: its record under the diagram of its row. -/
def encode (i : Instr) : Word :=
  match i with
  | .unallocatedTop5 f => f.toWord
  | .notInSourceTop f => f.toWord
  | .unallocatedMisc1 f => f.toWord
  | .unallocatedMisc3 f => f.toWord
  | .unallocatedMisc4 f => f.toWord
  | .unallocatedMisc5 f => f.toWord
  | .setpan f => f.toWord
  | .unallocatedMisc7 f => f.toWord
  | .constrainedUnpredictableMisc8 f => f.toWord
  | .unallocatedMisc9 f => f.toWord
  | .unallocatedMisc10 f => f.toWord
  | .unallocatedMisc11 f => f.toWord
  | .unallocatedMisc12 f => f.toWord
  | .unallocatedMisc13 f => f.toWord
  | .unallocatedMisc14 f => f.toWord
  | .unallocatedMisc15 f => f.toWord
  | .setend f => f.toWord
  | .cps f => f.toWord
  | .unallocatedCps3 f => f.toWord
  | .vfma f => f.toWord
  | .vaddFp f => f.toWord
  | .vmlaFp f => f.toWord
  | .vceqRegA2 f => f.toWord
  | .vmaxFp f => f.toWord
  | .vrecps f => f.toWord
  | .vhadd f => f.toWord
  | .vandReg f => f.toWord
  | .vqadd f => f.toWord
  | .vrhadd f => f.toWord
  | .sha1c f => f.toWord
  | .vhsub f => f.toWord
  | .vbicReg f => f.toWord
  | .vqsub f => f.toWord
  | .vcgtRegA1 f => f.toWord
  | .vcgeRegA1 f => f.toWord
  | .sha1p f => f.toWord
  | .vfms f => f.toWord
  | .vsubFp f => f.toWord
  | .vmlsFp f => f.toWord
  | .unallocatedThreeSame21 f => f.toWord
  | .vminFp f => f.toWord
  | .vrsqrts f => f.toWord
  | .vshlReg f => f.toWord
  | .vaddInt f => f.toWord
  | .vorrReg f => f.toWord
  | .vtst f => f.toWord
  | .vqshlReg f => f.toWord
  | .vmlaInt f => f.toWord
  | .vrshl f => f.toWord
  | .vqrshl f => f.toWord
  | .vqdmulh3same f => f.toWord
  | .sha1m f => f.toWord
  | .vpaddInt f => f.toWord
  | .vmaxInt f => f.toWord
  | .vornReg f => f.toWord
  | .vminInt f => f.toWord
  | .vabdInt f => f.toWord
  | .vaba f => f.toWord
  | .sha1su0 f => f.toWord
  | .vpaddFp f => f.toWord
  | .vmulFp f => f.toWord
  | .vcgeRegA2 f => f.toWord
  | .vacge f => f.toWord
  | .vpmaxFp f => f.toWord
  | .vmaxnm f => f.toWord
  | .veor f => f.toWord
  | .vmulIntPoly f => f.toWord
  | .sha256h f => f.toWord
  | .vpmaxInt f => f.toWord
  | .vbsl f => f.toWord
  | .vpminInt f => f.toWord
  | .unallocatedThreeSame53 f => f.toWord
  | .sha256h2 f => f.toWord
  | .vabdFp f => f.toWord
  | .vcgtRegA2 f => f.toWord
  | .vacgt f => f.toWord
  | .vpminFp f => f.toWord
  | .vminnm f => f.toWord
  | .vsubInt f => f.toWord
  | .vbit f => f.toWord
  | .vceqRegA1 f => f.toWord
  | .vmlsInt f => f.toWord
  | .vqrdmulh3same f => f.toWord
  | .sha256su1 f => f.toWord
  | .vqrdmlah3same f => f.toWord
  | .vbif f => f.toWord
  | .vqrdmlsh3same f => f.toWord
  | .unallocatedThreeSame69 f => f.toWord
  | .notInSourceThreeSame f => f.toWord
  | .notInSourceTwoRegThreeDiff f => f.toWord
  | .vrev64 f => f.toWord
  | .vrev32 f => f.toWord
  | .vrev16 f => f.toWord
  | .unallocatedTwoRegMisc4 f => f.toWord
  | .vpaddl f => f.toWord
  | .aese f => f.toWord
  | .aesd f => f.toWord
  | .aesmc f => f.toWord
  | .aesimc f => f.toWord
  | .vcls f => f.toWord
  | .vswp f => f.toWord
  | .vclz f => f.toWord
  | .vcnt f => f.toWord
  | .vmvnReg f => f.toWord
  | .vpadal f => f.toWord
  | .vqabs f => f.toWord
  | .vqneg f => f.toWord
  | .vcgtImm0 f => f.toWord
  | .vcgeImm0 f => f.toWord
  | .vceqImm0 f => f.toWord
  | .vcleImm0 f => f.toWord
  | .vcltImm0 f => f.toWord
  | .vabs f => f.toWord
  | .vneg f => f.toWord
  | .sha1h f => f.toWord
  | .vtrn f => f.toWord
  | .vuzp f => f.toWord
  | .vzip f => f.toWord
  | .vmovn f => f.toWord
  | .vqmovun f => f.toWord
  | .vqmovn f => f.toWord
  | .vshllMisc f => f.toWord
  | .sha1su1 f => f.toWord
  | .sha256su0 f => f.toWord
  | .vrintnAsimd f => f.toWord
  | .vrintxAsimd f => f.toWord
  | .vrintaAsimd f => f.toWord
  | .vrintzAsimd f => f.toWord
  | .vcvtSpToHp f => f.toWord
  | .unallocatedTwoRegMisc40 f => f.toWord
  | .vrintmAsimd f => f.toWord
  | .vcvtHpToSp f => f.toWord
  | .unallocatedTwoRegMisc43 f => f.toWord
  | .vrintpAsimd f => f.toWord
  | .vcvtaAsimd f => f.toWord
  | .vcvtnAsimd f => f.toWord
  | .vcvtpAsimd f => f.toWord
  | .vcvtmAsimd f => f.toWord
  | .vrecpe f => f.toWord
  | .vrsqrte f => f.toWord
  | .vcvtFpIntAsimd f => f.toWord
  | .notInSourceTwoRegMisc f => f.toWord
  | .vdupScalar f => f.toWord
  | .unallocatedDup2 f => f.toWord
  | .unallocatedDup3 f => f.toWord
  | .unallocatedDup4 f => f.toWord
  | .vaddl f => f.toWord
  | .vaddw f => f.toWord
  | .vsubl f => f.toWord
  | .vaddhn f => f.toWord
  | .vsubw f => f.toWord
  | .vsubhn f => f.toWord
  | .vqdmlal3diff f => f.toWord
  | .vabal f => f.toWord
  | .vqdmlsl3diff f => f.toWord
  | .vqdmull3diff f => f.toWord
  | .vabdlInt f => f.toWord
  | .vmlalInt f => f.toWord
  | .vmlslInt f => f.toWord
  | .vraddhn f => f.toWord
  | .vrsubhn f => f.toWord
  | .vmullIntPoly f => f.toWord
  | .unallocatedThreeDiff17 f => f.toWord
  | .unallocatedThreeDiff18 f => f.toWord
  | .unallocatedThreeDiff19 f => f.toWord
  | .unallocatedThreeDiff20 f => f.toWord
  | .vmlaScalar f => f.toWord
  | .vqdmlalScalar f => f.toWord
  | .vmlalScalar f => f.toWord
  | .vqdmlslScalar f => f.toWord
  | .vmlsScalar f => f.toWord
  | .vqdmullScalar f => f.toWord
  | .vmlslScalar f => f.toWord
  | .vmulScalar f => f.toWord
  | .unallocatedTwoRegScalar9 f => f.toWord
  | .vmullScalar f => f.toWord
  | .unallocatedTwoRegScalar11 f => f.toWord
  | .vqdmulhScalar f => f.toWord
  | .vqrdmulhScalar f => f.toWord
  | .unallocatedTwoRegScalar14 f => f.toWord
  | .vqrdmlahScalar f => f.toWord
  | .vqrdmlshScalar f => f.toWord
  | .vmovImmA1 f => f.toWord
  | .vmvnImmA1 f => f.toWord
  | .vorrImmA1 f => f.toWord
  | .vbicImmA1 f => f.toWord
  | .vmovImmA3 f => f.toWord
  | .vmvnImmA2 f => f.toWord
  | .vorrImmA2 f => f.toWord
  | .vbicImmA2 f => f.toWord
  | .vmovImmA4 f => f.toWord
  | .vmvnImmA3 f => f.toWord
  | .vmovImmA5 f => f.toWord
  | .unallocatedOneRegImm12 f => f.toWord
  | .vshr f => f.toWord
  | .vsra f => f.toWord
  | .vmovl f => f.toWord
  | .vrshr f => f.toWord
  | .vrsra f => f.toWord
  | .vqshlImm f => f.toWord
  | .vqshrn f => f.toWord
  | .vqrshrn f => f.toWord
  | .vshllImm f => f.toWord
  | .vcvtFpFixedAsimd f => f.toWord
  | .vshlImm f => f.toWord
  | .vshrn f => f.toWord
  | .vrshrn f => f.toWord
  | .vsri f => f.toWord
  | .vsli f => f.toWord
  | .vqshluImm f => f.toWord
  | .vqshrun f => f.toWord
  | .vqrshrun f => f.toWord
  | .notInSourceTwoRegShift f => f.toWord
  | .constrainedUnpredictableMemHint1 f => f.toWord
  | .constrainedUnpredictableMemHint2 f => f.toWord
  | .constrainedUnpredictableMemHint4 f => f.toWord
  | .constrainedUnpredictableMemHint7 f => f.toWord
  | .unallocatedMemHint8 f => f.toWord
  | .constrainedUnpredictableBarrier1 f => f.toWord
  | .clrex f => f.toWord
  | .constrainedUnpredictableBarrier3 f => f.toWord
  | .dsb f => f.toWord
  | .ssbb f => f.toWord
  | .pssbb f => f.toWord
  | .dmb f => f.toWord
  | .isb f => f.toWord
  | .sb f => f.toWord
  | .constrainedUnpredictableBarrier10 f => f.toWord
  | .reservedHintNopPldImm f => f.toWord
  | .pliImmLit f => f.toWord
  | .pldLit f => f.toWord
  | .pldwImm f => f.toWord
  | .pldImm f => f.toWord
  | .reservedHintNopPldReg f => f.toWord
  | .pliReg f => f.toWord
  | .pldwReg f => f.toWord
  | .pldReg f => f.toWord
  | .asimdLdstMult f => f.toWord
  | .asimdLdAll f => f.toWord
  | .asimdLdstOne f => f.toWord

end Sys2Proof
end

