-- ==== Sys2Proof/Machine/Gate.lean ====
section
/-! DEFINITION. The feature gate of rule R454 and the should-be bits of rule R441. -/

namespace Sys2Proof.Machine

/-- The parameters that cover an instruction are all true (rule R454). A row that is no instruction is covered by none. -/
def gateOpen (p : Params) (i : Instr) : Bool :=
  match i with
  | .unallocatedTop5 _ | .notInSourceTop _ | .unallocatedMisc1 _ | .unallocatedMisc3 _ | .unallocatedMisc4 _
  | .unallocatedMisc5 _ | .unallocatedMisc7 _ | .constrainedUnpredictableMisc8 _ | .unallocatedMisc9 _
  | .unallocatedMisc10 _ | .unallocatedMisc11 _ | .unallocatedMisc12 _ | .unallocatedMisc13 _
  | .unallocatedMisc14 _ | .unallocatedMisc15 _ | .setend _ | .cps _ | .unallocatedCps3 _
  | .unallocatedThreeSame21 _ | .unallocatedThreeSame53 _ | .unallocatedThreeSame69 _ | .notInSourceThreeSame _
  | .notInSourceTwoRegThreeDiff _ | .unallocatedTwoRegMisc4 _ | .unallocatedTwoRegMisc40 _
  | .unallocatedTwoRegMisc43 _ | .notInSourceTwoRegMisc _ | .unallocatedDup2 _ | .unallocatedDup3 _
  | .unallocatedDup4 _ | .unallocatedThreeDiff17 _ | .unallocatedThreeDiff18 _ | .unallocatedThreeDiff19 _
  | .unallocatedThreeDiff20 _ | .unallocatedTwoRegScalar9 _ | .unallocatedTwoRegScalar11 _
  | .unallocatedTwoRegScalar14 _ | .unallocatedOneRegImm12 _ | .notInSourceTwoRegShift _
  | .constrainedUnpredictableMemHint1 _ | .constrainedUnpredictableMemHint2 _ | .constrainedUnpredictableMemHint4 _
  | .constrainedUnpredictableMemHint7 _ | .unallocatedMemHint8 _ | .constrainedUnpredictableBarrier1 _ | .clrex _
  | .constrainedUnpredictableBarrier3 _ | .dsb _ | .ssbb _ | .pssbb _ | .dmb _ | .isb _
  | .constrainedUnpredictableBarrier10 _ | .reservedHintNopPldImm _ | .pliImmLit _ | .pldLit _ | .pldwImm _
  | .pldImm _ | .reservedHintNopPldReg _ | .pliReg _ | .pldwReg _ | .pldReg _ => true
  | .setpan _ => p.haveArmv81
  | .vfma _ | .vaddFp _ | .vmlaFp _ | .vceqRegA2 _ | .vmaxFp _ | .vrecps _ | .vhadd _ | .vandReg _ | .vqadd _
  | .vrhadd _ | .vhsub _ | .vbicReg _ | .vqsub _ | .vcgtRegA1 _ | .vcgeRegA1 _ | .vfms _ | .vsubFp _ | .vmlsFp _
  | .vminFp _ | .vrsqrts _ | .vshlReg _ | .vaddInt _ | .vorrReg _ | .vtst _ | .vqshlReg _ | .vmlaInt _ | .vrshl _
  | .vqrshl _ | .vqdmulh3same _ | .vpaddInt _ | .vmaxInt _ | .vornReg _ | .vminInt _ | .vabdInt _ | .vaba _
  | .vpaddFp _ | .vmulFp _ | .vcgeRegA2 _ | .vacge _ | .vpmaxFp _ | .vmaxnm _ | .veor _ | .vmulIntPoly _
  | .vpmaxInt _ | .vbsl _ | .vpminInt _ | .vabdFp _ | .vcgtRegA2 _ | .vacgt _ | .vpminFp _ | .vminnm _ | .vsubInt _
  | .vbit _ | .vceqRegA1 _ | .vmlsInt _ | .vqrdmulh3same _ | .vbif _ | .vrev64 _ | .vrev32 _ | .vrev16 _
  | .vpaddl _ | .vcls _ | .vswp _ | .vclz _ | .vcnt _ | .vmvnReg _ | .vpadal _ | .vqabs _ | .vqneg _ | .vcgtImm0 _
  | .vcgeImm0 _ | .vceqImm0 _ | .vcleImm0 _ | .vcltImm0 _ | .vabs _ | .vneg _ | .vtrn _ | .vuzp _ | .vzip _
  | .vmovn _ | .vqmovun _ | .vqmovn _ | .vshllMisc _ | .vrintnAsimd _ | .vrintxAsimd _ | .vrintaAsimd _
  | .vrintzAsimd _ | .vcvtSpToHp _ | .vrintmAsimd _ | .vcvtHpToSp _ | .vrintpAsimd _ | .vcvtaAsimd _
  | .vcvtnAsimd _ | .vcvtpAsimd _ | .vcvtmAsimd _ | .vrecpe _ | .vrsqrte _ | .vcvtFpIntAsimd _ | .vdupScalar _
  | .vaddl _ | .vaddw _ | .vsubl _ | .vaddhn _ | .vsubw _ | .vsubhn _ | .vqdmlal3diff _ | .vabal _
  | .vqdmlsl3diff _ | .vqdmull3diff _ | .vabdlInt _ | .vmlalInt _ | .vmlslInt _ | .vraddhn _ | .vrsubhn _
  | .vmullIntPoly _ | .vmlaScalar _ | .vqdmlalScalar _ | .vmlalScalar _ | .vqdmlslScalar _ | .vmlsScalar _
  | .vqdmullScalar _ | .vmlslScalar _ | .vmulScalar _ | .vmullScalar _ | .vqdmulhScalar _ | .vqrdmulhScalar _
  | .vmovImmA1 _ | .vmvnImmA1 _ | .vorrImmA1 _ | .vbicImmA1 _ | .vmovImmA3 _ | .vmvnImmA2 _ | .vorrImmA2 _
  | .vbicImmA2 _ | .vmovImmA4 _ | .vmvnImmA3 _ | .vmovImmA5 _ | .vshr _ | .vsra _ | .vmovl _ | .vrshr _ | .vrsra _
  | .vqshlImm _ | .vqshrn _ | .vqrshrn _ | .vshllImm _ | .vcvtFpFixedAsimd _ | .vshlImm _ | .vshrn _ | .vrshrn _
  | .vsri _ | .vsli _ | .vqshluImm _ | .vqshrun _ | .vqrshrun _ | .asimdLdstMult _ | .asimdLdAll _
  | .asimdLdstOne _ => p.haveAsimd
  | .sb _ => p.haveSb
  | .vqrdmlah3same _ | .vqrdmlsh3same _ | .vqrdmlahScalar _ | .vqrdmlshScalar _ => p.haveArmv81 && p.haveAsimd
  | .aese _ | .aesd _ | .aesmc _ | .aesimc _ => p.haveAsimd && p.haveAes
  | .sha1c _ | .sha1p _ | .sha1m _ | .sha1su0 _ | .sha1h _ | .sha1su1 _ => p.haveAsimd && p.haveSha1
  | .sha256h _ | .sha256h2 _ | .sha256su1 _ | .sha256su0 _ => p.haveAsimd && p.haveSha256

/-- The parenthesised bits of a word differ from the printed values, in the formats that have such bits (rules R9,
R441). `option` of a barrier is none of them, although rule R416 calls it should-be bits in CLREX and SB
(notes/assumptions/19.md). The rows that are no instruction stop before their bits are looked at. -/
def sbViolation (w : Word) (i : Instr) : Bool :=
  match i with
  | .setend _ | .cps _ => bits w 10 6 != 0b000000#6
  | .clrex _ | .dsb _ | .ssbb _ | .pssbb _ | .dmb _ | .isb _ | .sb _
    => bits w 12 8 != 0b11111111#8 || bits w 8 4 != 0b0000#4
  | .reservedHintNopPldImm _ | .pliImmLit _ | .pldLit _ | .pldwImm _ | .pldImm _ | .reservedHintNopPldReg _
  | .pliReg _ | .pldwReg _ | .pldReg _ => bits w 12 4 != 0b1111#4
  | .unallocatedTop5 _ | .notInSourceTop _ | .unallocatedMisc1 _ | .unallocatedMisc3 _ | .unallocatedMisc4 _
  | .unallocatedMisc5 _ | .setpan _ | .unallocatedMisc7 _ | .constrainedUnpredictableMisc8 _ | .unallocatedMisc9 _
  | .unallocatedMisc10 _ | .unallocatedMisc11 _ | .unallocatedMisc12 _ | .unallocatedMisc13 _
  | .unallocatedMisc14 _ | .unallocatedMisc15 _ | .unallocatedCps3 _ | .vfma _ | .vaddFp _ | .vmlaFp _
  | .vceqRegA2 _ | .vmaxFp _ | .vrecps _ | .vhadd _ | .vandReg _ | .vqadd _ | .vrhadd _ | .sha1c _ | .vhsub _
  | .vbicReg _ | .vqsub _ | .vcgtRegA1 _ | .vcgeRegA1 _ | .sha1p _ | .vfms _ | .vsubFp _ | .vmlsFp _
  | .unallocatedThreeSame21 _ | .vminFp _ | .vrsqrts _ | .vshlReg _ | .vaddInt _ | .vorrReg _ | .vtst _
  | .vqshlReg _ | .vmlaInt _ | .vrshl _ | .vqrshl _ | .vqdmulh3same _ | .sha1m _ | .vpaddInt _ | .vmaxInt _
  | .vornReg _ | .vminInt _ | .vabdInt _ | .vaba _ | .sha1su0 _ | .vpaddFp _ | .vmulFp _ | .vcgeRegA2 _ | .vacge _
  | .vpmaxFp _ | .vmaxnm _ | .veor _ | .vmulIntPoly _ | .sha256h _ | .vpmaxInt _ | .vbsl _ | .vpminInt _
  | .unallocatedThreeSame53 _ | .sha256h2 _ | .vabdFp _ | .vcgtRegA2 _ | .vacgt _ | .vpminFp _ | .vminnm _
  | .vsubInt _ | .vbit _ | .vceqRegA1 _ | .vmlsInt _ | .vqrdmulh3same _ | .sha256su1 _ | .vqrdmlah3same _ | .vbif _
  | .vqrdmlsh3same _ | .unallocatedThreeSame69 _ | .notInSourceThreeSame _ | .notInSourceTwoRegThreeDiff _
  | .vrev64 _ | .vrev32 _ | .vrev16 _ | .unallocatedTwoRegMisc4 _ | .vpaddl _ | .aese _ | .aesd _ | .aesmc _
  | .aesimc _ | .vcls _ | .vswp _ | .vclz _ | .vcnt _ | .vmvnReg _ | .vpadal _ | .vqabs _ | .vqneg _ | .vcgtImm0 _
  | .vcgeImm0 _ | .vceqImm0 _ | .vcleImm0 _ | .vcltImm0 _ | .vabs _ | .vneg _ | .sha1h _ | .vtrn _ | .vuzp _
  | .vzip _ | .vmovn _ | .vqmovun _ | .vqmovn _ | .vshllMisc _ | .sha1su1 _ | .sha256su0 _ | .vrintnAsimd _
  | .vrintxAsimd _ | .vrintaAsimd _ | .vrintzAsimd _ | .vcvtSpToHp _ | .unallocatedTwoRegMisc40 _ | .vrintmAsimd _
  | .vcvtHpToSp _ | .unallocatedTwoRegMisc43 _ | .vrintpAsimd _ | .vcvtaAsimd _ | .vcvtnAsimd _ | .vcvtpAsimd _
  | .vcvtmAsimd _ | .vrecpe _ | .vrsqrte _ | .vcvtFpIntAsimd _ | .notInSourceTwoRegMisc _ | .vdupScalar _
  | .unallocatedDup2 _ | .unallocatedDup3 _ | .unallocatedDup4 _ | .vaddl _ | .vaddw _ | .vsubl _ | .vaddhn _
  | .vsubw _ | .vsubhn _ | .vqdmlal3diff _ | .vabal _ | .vqdmlsl3diff _ | .vqdmull3diff _ | .vabdlInt _
  | .vmlalInt _ | .vmlslInt _ | .vraddhn _ | .vrsubhn _ | .vmullIntPoly _ | .unallocatedThreeDiff17 _
  | .unallocatedThreeDiff18 _ | .unallocatedThreeDiff19 _ | .unallocatedThreeDiff20 _ | .vmlaScalar _
  | .vqdmlalScalar _ | .vmlalScalar _ | .vqdmlslScalar _ | .vmlsScalar _ | .vqdmullScalar _ | .vmlslScalar _
  | .vmulScalar _ | .unallocatedTwoRegScalar9 _ | .vmullScalar _ | .unallocatedTwoRegScalar11 _ | .vqdmulhScalar _
  | .vqrdmulhScalar _ | .unallocatedTwoRegScalar14 _ | .vqrdmlahScalar _ | .vqrdmlshScalar _ | .vmovImmA1 _
  | .vmvnImmA1 _ | .vorrImmA1 _ | .vbicImmA1 _ | .vmovImmA3 _ | .vmvnImmA2 _ | .vorrImmA2 _ | .vbicImmA2 _
  | .vmovImmA4 _ | .vmvnImmA3 _ | .vmovImmA5 _ | .unallocatedOneRegImm12 _ | .vshr _ | .vsra _ | .vmovl _
  | .vrshr _ | .vrsra _ | .vqshlImm _ | .vqshrn _ | .vqrshrn _ | .vshllImm _ | .vcvtFpFixedAsimd _ | .vshlImm _
  | .vshrn _ | .vrshrn _ | .vsri _ | .vsli _ | .vqshluImm _ | .vqshrun _ | .vqrshrun _ | .notInSourceTwoRegShift _
  | .constrainedUnpredictableMemHint1 _ | .constrainedUnpredictableMemHint2 _ | .constrainedUnpredictableMemHint4 _
  | .constrainedUnpredictableMemHint7 _ | .unallocatedMemHint8 _ | .constrainedUnpredictableBarrier1 _
  | .constrainedUnpredictableBarrier3 _ | .constrainedUnpredictableBarrier10 _ | .asimdLdstMult _ | .asimdLdAll _
  | .asimdLdstOne _ => false

end Sys2Proof.Machine
end

