-- ==== Sys2Proof/Machine/Step.lean ====
section
/-! DEFINITION. One step of the machine (60_exceptions.md rules R441, R444) and the placing of one instruction word where
the next step fetches it. -/

namespace Sys2Proof.Machine

/-- The word instruction memory has at an address, if any (rule R51). -/
def InstrMemory.fetch : InstrMemory → Nat → Option Word
  | [], _ => none
  | c :: rest, a => if c.1 = a then some c.2 else InstrMemory.fetch rest a

/-- Running a decoded word: the feature gate, the should-be bits under P8 = Fault, then the instruction's meaning
(rules R441, R454). -/
def runDecoded (w : Word) (i : Instr) (s : State) : Host.Outcome State Fault Refusal :=
  if !gateOpen s.params i then raise .undefinedInstruction
  else if s.params.sbPolicy = .fault ∧ sbViolation w i then raise .shouldBeBits
  else exec i s

/-- One step: the pc's alignment, the fetch, the decoder, then the instruction (rule R441). -/
def step (s : State) : Host.Outcome State Fault Refusal :=
  if s.pc.toNat % 4 ≠ 0 then .refused .outsideScope
  else
    match InstrMemory.fetch s.imem s.pc.toNat with
    | none => raise .fetchFault
    | some w =>
      match decode w with
      | .outside => .refused .outsideScope
      | .instr i => runDecoded w i s

/-- The state with the low `nbits` bits of `w` as the instruction word at pc (notes/assumptions/4.md). -/
def State.withFetchWord (s : State) (nbits w : Nat) : State :=
  { s with imem := (s.pc.toNat, BitVec.ofNat 32 (w % 2 ^ nbits)) :: s.imem }

end Sys2Proof.Machine
end

