-- ==== Sys2Proof/Safety.lean ====
section
/-! DEFINITION. The terms the statements use: when an instruction can complete, what a state leaves alone, and the
invariant of the machine. -/

namespace Sys2Proof.Machine

/-- The successor pc + 4 fits in 32 bits (rule R22). -/
def State.HasSuccessor (s : State) : Prop := s.pc.toNat + 4 < 2 ^ 32

/-- Advanced SIMD instructions can run: the unit is accessible (rules R27, R472) and the pc has a successor. -/
def State.SimdReady (s : State) : Prop := s.simdEnabled = true ∧ s.HasSuccessor

/-- What every step keeps: the pc is word-aligned (rule R22) and data memory is in canonical form. -/
def State.Inv (s : State) : Prop := s.pc.toNat % 4 = 0 ∧ Memory.wf s.mem = true

/-- The parts of the state that no instruction of this space writes (rules R4, R25, R51, R445). -/
def SameFixed (s t : State) : Prop :=
  t.params = s.params ∧ t.imem = s.imem ∧ t.ctl = s.ctl ∧ t.spsr = s.spsr ∧ t.privRegions = s.privRegions

/-- The general registers, every banked copy of them. -/
def SameGeneral (s t : State) : Prop := t.r = s.r ∧ t.rFiq = s.rFiq ∧ t.sp = s.sp ∧ t.lr = s.lr

/-- Every byte of data memory. -/
def SameMemory (s t : State) : Prop := ∀ a : Word, t.byte a = s.byte a

/-- Every vector register, and the counter of free values. -/
def SameVectors (s t : State) : Prop := (∀ k, t.readD k = s.readD k) ∧ t.freeCount = s.freeCount

/-- FPSCR gains at most bits of `allowed` and loses none: its flags are cumulative (rule R23). -/
def FlagsWithin (allowed : Flags) (s t : State) : Prop :=
  ∃ fl : Flags, fl &&& ~~~allowed = 0#32 ∧ t.fpscr = s.fpscr ||| fl

/-- The cumulative floating-point flags IOC, DZC, OFC, UFC, IXC and IDC (rule R23). -/
def fpFlags : Flags := flagIOC ||| flagDZC ||| flagOFC ||| flagUFC ||| flagIXC ||| flagIDC

/-- The `count` doubleword registers from `d` on. -/
def Regs (d count : Nat) (k : Nat) : Prop := d ≤ k ∧ k < d + count

/-- The next state of an instruction that writes the doubleword registers `written` and the flags of `allowed`, and
nothing else but the pc, which goes on to the next instruction (rule R111). -/
def VectorFrame (allowed : Flags) (written : Nat → Prop) (s t : State) : Prop :=
  t.pc = s.pc + 4#32 ∧ SameFixed s t ∧ SameGeneral s t ∧ SameMemory s t ∧ t.cpsr = s.cpsr ∧
    t.reservation = s.reservation ∧ t.freeCount = s.freeCount ∧ FlagsWithin allowed s t ∧
    ∀ k, ¬written k → t.readD k = s.readD k

/-- The next state of an instruction that changes nothing but the pc. -/
def OnlyPc (s t : State) : Prop := t = { s with pc := s.pc + 4#32 }

/-- The registers of an operand are all even where Q = 1 (rule R196). -/
def EvenFor (Q : BitVec 1) (regs : List Nat) : Prop := Q = 1#1 → ∀ a ∈ regs, a % 2 = 0

/-- The instruction answers a next state, and that state is as `P` says. -/
def Completes (i : Instr) (s : State) (P : State → Prop) : Prop := ∃ t, exec i s = .next t ∧ P t

/-- The instruction completes, changes no flag and nothing but the `count` doubleword registers from `d` on, and lane `j`
of those is `r j`. -/
def GivesLanes (i : Instr) (s : State) (e d count : Nat) (r : Nat → BitVec e) : Prop :=
  Completes i s fun t =>
    VectorFrame 0#32 (Regs d count) s t ∧ ∀ j, j < count * (64 / e) → t.laneAt e d j = r j

/-- The same, and each FPSCR bit among `allowed` is set where it was set or where some lane of `r` sets it. -/
def GivesFlaggedLanes (i : Instr) (s : State) (allowed : Flags) (e d count : Nat) (r : Nat → Lane e) : Prop :=
  Completes i s fun t =>
    VectorFrame allowed (Regs d count) s t ∧ (∀ j, j < count * (64 / e) → t.laneAt e d j = (r j).1) ∧
      ∀ b, b < 32 →
        (t.fpscr.getLsbD b = true ↔
          s.fpscr.getLsbD b = true ∨ ∃ j, j < count * (64 / e) ∧ (r j).2.getLsbD b = true)

/-- An integer brought into the range of a lane (rule R197). -/
def clamp (e : Nat) (unsigned : Bool) (v : Int) : Int := max (satMin e unsigned) (min (satMax e unsigned) v)

/-- An integer outside the range of a lane, which sets QC (rule R197). -/
def OutOfRange (e : Nat) (unsigned : Bool) (v : Int) : Prop := v < satMin e unsigned ∨ satMax e unsigned < v

/-- The instruction completes with lane `j` of its result, read as an integer, equal to `x j`; QC is set where it was set
or where `sat j` holds of some lane. -/
def GivesSaturated (i : Instr) (s : State) (e d count : Nat) (unsigned : Bool) (x : Nat → Int) (sat : Nat → Prop) :
    Prop :=
  Completes i s fun t =>
    VectorFrame flagQC (Regs d count) s t ∧
      (∀ j, j < count * (64 / e) → laneInt unsigned (t.laneAt e d j) = x j) ∧
      (t.fpscr.getLsbD 27 = true ↔ s.fpscr.getLsbD 27 = true ∨ ∃ j, j < count * (64 / e) ∧ sat j)

/-- The word that the next step fetches is `w` (rules R22, R51). -/
def State.Fetches (s : State) (w : Word) : Prop :=
  s.pc.toNat % 4 = 0 ∧ InstrMemory.fetch s.imem s.pc.toNat = some w

/-- A row of opcode_table.json by its mask and match, and the patterns it excludes (rules R8, R90). -/
def RowTakes (w mask match' : Word) (excluded : List (Word × Word)) : Prop :=
  w &&& mask = match' ∧ ∀ e ∈ excluded, w &&& e.1 ≠ e.2

/-! ## Results that several statements share -/

/-- Bit `k` of the product of two polynomials over GF(2): the sum modulo 2 of the products of bits whose places add up to
`k` (rule R167). -/
def gf2ProductBit {e : Nat} (a b : BitVec e) (k : Nat) : Bool :=
  (List.range (k + 1)).foldr (fun i acc => (a.getLsbD (k - i) && b.getLsbD i) ^^ acc) false

/-- Lane `j` of the lanes of Vn followed by those of Vm, which the pairwise rows read (rule R153). -/
def pairSource (s : State) (e n m j : Nat) : BitVec e :=
  if j < 64 / e then s.laneAt e n j else s.laneAt e m (j - 64 / e)

/-- The four doubling multiplies that keep the high half, each with the integer it saturates: without and with rounding,
adding to and subtracting from the accumulator (rules R151, R182, R184, R186). -/
def doublingHigh (e : Nat) (acc a b : Nat → Int) (mul round add subtract : Instr) : List (Instr × (Nat → Int)) :=
  [(mul, fun j => 2 * (a j * b j) / 2 ^ e), (round, fun j => (2 * (a j * b j) + 2 ^ (e - 1)) / 2 ^ e),
    (add, fun j => (acc j * 2 ^ e + 2 * (a j * b j) + 2 ^ (e - 1)) / 2 ^ e),
    (subtract, fun j => (acc j * 2 ^ e - 2 * (a j * b j) + 2 ^ (e - 1)) / 2 ^ e)]

/-- The three long doubling multiplies, from the doubled products `p` and the accumulator `acc` (rules R287, R289,
R290). -/
def GivesLongDoubling (s : State) (e d : Nat) (acc p : Nat → Int) (mull mlal mlsl : Instr) : Prop :=
  GivesSaturated mull s (2 * e) d 2 false (fun j => clamp (2 * e) false (p j)) (fun j => OutOfRange (2 * e) false (p j)) ∧
    GivesSaturated mlal s (2 * e) d 2 false (fun j => clamp (2 * e) false (acc j + clamp (2 * e) false (p j)))
      (fun j => OutOfRange (2 * e) false (p j) ∨ OutOfRange (2 * e) false (acc j + clamp (2 * e) false (p j))) ∧
    GivesSaturated mlsl s (2 * e) d 2 false (fun j => clamp (2 * e) false (acc j - clamp (2 * e) false (p j)))
      (fun j => OutOfRange (2 * e) false (p j) ∨ OutOfRange (2 * e) false (acc j - clamp (2 * e) false (p j)))

/-- The instruction completes, changes nothing but the `count` registers from `d` on and those from `m` on, and lane `j` of
the first is `r j`, of the second `q j`. -/
def GivesBoth (i : Instr) (s : State) (e d m count : Nat) (r q : Nat → BitVec e) : Prop :=
  Completes i s fun t =>
    VectorFrame 0#32 (fun k => Regs d count k ∨ Regs m count k) s t ∧
      ∀ j, j < count * (64 / e) → t.laneAt e d j = r j ∧ t.laneAt e m j = q j

/-! ## Loads and stores -/

/-- The general registers after a load or store of `moved` bytes: unchanged for Rm = 1111, else R[Rn] is R[Rn] plus the
bytes moved for Rm = 1101, or plus R[Rm] (rule R425), modulo 2^32 (PRESUMED, notes/assumptions/30.md). -/
def BaseUpdated (Rn Rm : BitVec 4) (moved : Nat) (s t : State) : Prop :=
  (Rm = 15#4 → SameGeneral s t) ∧
    (Rm = 13#4 → SameGeneral (s.writeReg Rn (s.readReg Rn + BitVec.ofNat 32 moved)) t) ∧
    (Rm ≠ 15#4 → Rm ≠ 13#4 → SameGeneral (s.writeReg Rn (s.readReg Rn + s.readReg Rm)) t)

/-- How far the counter of free values moves for a list of registers whose last number is `last` (notes/assumptions/20.md). -/
def freeUsed (last : Nat) : Nat := if last < 32 then 0 else 8

/-- The next state of a load of `moved` bytes into the registers `named`, the last of them `last`: a number past D31 leaves
a free value in the register it names modulo 32 (notes/assumptions/20.md), and no other register changes. -/
def LoadFrame (Rn Rm : BitVec 4) (moved last : Nat) (named : Nat → Prop) (s t : State) : Prop :=
  t.pc = s.pc + 4#32 ∧ SameFixed s t ∧ SameMemory s t ∧ t.cpsr = s.cpsr ∧ t.fpscr = s.fpscr ∧
    t.reservation = s.reservation ∧ t.freeCount = s.freeCount + freeUsed last ∧ BaseUpdated Rn Rm moved s t ∧
    (∀ k, named (32 + k) → t.readD k = Config.freeDWord (s.freeCount + k)) ∧
    ∀ k, ¬named k → ¬named (32 + k) → t.readD k = s.readD k

/-- The next state of a store of `moved` bytes from the address `base` up: no other byte of memory changes. -/
def StoreFrame (Rn Rm : BitVec 4) (moved last : Nat) (base : Word) (s t : State) : Prop :=
  t.pc = s.pc + 4#32 ∧ SameFixed s t ∧ (∀ k, t.readD k = s.readD k) ∧ t.cpsr = s.cpsr ∧ t.fpscr = s.fpscr ∧
    t.reservation = s.reservation ∧ t.freeCount = s.freeCount + freeUsed last ∧ BaseUpdated Rn Rm moved s t ∧
    ∀ a : Word, ¬(a - base).toNat < moved → t.byte a = s.byte a

/-- The doubleword stored for register number `n`: a number past D31 gives a free value (notes/assumptions/20.md). -/
def storedD (s : State) (n : Nat) : DWord := if n < 32 then s.readD n else Config.freeDWord (s.freeCount + (n - 32))

/-- The byte lies in no region that is closed to EL0 (rule R25; notes/assumptions/25.md). -/
def State.OpenToEl0 (s : State) (a : Word) : Prop :=
  ∀ r ∈ s.privRegions, ¬(r.base ≤ a.toNat ∧ a.toNat < r.base + r.size)

/-- The `n` bytes from an address on may be accessed: in User mode all are open to EL0, and in a privileged mode with
PSTATE.PAN (CPSR bit 22) set none is (rule R25; notes/assumptions/25.md). -/
def State.MayAccess (s : State) (base : Word) (n : Nat) : Prop :=
  ∀ i, i < n →
    (s.unprivileged = true → s.OpenToEl0 (base + BitVec.ofNat 32 i)) ∧
      (s.unprivileged = false → s.cpsr.getLsbD 22 = true → ¬s.OpenToEl0 (base + BitVec.ofNat 32 i))

/-- The alignment in bytes of an address: what is asked for, else the element's where SCTLR.A is 1 (rule R42). -/
def alignment (s : State) (e asked : Nat) : Nat := if asked ≠ 1 then asked else if s.ctl.sctlrA then e / 8 else 1

/-- The members of "multiple structures" (rule R425): `type`, elements of a structure, registers for each of them, register
spacing, and the values of `align` that the member has (the last are notes/assumptions/20.md). -/
def structureTable : List (BitVec 4 × Nat × Nat × Nat × List (BitVec 2)) :=
  [(0b0000#4, 4, 1, 1, [0, 1, 2, 3]), (0b0001#4, 4, 1, 2, [0, 1, 2, 3]), (0b0010#4, 1, 4, 1, [0, 1, 2, 3]),
    (0b0011#4, 2, 2, 2, [0, 1, 2, 3]), (0b0100#4, 3, 1, 1, [0, 1]), (0b0101#4, 3, 1, 2, [0, 1]),
    (0b0110#4, 1, 3, 1, [0, 1]), (0b0111#4, 1, 1, 1, [0, 1]), (0b1000#4, 2, 1, 1, [0, 1, 2]),
    (0b1001#4, 2, 1, 2, [0, 1, 2]), (0b1010#4, 1, 2, 1, [0, 1, 2])]

/-- A form of "multiple structures": elements of `e` bits, `n` of them in a structure, each into `regs` registers, `inc`
apart, from an address aligned to `asked` bytes. -/
def MultForm (f : FLdStMult) (e n regs inc asked : Nat) : Prop :=
  (∃ aligns, (f.type, n, regs, inc, aligns) ∈ structureTable ∧ f.align ∈ aligns) ∧ (n = 1 ∨ f.size ≠ 0b11#2) ∧
    e = 8 * 2 ^ f.size.toNat ∧ asked = if f.align = 0#2 then 1 else 4 * 2 ^ f.align.toNat

/-- A form of "single structure to all lanes", whose elements have 8 << size bits (rule R425; which values of `size` and
`a` a member has, and the alignments, are notes/assumptions/20.md). -/
def AllForm (f : FLdStAll) (e n regs inc asked : Nat) : Prop :=
  f.L = 1#1 ∧ n = f.N.toNat + 1 ∧ inc = f.T.toNat + 1 ∧ regs = (if n = 1 then f.T.toNat + 1 else 1) ∧
    e = 8 * 2 ^ f.size.toNat ∧ (f.size = 0b11#2 → n = 4 ∧ f.a = 1#1) ∧
    (f.a = 1#1 → n ≠ 3 ∧ ¬(n = 1 ∧ e = 8)) ∧
    asked = if f.a = 0#1 then 1 else if n = 4 ∧ e = 32 then 8 else n * (e / 8)

/-- The members of "one lane" (rule R425): `size`, `N`, the bits of index_align below the lane index, the register spacing
and the alignment in bytes that is asked for (the last two are notes/assumptions/20.md). -/
def oneLaneTable : List (Nat × Nat × Nat × Nat × Nat) :=
  [(0, 0, 0b0, 1, 1), (0, 1, 0b0, 1, 1), (0, 1, 0b1, 1, 2), (0, 2, 0b0, 1, 1), (0, 3, 0b0, 1, 1), (0, 3, 0b1, 1, 4),
    (1, 0, 0b00, 1, 1), (1, 0, 0b01, 1, 2), (1, 1, 0b00, 1, 1), (1, 1, 0b01, 1, 4), (1, 1, 0b10, 2, 1),
    (1, 1, 0b11, 2, 4), (1, 2, 0b00, 1, 1), (1, 2, 0b10, 2, 1), (1, 3, 0b00, 1, 1), (1, 3, 0b01, 1, 8),
    (1, 3, 0b10, 2, 1), (1, 3, 0b11, 2, 8),
    (2, 0, 0b000, 1, 1), (2, 0, 0b011, 1, 4), (2, 1, 0b000, 1, 1), (2, 1, 0b001, 1, 8), (2, 1, 0b100, 2, 1),
    (2, 1, 0b101, 2, 8), (2, 2, 0b000, 1, 1), (2, 2, 0b100, 2, 1), (2, 3, 0b000, 1, 1), (2, 3, 0b001, 1, 8),
    (2, 3, 0b010, 1, 16), (2, 3, 0b100, 2, 1), (2, 3, 0b101, 2, 8), (2, 3, 0b110, 2, 16)]

/-- A form of "one lane": the lane index is index_align<3:1>, <3:2> or <3> for elements of 8, 16 or 32 bits (rule R425). -/
def OneForm (f : FLdStOne) (e n index inc asked : Nat) : Prop :=
  (f.size.toNat, f.N.toNat, f.index_align.toNat % 2 ^ (f.size.toNat + 1), inc, asked) ∈ oneLaneTable ∧
    index = f.index_align.toNat / 2 ^ (f.size.toNat + 1) ∧ n = f.N.toNat + 1 ∧ e = 8 * 2 ^ f.size.toNat

/-- Where a load or store of `moved` bytes in a form stops: UNPREDICTABLE for Rn = 1111, then the access to the unit, the
alignment of the address, and the permission of its bytes (rules R25, R27, R42, R425; the order is
notes/assumptions/20.md, the reason that stands for a Data Abort notes/assumptions/28.md). -/
def StopsInOrder (i : Instr) (s : State) (Rn : BitVec 4) (aligned moved : Nat) : Prop :=
  (Rn = 15#4 → exec i s = .fault .constrainedUnpredictable) ∧
    (Rn ≠ 15#4 → s.simdEnabled = false → exec i s = .fault .undefinedInstruction) ∧
    (Rn ≠ 15#4 → s.simdEnabled = true → (s.readReg Rn).toNat % aligned ≠ 0 → exec i s =
      .fault (.undefinedInstruction (some .alignment))) ∧
    (Rn ≠ 15#4 → s.simdEnabled = true → (s.readReg Rn).toNat % aligned = 0 → ¬s.MayAccess (s.readReg Rn) moved →
      exec i s = .fault (.undefinedInstruction (some .permission)))

/-! ## Registers of the modes -/

/-- Register `n` is one and the same in two modes: R13 of User and System mode, R14 of User, System and Hyp mode, R8 to R12
of all but FIQ mode, and R0 to R7 of all (rule R21; which modes share R13 and R14 is notes/assumptions/7.md). -/
def SharesRegister (n : BitVec 4) (m o : Mode) : Prop :=
  m = o ∨ n.toNat < 8 ∨ (n.toNat < 13 ∧ m ≠ .fiq ∧ o ≠ .fiq) ∨ (n = 13#4 ∧ m ∈ [Mode.usr, .sys] ∧ o ∈ [Mode.usr, .sys]) ∨
    (n = 14#4 ∧ m ∈ [Mode.usr, .sys, .hyp] ∧ o ∈ [Mode.usr, .sys, .hyp])

/-! ## Floating-point values -/

/-- A finite number as an integer in units of 2^x0. -/
def FpNumber.inUnits (v : FpNumber) (x0 : Int) : Int :=
  (if v.sign then -1 else 1) * ((v.m * 2 ^ (v.x - x0).toNat : Nat) : Int)

/-- Zero, or a nonzero finite number. -/
def FpNumber.Finite (v : FpNumber) : Prop := v.kind = .zero ∨ v.kind = .nonzero

/-- The order of two numbers that are not NaNs. -/
def FpNumber.Below (a b : FpNumber) : Prop :=
  (a.kind = .infinity ∧ a.sign = true ∧ ¬(b.kind = .infinity ∧ b.sign = true)) ∨
    (b.kind = .infinity ∧ b.sign = false ∧ ¬(a.kind = .infinity ∧ a.sign = false)) ∨
    (a.kind ≠ .infinity ∧ b.kind ≠ .infinity ∧ a.inUnits (min a.x b.x) < b.inUnits (min a.x b.x))

/-- The lane of a sign and of the exponent and fraction fields together. -/
def signedBits (e : Nat) (sign : Bool) (fields : Nat) : BitVec e :=
  BitVec.ofNat e ((if sign then 2 ^ (e - 1) else 0) + fields)

/-- `r` is m * 2^x, m > 0, with a sign, rounded once to the nearest value of the format, a tie to the even significand
(rule R198). A normal value has 10 fraction bits and a least exponent of -14 in 16 bits, 23 and -126 in 32 bits. Below the
normal range a flushing format gives zero with UFC. Past its range a format gives infinity with OFC and IXC, or the
alternative format its greatest number with IOC; IXC is set where the result differs from the value, and UFC with it below
the normal range. -/
def RoundsTo {e : Nat} (fmt : FpFormat) (sign : Bool) (m : Nat) (x : Int) (r : Lane e) : Prop :=
  ∀ (F top : Nat) (least E u x0 : Int), F = (if e = 16 then 10 else 23) → top = (if e = 16 then 31 else 255) →
    least = (if e = 16 then -14 else -126) → E = Nat.log2 m + x → u = max E least - F → x0 = min u x →
      (fmt.flush = true → E < least → r = (signedBits e sign 0, flagUFC)) ∧
        (¬(fmt.flush = true ∧ E < least) →
          ∃ (q fields : Nat) (near exact unit : Int), unit = 2 ^ (u - x0).toNat ∧ exact = m * 2 ^ (x - x0).toNat ∧
            near = q * unit ∧ fields = (max E least - least).toNat * 2 ^ F + q ∧ 2 * (near - exact).natAbs ≤ unit ∧
            (2 * (near - exact).natAbs = unit → q % 2 = 0) ∧
            (fmt.alternative = true → (top + 1) * 2 ^ F ≤ fields →
              r = (signedBits e sign ((top + 1) * 2 ^ F - 1), flagIOC)) ∧
            (fmt.alternative = false → top * 2 ^ F ≤ fields → r = (signedBits e sign (top * 2 ^ F), flagOFC ||| flagIXC)) ∧
            (fields < (if fmt.alternative then top + 1 else top) * 2 ^ F →
              r = (signedBits e sign fields,
                if near = exact then 0#32 else if E < least then flagUFC ||| flagIXC else flagIXC)))

/-- The lane of an exact sum of `total` units of 2^x0, rounded once, with further flags; an exact zero is `zero`. -/
def GivesSum {e : Nat} (total x0 : Int) (zero : BitVec e) (fl : Flags) (r : Lane e) : Prop :=
  (total = 0 → r = (zero, fl)) ∧
    (total ≠ 0 → ∃ v : Lane e, RoundsTo fpStandard (decide (total < 0)) total.natAbs x0 v ∧ r = (v.1, v.2 ||| fl))

/-- The lane with its sign bit inverted. -/
def flipSign {e : Nat} (a : BitVec e) : BitVec e := a ^^^ BitVec.ofNat e (2 ^ (e - 1))

/-- Infinity with a sign. -/
def infinityBits (e : Nat) (sign : Bool) : BitVec e := signedBits e sign (if e = 16 then 0x7C00 else 0x7F800000)

/-- The default NaN: positive, quiet, with no other fraction bit (rule R198). -/
def defaultNaNBits (e : Nat) : BitVec e := BitVec.ofNat e (if e = 16 then 0x7E00 else 0x7FC00000)

/-- Zero times infinity, in either order. -/
def ZeroTimesInfinity (a b : FpNumber) : Prop :=
  a.kind = .zero ∧ b.kind = .infinity ∨ a.kind = .infinity ∧ b.kind = .zero

/-- The fused c + a * b with a NaN or an infinity among the numbers of c, a and b, whose reading sets the flags `fl`: a NaN
operand, zero times infinity or a difference of infinities gives the default NaN, an infinite addend or product infinity. -/
def FusedSpecial {e : Nat} (c a b : BitVec e) (uc ua ub : FpNumber) (fl : Flags) : Prop :=
  (uc.isNaN = true ∨ ua.isNaN = true ∨ ub.isNaN = true →
      (fpMulAdd c a b).1 = defaultNaNBits e ∧
        ((fpMulAdd c a b).2.getLsbD 0 = true ↔
          (∃ u ∈ [uc, ua, ub], u.kind = .signallingNaN) ∨ (uc.kind = .quietNaN ∧ ZeroTimesInfinity ua ub))) ∧
    (uc.isNaN = false → ua.isNaN = false → ub.isNaN = false →
      (ZeroTimesInfinity ua ub → fpMulAdd c a b = (defaultNaNBits e, flagIOC ||| fl)) ∧
        (¬ZeroTimesInfinity ua ub →
          (uc.kind = .infinity → ua.kind = .infinity ∨ ub.kind = .infinity → uc.sign ≠ (ua.sign != ub.sign) →
              fpMulAdd c a b = (defaultNaNBits e, flagIOC ||| fl)) ∧
            (uc.kind = .infinity → (ua.kind = .infinity ∨ ub.kind = .infinity → uc.sign = (ua.sign != ub.sign)) →
              fpMulAdd c a b = (infinityBits e uc.sign, fl)) ∧
            (uc.kind ≠ .infinity → ua.kind = .infinity ∨ ub.kind = .infinity →
              fpMulAdd c a b = (infinityBits e (ua.sign != ub.sign), fl))))

/-- m * 2^x differs from 1 by at most 2^-bits. -/
def NearOne (m : Nat) (x : Int) (bits : Nat) : Prop :=
  x ≤ 0 ∧ 2 ^ bits * ((m : Int) - 2 ^ (-x).toNat).natAbs ≤ 2 ^ (-x).toNat

/-- A lane as arithmetic sees it: a subnormal counts as zero with its sign (rule R198). -/
def flushed {e : Nat} (a : BitVec e) : BitVec e :=
  if fpExponent a = 0 then signedBits e a.msb 0 else a

/-! ## The published AES, SHA1 and SHA256 functions -/

/-- The product of two bytes as polynomials over GF(2) modulo x^8 + x^4 + x^3 + x + 1. -/
def gf256Product (a b : BitVec 8) : BitVec 8 :=
  (List.range 8).foldr
    (fun i acc => (acc <<< 1) ^^^ (if acc.getLsbD 7 then 0x1B#8 else 0#8) ^^^ (if a.getLsbD i then b else 0#8)) 0#8

/-- Byte `x` of a substitution table. -/
def substitute (table : BitVec 2048) (x : BitVec 8) : BitVec 8 := table.extractLsb' (8 * x.toNat) 8

/-- One round of SHA1 on the words a, b, c, d, e, with a word that holds the message word plus the constant. -/
def sha1Round (g : Word → Word → Word → Word) (v : Word × Word × Word × Word × Word) (w : Word) :
    Word × Word × Word × Word × Word :=
  match v with
  | (a, b, c, d, e) => (a.rotateLeft 5 + g b c d + e + w, a, b.rotateLeft 30, c, d)

/-- One round of SHA256 on the words a to h, with a word that holds the message word plus the constant. -/
def sha256Round (v : Word × Word × Word × Word × Word × Word × Word × Word) (kw : Word) :
    Word × Word × Word × Word × Word × Word × Word × Word :=
  match v with
  | (a, b, c, d, e, f, g, h) =>
    let t1 := h + (e.rotateRight 6 ^^^ e.rotateRight 11 ^^^ e.rotateRight 25) + ((e &&& f) ^^^ (~~~e &&& g)) + kw
    let t2 := (a.rotateRight 2 ^^^ a.rotateRight 13 ^^^ a.rotateRight 22) + ((a &&& b) ^^^ (a &&& c) ^^^ (b &&& c))
    (t1 + t2, a, b, c, d + t1, e, f, g)

/-- The quadword of the words `W t` to `W (t + 3)`, the first in the least significant bits. -/
def quadAt (W : Nat → Word) (t : Nat) : QWord := W (t + 3) ++ W (t + 2) ++ W (t + 1) ++ W t

/-! ## The rows of a table that share a condition -/

/-- The floating-point rows of "three registers of the same length". -/
def threeSameFloating (f : FThreeSame) : List Instr :=
  [.vfma f, .vaddFp f, .vmlaFp f, .vceqRegA2 f, .vmaxFp f, .vrecps f, .vfms f, .vsubFp f, .vmlsFp f, .vminFp f,
    .vrsqrts f, .vpaddFp f, .vmulFp f, .vcgeRegA2 f, .vacge f, .vpmaxFp f, .vmaxnm f, .vabdFp f, .vcgtRegA2 f,
    .vacgt f, .vpminFp f, .vminnm f]

/-- The integer rows of that table without 64-bit lanes. -/
def threeSameNo64 (f : FThreeSame) : List Instr :=
  [.vhadd f, .vrhadd f, .vhsub f, .vcgtRegA1 f, .vcgeRegA1 f, .vtst f, .vmlaInt f, .vqdmulh3same f, .vpaddInt f,
    .vmaxInt f, .vminInt f, .vabdInt f, .vaba f, .vmulIntPoly f, .vpmaxInt f, .vpminInt f, .vceqRegA1 f, .vmlsInt f,
    .vqrdmulh3same f, .vqrdmlah3same f, .vqrdmlsh3same f]

/-- The rows of that table whose three operands are quadwords where Q = 1. -/
def threeSameVectors (f : FThreeSame) : List Instr :=
  [.vfma f, .vaddFp f, .vmlaFp f, .vceqRegA2 f, .vmaxFp f, .vrecps f, .vfms f, .vsubFp f, .vmlsFp f, .vminFp f,
    .vrsqrts f, .vmulFp f, .vcgeRegA2 f, .vacge f, .vmaxnm f, .vabdFp f, .vcgtRegA2 f, .vacgt f, .vminnm f, .vhadd f,
    .vandReg f, .vqadd f, .vrhadd f, .vhsub f, .vbicReg f, .vqsub f, .vcgtRegA1 f, .vcgeRegA1 f, .vshlReg f,
    .vaddInt f, .vorrReg f, .vtst f, .vqshlReg f, .vmlaInt f, .vrshl f, .vqrshl f, .vqdmulh3same f, .vmaxInt f,
    .vornReg f, .vminInt f, .vabdInt f, .vaba f, .veor f, .vmulIntPoly f, .vbsl f, .vsubInt f, .vbit f, .vceqRegA1 f,
    .vmlsInt f, .vqrdmulh3same f, .vqrdmlah3same f, .vbif f, .vqrdmlsh3same f]

/-- The rows of "two registers misc" with floating-point lanes only. -/
def miscFloating (f : FTwoRegMisc) : List Instr :=
  [.vrintnAsimd f, .vrintxAsimd f, .vrintaAsimd f, .vrintzAsimd f, .vrintmAsimd f, .vrintpAsimd f, .vcvtaAsimd f,
    .vcvtnAsimd f, .vcvtpAsimd f, .vcvtmAsimd f, .vrecpe f, .vrsqrte f, .vcvtFpIntAsimd f]

/-- The rows of that table with integer and floating-point lanes. -/
def miscEither (f : FTwoRegMisc) : List Instr :=
  [.vcgtImm0 f, .vcgeImm0 f, .vceqImm0 f, .vcleImm0 f, .vcltImm0 f, .vabs f, .vneg f]

/-- The rows of that table without 64-bit lanes. -/
def miscNo64 (f : FTwoRegMisc) : List Instr :=
  [.vrev64 f, .vrev32 f, .vrev16 f, .vpaddl f, .vcls f, .vclz f, .vcnt f, .vmvnReg f, .vpadal f, .vqabs f, .vqneg f,
    .vtrn f, .vuzp f, .vzip f, .vmovn f, .vqmovun f, .vqmovn f, .vshllMisc f] ++ miscEither f ++ miscFloating f

/-- The rows of that table whose two operands are quadwords where Q = 1. -/
def miscVectors (f : FTwoRegMisc) : List Instr :=
  [.vrev64 f, .vrev32 f, .vrev16 f, .vpaddl f, .vcls f, .vswp f, .vclz f, .vcnt f, .vmvnReg f, .vpadal f, .vqabs f,
    .vqneg f, .vtrn f, .vuzp f, .vzip f] ++ miscEither f ++ miscFloating f

/-- The long rows of "three registers of different lengths". -/
def longRows (f : FThreeDiff) : List Instr :=
  [.vaddl f, .vsubl f, .vqdmlal3diff f, .vabal f, .vqdmlsl3diff f, .vqdmull3diff f, .vabdlInt f, .vmlalInt f,
    .vmlslInt f, .vmullIntPoly f]

/-- The rows of "two registers and a scalar" on vectors of Q's size. -/
def scalarVectors (f : FTwoRegScalar) : List Instr :=
  [.vmlaScalar f, .vmlsScalar f, .vmulScalar f, .vqdmulhScalar f, .vqrdmulhScalar f, .vqrdmlahScalar f,
    .vqrdmlshScalar f]

/-- The long rows of that table. -/
def scalarLong (f : FTwoRegScalar) : List Instr :=
  [.vqdmlalScalar f, .vmlalScalar f, .vqdmlslScalar f, .vqdmullScalar f, .vmlslScalar f, .vmullScalar f]

/-- The rows of "one register and modified immediate". -/
def immediateRows (f : FOneRegImm) : List Instr :=
  [.vmovImmA1 f, .vmvnImmA1 f, .vorrImmA1 f, .vbicImmA1 f, .vmovImmA3 f, .vmvnImmA2 f, .vorrImmA2 f, .vbicImmA2 f,
    .vmovImmA4 f, .vmvnImmA3 f, .vmovImmA5 f]

/-- The rows of "two registers and shift amount" on vectors of Q's size. -/
def shiftVectors (f : FTwoRegShift) : List Instr :=
  [.vshr f, .vsra f, .vrshr f, .vrsra f, .vqshlImm f, .vcvtFpFixedAsimd f, .vshlImm f, .vsri f, .vsli f, .vqshluImm f]

/-- The narrowing rows of that table. -/
def shiftNarrow (f : FTwoRegShift) : List Instr :=
  [.vqshrn f, .vqrshrn f, .vshrn f, .vrshrn f, .vqshrun f, .vqrshrun f]

/-- The UNALLOCATED rows of opcode_table.json: mask, match and excluded patterns. -/
def unallocatedRows : List (Word × Word × List (Word × Word)) :=
  [
    (0xFE100000#32, 0xF6000000#32, []), (0xFF000000#32, 0xF0000000#32, []), (0xFFF000F0#32, 0xF1100080#32, []),
    (0xFFF00070#32, 0xF1100040#32, []), (0xFFF00030#32, 0xF1100010#32, []), (0xFFE000F0#32, 0xF1000070#32, []),
    (0xFFF000F0#32, 0xF1300070#32, []), (0xFFE00020#32, 0xF1200000#32, []), (0xFFC000F0#32, 0xF1000030#32, []),
    (0xFFC000B0#32, 0xF1000020#32, []), (0xFFC000A0#32, 0xF10000A0#32, []), (0xFFC00000#32, 0xF1400000#32, []),
    (0xFF800000#32, 0xF1800000#32, []), (0xFFF10030#32, 0xF1010010#32, []), (0xFFA00F10#32, 0xF2200E00#32, []),
    (0xFE800F40#32, 0xF2000A40#32, []), (0xFF800F50#32, 0xF3000F40#32, []), (0xFFB30F90#32, 0xF3B00180#32, []),
    (0xFFB30FD0#32, 0xF3B20640#32, []), (0xFFB30FD0#32, 0xF3B20740#32, []), (0xFFB00F90#32, 0xF3B00C80#32, []),
    (0xFFB00F10#32, 0xF3B00D00#32, []), (0xFFB00E10#32, 0xF3B00E00#32, []),
    (0xFF800F50#32, 0xF3800900#32, [(0x00300000#32, 0x00300000#32)]),
    (0xFF800F50#32, 0xF3800B00#32, [(0x00300000#32, 0x00300000#32)]),
    (0xFF800F50#32, 0xF3800D00#32, [(0x00300000#32, 0x00300000#32)]),
    (0xFE800F50#32, 0xF2800F00#32, [(0x00300000#32, 0x00300000#32)]),
    (0xFF800F50#32, 0xF3800340#32, [(0x00300000#32, 0x00300000#32)]),
    (0xFF800F50#32, 0xF3800740#32, [(0x00300000#32, 0x00300000#32)]),
    (0xFF800F50#32, 0xF3800B40#32, [(0x00300000#32, 0x00300000#32)]), (0xFEB80FB0#32, 0xF2800F30#32, []),
    (0xFE100010#32, 0xF6100010#32, [])
  ]

/-- The CONSTRAINED UNPREDICTABLE rows of opcode_table.json: mask and match. -/
def constrainedUnpredictableRows : List (Word × Word) :=
  [
    (0xFFF000F0#32, 0xF1200070#32), (0xFF300000#32, 0xF4300000#32), (0xFFF00000#32, 0xF5300000#32),
    (0xFFB00000#32, 0xF5B00000#32), (0xFE300010#32, 0xF6300000#32), (0xFFF000F0#32, 0xF5700000#32),
    (0xFFF000E0#32, 0xF5700020#32), (0xFFF00080#32, 0xF5700080#32)
  ]

/-- The patterns without a row in the source: mask, match, excluded patterns and the table. -/
def rowlessPatterns : List (Word × Word × List (Word × Word) × TableId) :=
  [
    (0xFF100000#32, 0xF5000000#32, [], .top), (0xFFB00F10#32, 0xF3300C00#32, [], .threeSame),
    (0xFF800F10#32, 0xF2000E10#32, [], .threeSame), (0xFFA00F10#32, 0xF3200D10#32, [], .threeSame),
    (0xFFB00010#32, 0xF2B00000#32, [], .twoRegThreeDiff), (0xFFB00C10#32, 0xF3B00800#32, [], .twoRegThreeDiff),
    (0xFFB30FD0#32, 0xF3B10280#32, [], .twoRegMisc), (0xFFB30F90#32, 0xF3B10680#32, [], .twoRegMisc),
    (0xFFBF0F90#32, 0xF3B60000#32, [], .twoRegMisc), (0xFFBB0F90#32, 0xF3BA0000#32, [], .twoRegMisc),
    (0xFFB30FD0#32, 0xF3B20340#32, [], .twoRegMisc),
    (0xFF800F10#32, 0xF2800410#32, [(0x00380080#32, 0x00000000#32)], .twoRegShift),
    (0xFF800F10#32, 0xF2800610#32, [(0x00380080#32, 0x00000000#32)], .twoRegShift),
    (0xFE800F50#32, 0xF2800A50#32, [(0x00380080#32, 0x00000000#32)], .twoRegShift),
    (0xFE800F10#32, 0xF2800B10#32, [(0x00380080#32, 0x00000000#32)], .twoRegShift)
  ]

end Sys2Proof.Machine
end

