-- ==== Sys2Proof/WellFormed.lean ====
section
/-! DEFINITION. Well-formedness: the fields of an instruction's record have the values its row fixes and none that the
row excludes (the cells of the decode tables, rules R83 to R420; a partial cell such as 0x is tested under its mask,
00_scope.md rules R7, R8). -/

namespace Sys2Proof

/-- The record of an instruction satisfies the cells of the instruction's row. -/
def Instr.WellFormed (i : Instr) : Bool :=
  match i with
  | .unallocatedTop5 f => decide (f.op0 = 0b11#2 ∧ f.op1 = 0b0#1)
  | .notInSourceTop f => decide (f.op0 = 0b10#2 ∧ f.undrawn21 &&& 0b1000#4 = 0b1000#4 ∧ f.op1 = 0b0#1)
  | .unallocatedMisc1 f => decide (f.op0 &&& 0b10000#5 = 0b00000#5)
  | .unallocatedMisc3 f => decide (f.op0 = 0b10001#5 ∧ f.op1 = 0b1000#4)
  | .unallocatedMisc4 f => decide (f.op0 = 0b10001#5 ∧ f.op1 &&& 0b0111#4 = 0b0100#4)
  | .unallocatedMisc5 f => decide (f.op0 = 0b10001#5 ∧ f.op1 &&& 0b0011#4 = 0b0001#4)
  | .setpan f => decide (f.op0 = 0b10001#5 ∧ f.op1 = 0b0000#4)
  | .unallocatedMisc7 f => decide (f.op0 &&& 0b11110#5 = 0b10000#5 ∧ f.op1 = 0b0111#4)
  | .constrainedUnpredictableMisc8 f => decide (f.op0 = 0b10010#5 ∧ f.op1 = 0b0111#4)
  | .unallocatedMisc9 f => decide (f.op0 = 0b10011#5 ∧ f.op1 = 0b0111#4)
  | .unallocatedMisc10 f => decide (f.op0 &&& 0b11110#5 = 0b10010#5 ∧ f.op1 &&& 0b0010#4 = 0b0000#4)
  | .unallocatedMisc11 f => decide (f.op0 &&& 0b11100#5 = 0b10000#5 ∧ f.op1 = 0b0011#4)
  | .unallocatedMisc12 f => decide (f.op0 &&& 0b11100#5 = 0b10000#5 ∧ f.op1 &&& 0b1011#4 = 0b0010#4)
  | .unallocatedMisc13 f => decide (f.op0 &&& 0b11100#5 = 0b10000#5 ∧ f.op1 &&& 0b1010#4 = 0b1010#4)
  | .unallocatedMisc14 f => decide (f.op0 &&& 0b11100#5 = 0b10100#5)
  | .unallocatedMisc15 f => decide (f.op0 &&& 0b11000#5 = 0b11000#5)
  | .setend f => decide (f.op = 0b1#1 ∧ f.mode &&& 0b10000#5 = 0b00000#5)
  | .cps f => decide (f.op = 0b0#1)
  | .unallocatedCps3 f => decide (f.op = 0b1#1 ∧ f.mode &&& 0b10000#5 = 0b10000#5)
  | .vfma f => decide (f.U = 0b0#1 ∧ f.size &&& 0b10#2 = 0b00#2 ∧ f.opc = 0b1100#4 ∧ f.o1 = 0b1#1)
  | .vaddFp f => decide (f.U = 0b0#1 ∧ f.size &&& 0b10#2 = 0b00#2 ∧ f.opc = 0b1101#4 ∧ f.o1 = 0b0#1)
  | .vmlaFp f => decide (f.U = 0b0#1 ∧ f.size &&& 0b10#2 = 0b00#2 ∧ f.opc = 0b1101#4 ∧ f.o1 = 0b1#1)
  | .vceqRegA2 f => decide (f.U = 0b0#1 ∧ f.size &&& 0b10#2 = 0b00#2 ∧ f.opc = 0b1110#4 ∧ f.o1 = 0b0#1)
  | .vmaxFp f => decide (f.U = 0b0#1 ∧ f.size &&& 0b10#2 = 0b00#2 ∧ f.opc = 0b1111#4 ∧ f.o1 = 0b0#1)
  | .vrecps f => decide (f.U = 0b0#1 ∧ f.size &&& 0b10#2 = 0b00#2 ∧ f.opc = 0b1111#4 ∧ f.o1 = 0b1#1)
  | .vhadd f => decide (f.opc = 0b0000#4 ∧ f.o1 = 0b0#1)
  | .vandReg f => decide (f.U = 0b0#1 ∧ f.size = 0b00#2 ∧ f.opc = 0b0001#4 ∧ f.o1 = 0b1#1)
  | .vqadd f => decide (f.opc = 0b0000#4 ∧ f.o1 = 0b1#1)
  | .vrhadd f => decide (f.opc = 0b0001#4 ∧ f.o1 = 0b0#1)
  | .sha1c f => decide (f.U = 0b0#1 ∧ f.size = 0b00#2 ∧ f.opc = 0b1100#4 ∧ f.o1 = 0b0#1)
  | .vhsub f => decide (f.opc = 0b0010#4 ∧ f.o1 = 0b0#1)
  | .vbicReg f => decide (f.U = 0b0#1 ∧ f.size = 0b01#2 ∧ f.opc = 0b0001#4 ∧ f.o1 = 0b1#1)
  | .vqsub f => decide (f.opc = 0b0010#4 ∧ f.o1 = 0b1#1)
  | .vcgtRegA1 f => decide (f.opc = 0b0011#4 ∧ f.o1 = 0b0#1)
  | .vcgeRegA1 f => decide (f.opc = 0b0011#4 ∧ f.o1 = 0b1#1)
  | .sha1p f => decide (f.U = 0b0#1 ∧ f.size = 0b01#2 ∧ f.opc = 0b1100#4 ∧ f.o1 = 0b0#1)
  | .vfms f => decide (f.U = 0b0#1 ∧ f.size &&& 0b10#2 = 0b10#2 ∧ f.opc = 0b1100#4 ∧ f.o1 = 0b1#1)
  | .vsubFp f => decide (f.U = 0b0#1 ∧ f.size &&& 0b10#2 = 0b10#2 ∧ f.opc = 0b1101#4 ∧ f.o1 = 0b0#1)
  | .vmlsFp f => decide (f.U = 0b0#1 ∧ f.size &&& 0b10#2 = 0b10#2 ∧ f.opc = 0b1101#4 ∧ f.o1 = 0b1#1)
  | .unallocatedThreeSame21 f => decide (f.U = 0b0#1 ∧ f.size &&& 0b10#2 = 0b10#2 ∧ f.opc = 0b1110#4 ∧ f.o1 = 0b0#1)
  | .vminFp f => decide (f.U = 0b0#1 ∧ f.size &&& 0b10#2 = 0b10#2 ∧ f.opc = 0b1111#4 ∧ f.o1 = 0b0#1)
  | .vrsqrts f => decide (f.U = 0b0#1 ∧ f.size &&& 0b10#2 = 0b10#2 ∧ f.opc = 0b1111#4 ∧ f.o1 = 0b1#1)
  | .vshlReg f => decide (f.opc = 0b0100#4 ∧ f.o1 = 0b0#1)
  | .vaddInt f => decide (f.U = 0b0#1 ∧ f.opc = 0b1000#4 ∧ f.o1 = 0b0#1)
  | .vorrReg f => decide (f.U = 0b0#1 ∧ f.size = 0b10#2 ∧ f.opc = 0b0001#4 ∧ f.o1 = 0b1#1)
  | .vtst f => decide (f.U = 0b0#1 ∧ f.opc = 0b1000#4 ∧ f.o1 = 0b1#1)
  | .vqshlReg f => decide (f.opc = 0b0100#4 ∧ f.o1 = 0b1#1)
  | .vmlaInt f => decide (f.U = 0b0#1 ∧ f.opc = 0b1001#4 ∧ f.o1 = 0b0#1)
  | .vrshl f => decide (f.opc = 0b0101#4 ∧ f.o1 = 0b0#1)
  | .vqrshl f => decide (f.opc = 0b0101#4 ∧ f.o1 = 0b1#1)
  | .vqdmulh3same f => decide (f.U = 0b0#1 ∧ f.opc = 0b1011#4 ∧ f.o1 = 0b0#1)
  | .sha1m f => decide (f.U = 0b0#1 ∧ f.size = 0b10#2 ∧ f.opc = 0b1100#4 ∧ f.o1 = 0b0#1)
  | .vpaddInt f => decide (f.U = 0b0#1 ∧ f.opc = 0b1011#4 ∧ f.o1 = 0b1#1)
  | .vmaxInt f => decide (f.opc = 0b0110#4 ∧ f.o1 = 0b0#1)
  | .vornReg f => decide (f.U = 0b0#1 ∧ f.size = 0b11#2 ∧ f.opc = 0b0001#4 ∧ f.o1 = 0b1#1)
  | .vminInt f => decide (f.opc = 0b0110#4 ∧ f.o1 = 0b1#1)
  | .vabdInt f => decide (f.opc = 0b0111#4 ∧ f.o1 = 0b0#1)
  | .vaba f => decide (f.opc = 0b0111#4 ∧ f.o1 = 0b1#1)
  | .sha1su0 f => decide (f.U = 0b0#1 ∧ f.size = 0b11#2 ∧ f.opc = 0b1100#4 ∧ f.o1 = 0b0#1)
  | .vpaddFp f => decide (f.U = 0b1#1 ∧ f.size &&& 0b10#2 = 0b00#2 ∧ f.opc = 0b1101#4 ∧ f.o1 = 0b0#1)
  | .vmulFp f => decide (f.U = 0b1#1 ∧ f.size &&& 0b10#2 = 0b00#2 ∧ f.opc = 0b1101#4 ∧ f.o1 = 0b1#1)
  | .vcgeRegA2 f => decide (f.U = 0b1#1 ∧ f.size &&& 0b10#2 = 0b00#2 ∧ f.opc = 0b1110#4 ∧ f.o1 = 0b0#1)
  | .vacge f => decide (f.U = 0b1#1 ∧ f.size &&& 0b10#2 = 0b00#2 ∧ f.opc = 0b1110#4 ∧ f.o1 = 0b1#1)
  | .vpmaxFp f => decide (f.U = 0b1#1 ∧ f.size &&& 0b10#2 = 0b00#2 ∧ f.opc = 0b1111#4 ∧ f.Q = 0b0#1 ∧ f.o1 = 0b0#1)
  | .vmaxnm f => decide (f.U = 0b1#1 ∧ f.size &&& 0b10#2 = 0b00#2 ∧ f.opc = 0b1111#4 ∧ f.o1 = 0b1#1)
  | .veor f => decide (f.U = 0b1#1 ∧ f.size = 0b00#2 ∧ f.opc = 0b0001#4 ∧ f.o1 = 0b1#1)
  | .vmulIntPoly f => decide (f.opc = 0b1001#4 ∧ f.o1 = 0b1#1)
  | .sha256h f => decide (f.U = 0b1#1 ∧ f.size = 0b00#2 ∧ f.opc = 0b1100#4 ∧ f.o1 = 0b0#1)
  | .vpmaxInt f => decide (f.opc = 0b1010#4 ∧ f.Q = 0b0#1 ∧ f.o1 = 0b0#1)
  | .vbsl f => decide (f.U = 0b1#1 ∧ f.size = 0b01#2 ∧ f.opc = 0b0001#4 ∧ f.o1 = 0b1#1)
  | .vpminInt f => decide (f.opc = 0b1010#4 ∧ f.Q = 0b0#1 ∧ f.o1 = 0b1#1)
  | .unallocatedThreeSame53 f => decide (f.opc = 0b1010#4 ∧ f.Q = 0b1#1)
  | .sha256h2 f => decide (f.U = 0b1#1 ∧ f.size = 0b01#2 ∧ f.opc = 0b1100#4 ∧ f.o1 = 0b0#1)
  | .vabdFp f => decide (f.U = 0b1#1 ∧ f.size &&& 0b10#2 = 0b10#2 ∧ f.opc = 0b1101#4 ∧ f.o1 = 0b0#1)
  | .vcgtRegA2 f => decide (f.U = 0b1#1 ∧ f.size &&& 0b10#2 = 0b10#2 ∧ f.opc = 0b1110#4 ∧ f.o1 = 0b0#1)
  | .vacgt f => decide (f.U = 0b1#1 ∧ f.size &&& 0b10#2 = 0b10#2 ∧ f.opc = 0b1110#4 ∧ f.o1 = 0b1#1)
  | .vpminFp f => decide (f.U = 0b1#1 ∧ f.size &&& 0b10#2 = 0b10#2 ∧ f.opc = 0b1111#4 ∧ f.Q = 0b0#1 ∧ f.o1 = 0b0#1)
  | .vminnm f => decide (f.U = 0b1#1 ∧ f.size &&& 0b10#2 = 0b10#2 ∧ f.opc = 0b1111#4 ∧ f.o1 = 0b1#1)
  | .vsubInt f => decide (f.U = 0b1#1 ∧ f.opc = 0b1000#4 ∧ f.o1 = 0b0#1)
  | .vbit f => decide (f.U = 0b1#1 ∧ f.size = 0b10#2 ∧ f.opc = 0b0001#4 ∧ f.o1 = 0b1#1)
  | .vceqRegA1 f => decide (f.U = 0b1#1 ∧ f.opc = 0b1000#4 ∧ f.o1 = 0b1#1)
  | .vmlsInt f => decide (f.U = 0b1#1 ∧ f.opc = 0b1001#4 ∧ f.o1 = 0b0#1)
  | .vqrdmulh3same f => decide (f.U = 0b1#1 ∧ f.opc = 0b1011#4 ∧ f.o1 = 0b0#1)
  | .sha256su1 f => decide (f.U = 0b1#1 ∧ f.size = 0b10#2 ∧ f.opc = 0b1100#4 ∧ f.o1 = 0b0#1)
  | .vqrdmlah3same f => decide (f.U = 0b1#1 ∧ f.opc = 0b1011#4 ∧ f.o1 = 0b1#1)
  | .vbif f => decide (f.U = 0b1#1 ∧ f.size = 0b11#2 ∧ f.opc = 0b0001#4 ∧ f.o1 = 0b1#1)
  | .vqrdmlsh3same f => decide (f.U = 0b1#1 ∧ f.opc = 0b1100#4 ∧ f.o1 = 0b1#1)
  | .unallocatedThreeSame69 f => decide (f.U = 0b1#1 ∧ f.opc = 0b1111#4 ∧ f.Q = 0b1#1 ∧ f.o1 = 0b0#1)
  | .notInSourceThreeSame f => decide ((f.U = 0b1#1 ∧ f.size = 0b11#2 ∧ f.opc = 0b1100#4 ∧ f.o1 = 0b0#1) ∨
      (f.U = 0b0#1 ∧ f.opc = 0b1110#4 ∧ f.o1 = 0b1#1) ∨
      (f.U = 0b1#1 ∧ f.size &&& 0b10#2 = 0b10#2 ∧ f.opc = 0b1101#4 ∧ f.o1 = 0b1#1))
  | .notInSourceTwoRegThreeDiff f => decide ((f.op0 = 0b0#1 ∧ f.op1 = 0b11#2) ∨
      (f.op0 = 0b1#1 ∧ f.op1 = 0b11#2 ∧ f.op2 = 0b10#2))
  | .vrev64 f => decide (f.opc1 = 0b00#2 ∧ f.opc2 = 0b0000#4)
  | .vrev32 f => decide (f.opc1 = 0b00#2 ∧ f.opc2 = 0b0001#4)
  | .vrev16 f => decide (f.opc1 = 0b00#2 ∧ f.opc2 = 0b0010#4)
  | .unallocatedTwoRegMisc4 f => decide (f.opc1 = 0b00#2 ∧ f.opc2 = 0b0011#4)
  | .vpaddl f => decide (f.opc1 = 0b00#2 ∧ f.opc2 &&& 0b1110#4 = 0b0100#4)
  | .aese f => decide (f.opc1 = 0b00#2 ∧ f.opc2 = 0b0110#4 ∧ f.Q = 0b0#1)
  | .aesd f => decide (f.opc1 = 0b00#2 ∧ f.opc2 = 0b0110#4 ∧ f.Q = 0b1#1)
  | .aesmc f => decide (f.opc1 = 0b00#2 ∧ f.opc2 = 0b0111#4 ∧ f.Q = 0b0#1)
  | .aesimc f => decide (f.opc1 = 0b00#2 ∧ f.opc2 = 0b0111#4 ∧ f.Q = 0b1#1)
  | .vcls f => decide (f.opc1 = 0b00#2 ∧ f.opc2 = 0b1000#4)
  | .vswp f => decide (f.size = 0b00#2 ∧ f.opc1 = 0b10#2 ∧ f.opc2 = 0b0000#4)
  | .vclz f => decide (f.opc1 = 0b00#2 ∧ f.opc2 = 0b1001#4)
  | .vcnt f => decide (f.opc1 = 0b00#2 ∧ f.opc2 = 0b1010#4)
  | .vmvnReg f => decide (f.opc1 = 0b00#2 ∧ f.opc2 = 0b1011#4)
  | .vpadal f => decide (f.opc1 = 0b00#2 ∧ f.opc2 &&& 0b1110#4 = 0b1100#4)
  | .vqabs f => decide (f.opc1 = 0b00#2 ∧ f.opc2 = 0b1110#4)
  | .vqneg f => decide (f.opc1 = 0b00#2 ∧ f.opc2 = 0b1111#4)
  | .vcgtImm0 f => decide (f.opc1 = 0b01#2 ∧ f.opc2 &&& 0b0111#4 = 0b0000#4)
  | .vcgeImm0 f => decide (f.opc1 = 0b01#2 ∧ f.opc2 &&& 0b0111#4 = 0b0001#4)
  | .vceqImm0 f => decide (f.opc1 = 0b01#2 ∧ f.opc2 &&& 0b0111#4 = 0b0010#4)
  | .vcleImm0 f => decide (f.opc1 = 0b01#2 ∧ f.opc2 &&& 0b0111#4 = 0b0011#4)
  | .vcltImm0 f => decide (f.opc1 = 0b01#2 ∧ f.opc2 &&& 0b0111#4 = 0b0100#4)
  | .vabs f => decide (f.opc1 = 0b01#2 ∧ f.opc2 &&& 0b0111#4 = 0b0110#4)
  | .vneg f => decide (f.opc1 = 0b01#2 ∧ f.opc2 &&& 0b0111#4 = 0b0111#4)
  | .sha1h f => decide (f.opc1 = 0b01#2 ∧ f.opc2 = 0b0101#4 ∧ f.Q = 0b1#1)
  | .vtrn f => decide (f.opc1 = 0b10#2 ∧ f.opc2 = 0b0001#4)
  | .vuzp f => decide (f.opc1 = 0b10#2 ∧ f.opc2 = 0b0010#4)
  | .vzip f => decide (f.opc1 = 0b10#2 ∧ f.opc2 = 0b0011#4)
  | .vmovn f => decide (f.opc1 = 0b10#2 ∧ f.opc2 = 0b0100#4 ∧ f.Q = 0b0#1)
  | .vqmovun f => decide (f.opc1 = 0b10#2 ∧ f.opc2 = 0b0100#4 ∧ f.Q = 0b1#1)
  | .vqmovn f => decide (f.opc1 = 0b10#2 ∧ f.opc2 = 0b0101#4)
  | .vshllMisc f => decide (f.opc1 = 0b10#2 ∧ f.opc2 = 0b0110#4 ∧ f.Q = 0b0#1)
  | .sha1su1 f => decide (f.opc1 = 0b10#2 ∧ f.opc2 = 0b0111#4 ∧ f.Q = 0b0#1)
  | .sha256su0 f => decide (f.opc1 = 0b10#2 ∧ f.opc2 = 0b0111#4 ∧ f.Q = 0b1#1)
  | .vrintnAsimd f => decide (f.opc1 = 0b10#2 ∧ f.opc2 = 0b1000#4)
  | .vrintxAsimd f => decide (f.opc1 = 0b10#2 ∧ f.opc2 = 0b1001#4)
  | .vrintaAsimd f => decide (f.opc1 = 0b10#2 ∧ f.opc2 = 0b1010#4)
  | .vrintzAsimd f => decide (f.opc1 = 0b10#2 ∧ f.opc2 = 0b1011#4)
  | .vcvtSpToHp f => decide (f.opc1 = 0b10#2 ∧ f.opc2 = 0b1100#4 ∧ f.Q = 0b0#1)
  | .unallocatedTwoRegMisc40 f => decide (f.opc1 = 0b10#2 ∧ f.opc2 = 0b1100#4 ∧ f.Q = 0b1#1)
  | .vrintmAsimd f => decide (f.opc1 = 0b10#2 ∧ f.opc2 = 0b1101#4)
  | .vcvtHpToSp f => decide (f.opc1 = 0b10#2 ∧ f.opc2 = 0b1110#4 ∧ f.Q = 0b0#1)
  | .unallocatedTwoRegMisc43 f => decide (f.opc1 = 0b10#2 ∧ f.opc2 = 0b1110#4 ∧ f.Q = 0b1#1)
  | .vrintpAsimd f => decide (f.opc1 = 0b10#2 ∧ f.opc2 = 0b1111#4)
  | .vcvtaAsimd f => decide (f.opc1 = 0b11#2 ∧ f.opc2 &&& 0b1110#4 = 0b0000#4)
  | .vcvtnAsimd f => decide (f.opc1 = 0b11#2 ∧ f.opc2 &&& 0b1110#4 = 0b0010#4)
  | .vcvtpAsimd f => decide (f.opc1 = 0b11#2 ∧ f.opc2 &&& 0b1110#4 = 0b0100#4)
  | .vcvtmAsimd f => decide (f.opc1 = 0b11#2 ∧ f.opc2 &&& 0b1110#4 = 0b0110#4)
  | .vrecpe f => decide (f.opc1 = 0b11#2 ∧ f.opc2 &&& 0b1101#4 = 0b1000#4)
  | .vrsqrte f => decide (f.opc1 = 0b11#2 ∧ f.opc2 &&& 0b1101#4 = 0b1001#4)
  | .vcvtFpIntAsimd f => decide (f.opc1 = 0b11#2 ∧ f.opc2 &&& 0b1100#4 = 0b1100#4)
  | .notInSourceTwoRegMisc f => decide ((f.opc1 = 0b01#2 ∧ f.opc2 = 0b0101#4 ∧ f.Q = 0b0#1) ∨
      (f.opc1 = 0b01#2 ∧ f.opc2 = 0b1101#4) ∨
      (f.size = 0b01#2 ∧ f.opc1 = 0b10#2 ∧ f.opc2 = 0b0000#4) ∨
      (f.size &&& 0b10#2 = 0b10#2 ∧ f.opc1 = 0b10#2 ∧ f.opc2 = 0b0000#4) ∨
      (f.opc1 = 0b10#2 ∧ f.opc2 = 0b0110#4 ∧ f.Q = 0b1#1))
  | .vdupScalar f => decide (f.opc = 0b000#3)
  | .unallocatedDup2 f => decide (f.opc = 0b001#3)
  | .unallocatedDup3 f => decide (f.opc &&& 0b110#3 = 0b010#3)
  | .unallocatedDup4 f => decide (f.opc &&& 0b100#3 = 0b100#3)
  | .vaddl f => decide (f.opc = 0b0000#4 ∧ f.size ≠ 0b11#2)
  | .vaddw f => decide (f.opc = 0b0001#4 ∧ f.size ≠ 0b11#2)
  | .vsubl f => decide (f.opc = 0b0010#4 ∧ f.size ≠ 0b11#2)
  | .vaddhn f => decide (f.U = 0b0#1 ∧ f.opc = 0b0100#4 ∧ f.size ≠ 0b11#2)
  | .vsubw f => decide (f.opc = 0b0011#4 ∧ f.size ≠ 0b11#2)
  | .vsubhn f => decide (f.U = 0b0#1 ∧ f.opc = 0b0110#4 ∧ f.size ≠ 0b11#2)
  | .vqdmlal3diff f => decide (f.U = 0b0#1 ∧ f.opc = 0b1001#4 ∧ f.size ≠ 0b11#2)
  | .vabal f => decide (f.opc = 0b0101#4 ∧ f.size ≠ 0b11#2)
  | .vqdmlsl3diff f => decide (f.U = 0b0#1 ∧ f.opc = 0b1011#4 ∧ f.size ≠ 0b11#2)
  | .vqdmull3diff f => decide (f.U = 0b0#1 ∧ f.opc = 0b1101#4 ∧ f.size ≠ 0b11#2)
  | .vabdlInt f => decide (f.opc = 0b0111#4 ∧ f.size ≠ 0b11#2)
  | .vmlalInt f => decide (f.opc = 0b1000#4 ∧ f.size ≠ 0b11#2)
  | .vmlslInt f => decide (f.opc = 0b1010#4 ∧ f.size ≠ 0b11#2)
  | .vraddhn f => decide (f.U = 0b1#1 ∧ f.opc = 0b0100#4 ∧ f.size ≠ 0b11#2)
  | .vrsubhn f => decide (f.U = 0b1#1 ∧ f.opc = 0b0110#4 ∧ f.size ≠ 0b11#2)
  | .vmullIntPoly f => decide (f.opc &&& 0b1101#4 = 0b1100#4 ∧ f.size ≠ 0b11#2)
  | .unallocatedThreeDiff17 f => decide (f.U = 0b1#1 ∧ f.opc = 0b1001#4 ∧ f.size ≠ 0b11#2)
  | .unallocatedThreeDiff18 f => decide (f.U = 0b1#1 ∧ f.opc = 0b1011#4 ∧ f.size ≠ 0b11#2)
  | .unallocatedThreeDiff19 f => decide (f.U = 0b1#1 ∧ f.opc = 0b1101#4 ∧ f.size ≠ 0b11#2)
  | .unallocatedThreeDiff20 f => decide (f.opc = 0b1111#4 ∧ f.size ≠ 0b11#2)
  | .vmlaScalar f => decide (f.opc &&& 0b1110#4 = 0b0000#4 ∧ f.size ≠ 0b11#2)
  | .vqdmlalScalar f => decide (f.Q = 0b0#1 ∧ f.opc = 0b0011#4 ∧ f.size ≠ 0b11#2)
  | .vmlalScalar f => decide (f.opc = 0b0010#4 ∧ f.size ≠ 0b11#2)
  | .vqdmlslScalar f => decide (f.Q = 0b0#1 ∧ f.opc = 0b0111#4 ∧ f.size ≠ 0b11#2)
  | .vmlsScalar f => decide (f.opc &&& 0b1110#4 = 0b0100#4 ∧ f.size ≠ 0b11#2)
  | .vqdmullScalar f => decide (f.Q = 0b0#1 ∧ f.opc = 0b1011#4 ∧ f.size ≠ 0b11#2)
  | .vmlslScalar f => decide (f.opc = 0b0110#4 ∧ f.size ≠ 0b11#2)
  | .vmulScalar f => decide (f.opc &&& 0b1110#4 = 0b1000#4 ∧ f.size ≠ 0b11#2)
  | .unallocatedTwoRegScalar9 f => decide (f.Q = 0b1#1 ∧ f.opc = 0b0011#4 ∧ f.size ≠ 0b11#2)
  | .vmullScalar f => decide (f.opc = 0b1010#4 ∧ f.size ≠ 0b11#2)
  | .unallocatedTwoRegScalar11 f => decide (f.Q = 0b1#1 ∧ f.opc = 0b0111#4 ∧ f.size ≠ 0b11#2)
  | .vqdmulhScalar f => decide (f.opc = 0b1100#4 ∧ f.size ≠ 0b11#2)
  | .vqrdmulhScalar f => decide (f.opc = 0b1101#4 ∧ f.size ≠ 0b11#2)
  | .unallocatedTwoRegScalar14 f => decide (f.Q = 0b1#1 ∧ f.opc = 0b1011#4 ∧ f.size ≠ 0b11#2)
  | .vqrdmlahScalar f => decide (f.opc = 0b1110#4 ∧ f.size ≠ 0b11#2)
  | .vqrdmlshScalar f => decide (f.opc = 0b1111#4 ∧ f.size ≠ 0b11#2)
  | .vmovImmA1 f => decide (f.cmode &&& 0b1001#4 = 0b0000#4 ∧ f.op = 0b0#1)
  | .vmvnImmA1 f => decide (f.cmode &&& 0b1001#4 = 0b0000#4 ∧ f.op = 0b1#1)
  | .vorrImmA1 f => decide (f.cmode &&& 0b1001#4 = 0b0001#4 ∧ f.op = 0b0#1)
  | .vbicImmA1 f => decide (f.cmode &&& 0b1001#4 = 0b0001#4 ∧ f.op = 0b1#1)
  | .vmovImmA3 f => decide (f.cmode &&& 0b1101#4 = 0b1000#4 ∧ f.op = 0b0#1)
  | .vmvnImmA2 f => decide (f.cmode &&& 0b1101#4 = 0b1000#4 ∧ f.op = 0b1#1)
  | .vorrImmA2 f => decide (f.cmode &&& 0b1101#4 = 0b1001#4 ∧ f.op = 0b0#1)
  | .vbicImmA2 f => decide (f.cmode &&& 0b1101#4 = 0b1001#4 ∧ f.op = 0b1#1)
  | .vmovImmA4 f => decide (f.cmode &&& 0b1100#4 = 0b1100#4 ∧ f.op = 0b0#1)
  | .vmvnImmA3 f => decide (f.cmode &&& 0b1110#4 = 0b1100#4 ∧ f.op = 0b1#1)
  | .vmovImmA5 f => decide (f.cmode = 0b1110#4 ∧ f.op = 0b1#1)
  | .unallocatedOneRegImm12 f => decide (f.cmode = 0b1111#4 ∧ f.op = 0b1#1)
  | .vshr f => decide (f.opc = 0b0000#4 ∧ ¬(f.imm3H = 0b000#3 ∧ f.L = 0b0#1))
  | .vsra f => decide (f.opc = 0b0001#4 ∧ ¬(f.imm3H = 0b000#3 ∧ f.L = 0b0#1))
  | .vmovl f => decide (f.imm3L = 0b000#3 ∧ f.opc = 0b1010#4 ∧ f.Q = 0b0#1 ∧ ¬(f.imm3H = 0b000#3 ∧ f.L = 0b0#1))
  | .vrshr f => decide (f.opc = 0b0010#4 ∧ ¬(f.imm3H = 0b000#3 ∧ f.L = 0b0#1))
  | .vrsra f => decide (f.opc = 0b0011#4 ∧ ¬(f.imm3H = 0b000#3 ∧ f.L = 0b0#1))
  | .vqshlImm f => decide (f.opc = 0b0111#4 ∧ ¬(f.imm3H = 0b000#3 ∧ f.L = 0b0#1))
  | .vqshrn f => decide (f.opc = 0b1001#4 ∧ f.Q = 0b0#1 ∧ ¬(f.imm3H = 0b000#3 ∧ f.L = 0b0#1))
  | .vqrshrn f => decide (f.opc = 0b1001#4 ∧ f.Q = 0b1#1 ∧ ¬(f.imm3H = 0b000#3 ∧ f.L = 0b0#1))
  | .vshllImm f => decide (f.opc = 0b1010#4 ∧ f.Q = 0b0#1 ∧ ¬(f.imm3H = 0b000#3 ∧ f.L = 0b0#1) ∧ f.imm3L ≠ 0b000#3)
  | .vcvtFpFixedAsimd f => decide (f.opc &&& 0b1100#4 = 0b1100#4 ∧ ¬(f.imm3H = 0b000#3 ∧ f.L = 0b0#1))
  | .vshlImm f => decide (f.U = 0b0#1 ∧ f.opc = 0b0101#4 ∧ ¬(f.imm3H = 0b000#3 ∧ f.L = 0b0#1))
  | .vshrn f => decide (f.U = 0b0#1 ∧ f.opc = 0b1000#4 ∧ f.Q = 0b0#1 ∧ ¬(f.imm3H = 0b000#3 ∧ f.L = 0b0#1))
  | .vrshrn f => decide (f.U = 0b0#1 ∧ f.opc = 0b1000#4 ∧ f.Q = 0b1#1 ∧ ¬(f.imm3H = 0b000#3 ∧ f.L = 0b0#1))
  | .vsri f => decide (f.U = 0b1#1 ∧ f.opc = 0b0100#4 ∧ ¬(f.imm3H = 0b000#3 ∧ f.L = 0b0#1))
  | .vsli f => decide (f.U = 0b1#1 ∧ f.opc = 0b0101#4 ∧ ¬(f.imm3H = 0b000#3 ∧ f.L = 0b0#1))
  | .vqshluImm f => decide (f.U = 0b1#1 ∧ f.opc = 0b0110#4 ∧ ¬(f.imm3H = 0b000#3 ∧ f.L = 0b0#1))
  | .vqshrun f => decide (f.U = 0b1#1 ∧ f.opc = 0b1000#4 ∧ f.Q = 0b0#1 ∧ ¬(f.imm3H = 0b000#3 ∧ f.L = 0b0#1))
  | .vqrshrun f => decide (f.U = 0b1#1 ∧ f.opc = 0b1000#4 ∧ f.Q = 0b1#1 ∧ ¬(f.imm3H = 0b000#3 ∧ f.L = 0b0#1))
  | .notInSourceTwoRegShift f => decide ((f.U = 0b0#1 ∧ f.opc = 0b0100#4 ∧ ¬(f.imm3H = 0b000#3 ∧ f.L = 0b0#1)) ∨
      (f.U = 0b0#1 ∧ f.opc = 0b0110#4 ∧ ¬(f.imm3H = 0b000#3 ∧ f.L = 0b0#1)) ∨
      (f.opc = 0b1010#4 ∧ f.Q = 0b1#1 ∧ ¬(f.imm3H = 0b000#3 ∧ f.L = 0b0#1)) ∨
      (f.opc = 0b1011#4 ∧ ¬(f.imm3H = 0b000#3 ∧ f.L = 0b0#1)))
  | .constrainedUnpredictableMemHint1 f => decide (f.op0 &&& 0b11001#5 = 0b00001#5)
  | .constrainedUnpredictableMemHint2 f => decide (f.op0 = 0b01001#5)
  | .constrainedUnpredictableMemHint4 f => decide (f.op0 &&& 0b11101#5 = 0b01101#5)
  | .constrainedUnpredictableMemHint7 f => decide (f.op0 &&& 0b10001#5 = 0b10001#5 ∧ f.op1 = 0b0#1)
  | .unallocatedMemHint8 f => decide (f.op0 &&& 0b10000#5 = 0b10000#5 ∧ f.op1 = 0b1#1)
  | .constrainedUnpredictableBarrier1 f => decide (f.opcode = 0b0000#4)
  | .clrex f => decide (f.opcode = 0b0001#4)
  | .constrainedUnpredictableBarrier3 f => decide (f.opcode &&& 0b1110#4 = 0b0010#4)
  | .dsb f => decide (f.opcode = 0b0100#4 ∧ f.option ≠ 0b0000#4 ∧ f.option ≠ 0b0100#4)
  | .ssbb f => decide (f.opcode = 0b0100#4 ∧ f.option = 0b0000#4)
  | .pssbb f => decide (f.opcode = 0b0100#4 ∧ f.option = 0b0100#4)
  | .dmb f => decide (f.opcode = 0b0101#4)
  | .isb f => decide (f.opcode = 0b0110#4)
  | .sb f => decide (f.opcode = 0b0111#4)
  | .constrainedUnpredictableBarrier10 f => decide (f.opcode &&& 0b1000#4 = 0b1000#4)
  | .reservedHintNopPldImm f => decide (f.D = 0b0#1 ∧ f.R = 0b0#1)
  | .pliImmLit f => decide (f.D = 0b0#1 ∧ f.R = 0b1#1)
  | .pldLit f => decide (f.D = 0b1#1 ∧ f.Rn = 0b1111#4)
  | .pldwImm f => decide (f.D = 0b1#1 ∧ f.R = 0b0#1 ∧ f.Rn ≠ 0b1111#4)
  | .pldImm f => decide (f.D = 0b1#1 ∧ f.R = 0b1#1 ∧ f.Rn ≠ 0b1111#4)
  | .reservedHintNopPldReg f => decide (f.D = 0b0#1 ∧ f.o2 = 0b0#1)
  | .pliReg f => decide (f.D = 0b0#1 ∧ f.o2 = 0b1#1)
  | .pldwReg f => decide (f.D = 0b1#1 ∧ f.o2 = 0b0#1)
  | .pldReg f => decide (f.D = 0b1#1 ∧ f.o2 = 0b1#1)
  | .asimdLdstMult _ => true
  | .asimdLdAll _ => true
  | .asimdLdstOne f => decide (f.size ≠ 0b11#2)

end Sys2Proof
end

