-- ==== Sys2Proof/Certificates/Slice0/Obligations.lean ====
section
/-! DEFINITION. The statements for the provers. Each docstring names the rules of spec/ that the statement formalises; where
a value or a behaviour is the model's own choice it names the log entry. -/

open Sys2Proof Sys2Proof.Machine

/-! ## Encoding -/

/-- Decoding the encoding of a well-formed instruction gives the instruction back, with every operand field at every
value (30_encoding.md rules R88, R89). Parenthesised bits are no fields; the encoder writes their printed values (rule
R9). -/
def Obligations.DecodeOfEncode : Prop := ∀ i : Instr, i.WellFormed = true → decode (encode i) = .instr i

/-- No bit of a vector word is dropped: an Advanced SIMD data-processing word (w[31:25] = 1111001) and a load/store word
(w[31:24] = 11110100, w[20] = 0) is the encoding of what it decodes to (rules R66 to R82). -/
def Obligations.VectorWordsKeepEveryBit : Prop :=
  ∀ (w : Word) (i : Instr), (bits w 25 7 = 0b1111001#7 ∨ (bits w 24 8 = 0b11110100#8 ∧ bits w 20 1 = 0#1)) →
    decode w = .instr i → encode i = w

/-- Every word of the space w[31:27] = 11110 decodes to a well-formed instruction and no other word does (rule R89). -/
def Obligations.DecodeCoversTheSpace : Prop :=
  ∀ w : Word,
    (bits w 27 5 = 0b11110#5 → ∃ i, decode w = .instr i ∧ i.WellFormed = true) ∧
      (bits w 27 5 ≠ 0b11110#5 → decode w = .outside)

/-- A few words of 95_test_vectors.md decode to the instruction and the fields that file gives. -/
def Obligations.KnownWordsDecode : Prop :=
  decode 0xF2200842#32 =
      .instr (.vaddInt { U := 0#1, D := 0#1, size := 2#2, Vn := 0#4, Vd := 0#4, opc := 8#4, N := 0#1, Q := 1#1, M := 0#1,
                         o1 := 0#1, Vm := 2#4 }) ∧
    decode 0xF57FF01F#32 = .instr (.clrex { opcode := 1#4, option := 15#4 }) ∧
    decode 0xF491F004#32 =
      .instr (.reservedHintNopPldImm { D := 0#1, U := 1#1, R := 0#1, Rn := 1#4, imm12 := 4#12 }) ∧
    decode 0xF401000F#32 =
      .instr (.asimdLdstMult { D := 0#1, L := 0#1, Rn := 1#4, Vd := 0#4, type := 0#4, size := 0#2, align := 0#2,
                               Rm := 15#4 }) ∧
    decode 0xE1A00000#32 = .outside

/-! ## The rows that are no instruction -/

/-- The UNALLOCATED rows of rules R96, R102, R107, R187, R249, R257, R297, R314, R342 and R381: a word that a row takes
makes the step fault with UndefinedInstruction, whatever the state and the parameters. -/
def Obligations.UnallocatedRowsFault : Prop :=
  ∀ (s : State) (w : Word), s.Fetches w →
    ∀ row ∈ unallocatedRows, RowTakes w row.1 row.2.1 row.2.2 → step s = .fault .undefinedInstruction

/-- The CONSTRAINED UNPREDICTABLE rows of rules R103, R382 and R393: a word that a row takes makes the step fault with
ConstrainedUnpredictable, whatever the state and the parameters. -/
def Obligations.ConstrainedUnpredictableRowsFault : Prop :=
  ∀ (s : State) (w : Word), s.Fetches w →
    ∀ row ∈ constrainedUnpredictableRows, RowTakes w row.1 row.2 [] → step s = .fault .constrainedUnpredictable

/-- The encodings without a row of rules R97, R98, R188, R250 and R369: a word that a pattern takes makes the step refuse
with NoRowInSource of its table. -/
def Obligations.EncodingsWithoutRowAreRefused : Prop :=
  ∀ (s : State) (w : Word), s.Fetches w →
    ∀ row ∈ rowlessPatterns, RowTakes w row.1 row.2.1 row.2.2.1 → step s = .refused (.noRowInSource row.2.2.2)

/-- The rows that are no instruction, by constructor, in every state: an UNALLOCATED row faults with
UndefinedInstruction (rules R96, R102, R107, R187, R249, R257, R297, R314, R342, R381), a CONSTRAINED UNPREDICTABLE row
with ConstrainedUnpredictable (rules R103, R382, R393), and an encoding without a row is refused with NoRowInSource of
its table (rules R97, R98, R188, R250, R369). -/
def Obligations.RowsWithoutInstructionStop : Prop :=
  ∀ (a : FTop) (b : FMisc) (c : FCps) (d : FThreeSame) (e : FTwoRegMisc) (f : FDup) (g : FThreeDiff) (h : FTwoRegScalar)
      (j : FOneRegImm) (k : FMemHint) (l : FBarrier) (m : FTwoRegThreeDiff) (n : FTwoRegShift),
    ∀ s : State,
      (∀ i ∈
          [Instr.unallocatedTop5 a, .unallocatedMisc1 b, .unallocatedMisc3 b, .unallocatedMisc4 b,
            .unallocatedMisc5 b, .unallocatedMisc7 b, .unallocatedMisc9 b, .unallocatedMisc10 b,
            .unallocatedMisc11 b, .unallocatedMisc12 b, .unallocatedMisc13 b, .unallocatedMisc14 b,
            .unallocatedMisc15 b, .unallocatedCps3 c, .unallocatedThreeSame21 d, .unallocatedThreeSame53 d,
            .unallocatedThreeSame69 d, .unallocatedTwoRegMisc4 e, .unallocatedTwoRegMisc40 e,
            .unallocatedTwoRegMisc43 e, .unallocatedDup2 f, .unallocatedDup3 f, .unallocatedDup4 f,
            .unallocatedThreeDiff17 g, .unallocatedThreeDiff18 g, .unallocatedThreeDiff19 g,
            .unallocatedThreeDiff20 g, .unallocatedTwoRegScalar9 h, .unallocatedTwoRegScalar11 h,
            .unallocatedTwoRegScalar14 h, .unallocatedOneRegImm12 j, .unallocatedMemHint8 k],
        exec i s = .fault .undefinedInstruction) ∧
        (∀ i ∈
            [Instr.constrainedUnpredictableMisc8 b, .constrainedUnpredictableMemHint1 k,
              .constrainedUnpredictableMemHint2 k, .constrainedUnpredictableMemHint4 k,
              .constrainedUnpredictableMemHint7 k, .constrainedUnpredictableBarrier1 l,
              .constrainedUnpredictableBarrier3 l, .constrainedUnpredictableBarrier10 l],
          exec i s = .fault .constrainedUnpredictable) ∧
        exec (.notInSourceTop a) s = .refused (.noRowInSource .top) ∧
          exec (.notInSourceThreeSame d) s = .refused (.noRowInSource .threeSame) ∧
          exec (.notInSourceTwoRegThreeDiff m) s = .refused (.noRowInSource .twoRegThreeDiff) ∧
          exec (.notInSourceTwoRegMisc e) s = .refused (.noRowInSource .twoRegMisc) ∧
          exec (.notInSourceTwoRegShift n) s = .refused (.noRowInSource .twoRegShift)

/-- The reserved hint rows of rules R405 and R414: the word decodes to the hint and, where the policy P8 does not stop
it, the step moves pc on by 4 and changes nothing else, whatever the other fields; where pc + 4 does not fit in 32 bits
it is refused, and under P8 = Fault a word whose bits [15:12] differ from 1111 faults with ShouldBeBits. -/
def Obligations.ReservedHintsAreNops : Prop :=
  ∀ (s : State) (w : Word), s.Fetches w →
    (w &&& 0xFF700000#32 = 0xF4100000#32 → ∃ f, decode w = .instr (.reservedHintNopPldImm f)) ∧
      (w &&& 0xFF700010#32 = 0xF6100000#32 → ∃ f, decode w = .instr (.reservedHintNopPldReg f)) ∧
      (w &&& 0xFF700000#32 = 0xF4100000#32 ∨ w &&& 0xFF700010#32 = 0xF6100000#32 →
        (s.params.sbPolicy = .fault ∧ bits w 12 4 ≠ 0b1111#4 → step s = .fault .shouldBeBits) ∧
          (¬(s.params.sbPolicy = .fault ∧ bits w 12 4 ≠ 0b1111#4) →
            (s.HasSuccessor → step s = .next { s with pc := s.pc + 4#32 }) ∧
              (¬s.HasSuccessor → step s = .refused .outsideScope)))

/-! ## The step -/

/-- The step runs the decoded instruction: where the word at pc decodes to `i`, no parameter that covers `i` is false
and no should-be bit stops it, the step is `exec i` (rule R441; this model adds nothing around `exec`). -/
def Obligations.StepRunsTheDecodedInstruction : Prop :=
  ∀ (s : State) (w : Word) (i : Instr), s.Fetches w → decode w = .instr i → gateOpen s.params i = true →
    ¬(s.params.sbPolicy = .fault ∧ sbViolation w i = true) → step s = exec i s

/-- What stops a step before its instruction, in the order of rules R441 and R444: a misaligned pc, no word at pc, a
word outside the space, a parameter that is false, a should-be bit under P8 = Fault. The should-be bits are w[15:10] =
000000 of SETEND and CPS, w[19:12] = 11111111 and w[11:8] = 0000 of the barriers and w[15:12] = 1111 of the preloads
and the reserved hints; SETPAN and the vector words have none (rules R9, R441; notes/assumptions/22.md). -/
def Obligations.StepChecksComeInOrder : Prop :=
  (∀ s : State,
      (s.pc.toNat % 4 ≠ 0 → step s = .refused .outsideScope) ∧
        (s.pc.toNat % 4 = 0 → InstrMemory.fetch s.imem s.pc.toNat = none → step s = .fault .fetchFault) ∧
        ∀ w, s.Fetches w →
          (bits w 27 5 ≠ 0b11110#5 → step s = .refused .outsideScope) ∧
            ∀ i, decode w = .instr i →
              (gateOpen s.params i = false → step s = .fault .undefinedInstruction) ∧
                (gateOpen s.params i = true → s.params.sbPolicy = .fault → sbViolation w i = true →
                  step s = .fault .shouldBeBits)) ∧
    ∀ (w : Word) (i : Instr), decode w = .instr i →
      (∀ f : FCps, i ∈ [Instr.setend f, .cps f] → (sbViolation w i = true ↔ bits w 10 6 ≠ 0b000000#6)) ∧
        (∀ f : FBarrier, i ∈ [Instr.clrex f, .dsb f, .ssbb f, .pssbb f, .dmb f, .isb f, .sb f] →
          (sbViolation w i = true ↔ bits w 12 8 ≠ 0b11111111#8 ∨ bits w 8 4 ≠ 0b0000#4)) ∧
        (∀ f : FPldImm,
          i ∈ [Instr.pliImmLit f, .pldLit f, .pldwImm f, .pldImm f, .reservedHintNopPldImm f] →
            (sbViolation w i = true ↔ bits w 12 4 ≠ 0b1111#4)) ∧
        (∀ f : FPldReg, i ∈ [Instr.pliReg f, .pldwReg f, .pldReg f, .reservedHintNopPldReg f] →
          (sbViolation w i = true ↔ bits w 12 4 ≠ 0b1111#4)) ∧
        ((∃ f, i = .setpan f) ∨ bits w 25 7 = 0b1111001#7 ∨ (bits w 24 8 = 0b11110100#8 ∧ bits w 20 1 = 0#1) →
          sbViolation w i = false)

/-- `Fetch` of rule R51: a misaligned pc is refused before the fetch, `none` gives FetchFault, and no step changes it. -/
def Obligations.FetchIsFixed : Prop :=
  (∀ s : State, s.pc.toNat % 4 ≠ 0 → ∀ m, step { s with imem := m } = .refused .outsideScope) ∧
    (∀ s : State, s.pc.toNat % 4 = 0 → InstrMemory.fetch s.imem s.pc.toNat = none → step s = .fault .fetchFault) ∧
    ∀ s t : State, step s = .next t → t.imem = s.imem

/-- The parameters of rule R454: where one that covers an instruction is false the step faults with UndefinedInstruction.
Every word of the Advanced SIMD diagrams that is an instruction needs P2; SETPAN and the four VQRDMLAH and VQRDMLSH rows
P1; the AES rows P3, the SHA1 rows P4, the SHA256 rows P5 and SB P7. -/
def Obligations.AbsentFeaturesAreUndefined : Prop :=
  ∀ (s : State) (w : Word) (i : Instr), s.Fetches w → decode w = .instr i →
    (s.params.haveAsimd = false →
        (bits w 25 7 = 0b1111001#7 ∨ (bits w 24 8 = 0b11110100#8 ∧ bits w 20 1 = 0#1)) →
        (∀ tb, exec i s ≠ .refused (.noRowInSource tb)) → step s = .fault .undefinedInstruction) ∧
      (s.params.haveArmv81 = false →
        ((∃ f, i = .setpan f) ∨ (∃ f, i = .vqrdmlah3same f) ∨ (∃ f, i = .vqrdmlsh3same f) ∨
          (∃ f, i = .vqrdmlahScalar f) ∨ ∃ f, i = .vqrdmlshScalar f) → step s = .fault .undefinedInstruction) ∧
      (s.params.haveAes = false →
        ((∃ f, i = .aese f) ∨ (∃ f, i = .aesd f) ∨ (∃ f, i = .aesmc f) ∨ ∃ f, i = .aesimc f) →
          step s = .fault .undefinedInstruction) ∧
      (s.params.haveSha1 = false →
        ((∃ f, i = .sha1c f) ∨ (∃ f, i = .sha1p f) ∨ (∃ f, i = .sha1m f) ∨ (∃ f, i = .sha1su0 f) ∨
          (∃ f, i = .sha1h f) ∨ ∃ f, i = .sha1su1 f) → step s = .fault .undefinedInstruction) ∧
      (s.params.haveSha256 = false →
        ((∃ f, i = .sha256h f) ∨ (∃ f, i = .sha256h2 f) ∨ (∃ f, i = .sha256su1 f) ∨ ∃ f, i = .sha256su0 f) →
          step s = .fault .undefinedInstruction) ∧
      (s.params.haveSb = false → (∃ f, i = .sb f) → step s = .fault .undefinedInstruction)

/-! ## What every step keeps -/

/-- From every state that meets the invariant a next state meets it: the pc stays word-aligned (rule R22) and data
memory keeps its canonical form. From every state, the mode field stays as it is, or the instruction is a CPS with M =
1 in a privileged mode and the mode field becomes its `mode`; so it stays one of the nine modes of rule R24 but where a
CPS names another number (rules R24, R106, R110, R448). -/
def Obligations.StepKeepsTheInvariant : Prop :=
  ∀ s t : State, step s = .next t →
    (s.Inv → t.Inv) ∧
      (t.modeBits = s.modeBits ∨
        (s.unprivileged = false ∧
          ∃ w f, s.Fetches w ∧ decode w = .instr (.cps f) ∧ f.M = 1#1 ∧ t.modeBits = f.mode))

/-- The launch state meets the invariant, and its mode field is one that rule R24 lists. Its values are the model's
choice (notes/assumptions/6.md). -/
def Obligations.LaunchMeetsTheInvariant : Prop := State.reset.Inv ∧ (modeOf State.reset.modeBits).isSome = true

/-- No instruction of this space is a control transfer: every next state is at pc + 4, and pc + 4 fits in 32 bits
(rules R22, R111). No step writes the parameters, instruction memory, a control register or a saved status register
(rules R4, R25, R51, R445). -/
def Obligations.StepsAreSequentialAndKeepFixedState : Prop :=
  ∀ s t : State, step s = .next t → s.HasSuccessor ∧ t.pc = s.pc + 4#32 ∧ SameFixed s t

/-- The status registers: FPSCR loses none of its bits and gains at most QC, IOC, DZC, OFC, UFC, IXC and IDC (rule
R23). Of CPSR a step changes at most PAN, E, A, I, F and the mode, since N, Z, C, V, Q and GE are written by no
instruction of this space, and in User mode at most E (rules R23 to R25, R106, R448). The spec marks these effects as
general knowledge (PRESUMED, notes/assumptions/10.md). -/
def Obligations.StatusRegistersKeepTheirOtherBits : Prop :=
  ∀ s t : State, step s = .next t →
    FlagsWithin (flagQC ||| fpFlags) s t ∧
      (∀ b, b = 5 ∨ (9 < b ∧ b ≠ 22) → t.cpsr.getLsbD b = s.cpsr.getLsbD b) ∧
      (s.unprivileged = true → ∀ b, b ≠ 9 → t.cpsr.getLsbD b = s.cpsr.getLsbD b)

/-- Only the three load/store classes touch data memory or a general register (rules R21, R40); only CLREX changes the
reservation, and it clears it (rules R28, R386). That no store of this space clears it is the model's inference (DEDUCED,
notes/assumptions/26.md). The spec marks these effects as general knowledge (PRESUMED, notes/assumptions/10.md). -/
def Obligations.OnlyLoadsAndStoresReachMemory : Prop :=
  ∀ (i : Instr) (s t : State), exec i s = .next t →
    ((∀ f, i ≠ .asimdLdstMult f) → (∀ f, i ≠ .asimdLdAll f) → (∀ f, i ≠ .asimdLdstOne f) →
        SameMemory s t ∧ SameGeneral s t) ∧
      ((∀ f, i ≠ .clrex f) → t.reservation = s.reservation) ∧
      ((∃ f, i = .clrex f) → t.reservation = none)

/-- With access to the unit disabled no Advanced SIMD word completes (rules R27, R472). The unit is accessible where
CPACR.cp10 and cp11 are each 11, or 01 in a privileged mode, FPEXC.EN is 1, and, where the non-secure bit of SCR is 1,
NSACR.cp10 and cp11 are 1 and the two HCPTR traps are 0 (PRESUMED, notes/assumptions/12.md). The spec marks these
effects as general knowledge (PRESUMED, notes/assumptions/10.md). -/
def Obligations.DisabledUnitStopsEveryVectorWord : Prop :=
  (∀ (w : Word) (i : Instr) (s t : State),
      (bits w 25 7 = 0b1111001#7 ∨ (bits w 24 8 = 0b11110100#8 ∧ bits w 20 1 = 0#1)) → decode w = .instr i →
        s.simdEnabled = false → exec i s ≠ .next t) ∧
    ∀ s : State,
      s.simdEnabled = true ↔
        (∀ field ∈ [s.ctl.cpacrCp10, s.ctl.cpacrCp11],
            field = 0b11#2 ∨ (field = 0b01#2 ∧ s.unprivileged = false)) ∧
          s.ctl.fpexcEn = true ∧
          (s.ctl.scrNs = true →
            s.ctl.nsacrCp10 = true ∧ s.ctl.nsacrCp11 = true ∧ s.ctl.hcptrTcp10 = false ∧ s.ctl.hcptrTcp11 = false)

/-- Each fault but an UndefinedInstruction without an abort, and each refusal, arises only where the spec says (rules
R441, R442): FetchFault with no word at pc; OutsideScope for a misaligned pc, a word outside the space or a pc without
a successor; ShouldBeBits for a word with should-be bits that differ under P8 = Fault; NoRowInSource for an encoding
without a row, of its table; ConstrainedUnpredictable for the eight rows of that name, for the forms of CPS that rule
R110 does not allow and for a load or store with Rn = 1111 (rule R425); the Data Aborts only for a load or store
(UndefinedInstruction with the abort, a DESIGN CHOICE, notes/assumptions/28.md). No step is refused for want of a
meaning. -/
def Obligations.StopsHaveTheirCauses : Prop :=
  ∀ s : State,
    (step s = .fault .fetchFault → s.pc.toNat % 4 = 0 ∧ InstrMemory.fetch s.imem s.pc.toNat = none) ∧
      (step s = .refused .outsideScope →
        s.pc.toNat % 4 ≠ 0 ∨ ¬s.HasSuccessor ∨ ∃ w, s.Fetches w ∧ bits w 27 5 ≠ 0b11110#5) ∧
      (step s = .fault .shouldBeBits →
        s.params.sbPolicy = .fault ∧ ∃ w i, s.Fetches w ∧ decode w = .instr i ∧ sbViolation w i = true) ∧
      (∀ tb, step s = .refused (.noRowInSource tb) →
        ∃ w i, s.Fetches w ∧ decode w = .instr i ∧
          ((tb = .top ∧ ∃ f, i = .notInSourceTop f) ∨ (tb = .threeSame ∧ ∃ f, i = .notInSourceThreeSame f) ∨
            (tb = .twoRegThreeDiff ∧ ∃ f, i = .notInSourceTwoRegThreeDiff f) ∨
            (tb = .twoRegMisc ∧ ∃ f, i = .notInSourceTwoRegMisc f) ∨
            (tb = .twoRegShift ∧ ∃ f, i = .notInSourceTwoRegShift f))) ∧
      (step s = .fault .constrainedUnpredictable →
        ∃ w i, s.Fetches w ∧ decode w = .instr i ∧
          ((∃ f, i = .constrainedUnpredictableMisc8 f) ∨
            (∃ f, i ∈ [Instr.constrainedUnpredictableMemHint1 f, .constrainedUnpredictableMemHint2 f,
              .constrainedUnpredictableMemHint4 f, .constrainedUnpredictableMemHint7 f]) ∨
            (∃ f, i ∈ [Instr.constrainedUnpredictableBarrier1 f, .constrainedUnpredictableBarrier3 f,
              .constrainedUnpredictableBarrier10 f]) ∨
            (∃ f, i = .cps f ∧ (f.imod = 0b01#2 ∨ (f.imod = 0b00#2 ∧ f.M = 0#1))) ∨
            (∃ f, i = .asimdLdstMult f ∧ f.Rn = 15#4) ∨ (∃ f, i = .asimdLdAll f ∧ f.Rn = 15#4) ∨
            ∃ f, i = .asimdLdstOne f ∧ f.Rn = 15#4)) ∧
      (∀ abort, step s = .fault (.undefinedInstruction (some abort)) →
        ∃ w i, s.Fetches w ∧ decode w = .instr i ∧
          ((∃ f, i = .asimdLdstMult f) ∨ (∃ f, i = .asimdLdAll f) ∨ ∃ f, i = .asimdLdstOne f)) ∧
      ∀ m, step s ≠ .refused (.notModelled m)

/-! ## Memory and registers -/

/-- An element read back where it was stored is that element, in either byte order; its bytes stand in memory least
significant first when PSTATE.E is 0 and most significant first when it is 1 (rule R41). At the top of the address
space an element goes on at address 0, which is the model's choice (DESIGN CHOICE, notes/assumptions/9.md). The spec
marks these effects as general knowledge (PRESUMED, notes/assumptions/10.md). -/
def Obligations.StoredElementsReadBack : Prop :=
  ∀ (s : State) (a : Word) (e : Nat) (x : BitVec e), Memory.wf s.mem = true → e = 8 ∨ e = 16 ∨ e = 32 ∨ e = 64 →
    (s.writeElem a x).readElem e a = x ∧
      ∀ i, i < e / 8 →
        (s.writeElem a x).byte (a + BitVec.ofNat 32 (if s.bigEndian then e / 8 - 1 - i else i)) =
          x.extractLsb' (8 * i) 8

/-- A general register other than R15 reads back as written and the other numbers keep their values; R15 reads as pc +
8 (where that does not fit in 32 bits it wraps, DESIGN CHOICE, notes/assumptions/27.md). A write is seen in another
mode exactly where the two modes share the register: R0 to R7 are the same in all modes, R8 to R12 in all but FIQ mode,
R13 in User and System mode, and R14 in User, System and Hyp mode (rules R21, R24). Which modes share R13 and R14 is
PRESUMED, and that a mode field that rule R24 does not list acts as a free one of its modes a DESIGN CHOICE
(notes/assumptions/7.md). The spec marks these effects as general knowledge (PRESUMED, notes/assumptions/10.md). -/
def Obligations.GeneralRegistersReadBackAndAreBanked : Prop :=
  ∀ (s : State) (n k : BitVec 4) (v c : Word) (other : Mode),
    ((n ≠ 15#4 → (s.writeReg n v).readReg n = v) ∧ (k ≠ n → (s.writeReg n v).readReg k = s.readReg k) ∧
        s.readReg 15#4 = s.pc + 8#32) ∧
      (n ≠ 15#4 → other = ({ s with cpsr := c } : State).mode →
        (SharesRegister n s.mode other → ({ s.writeReg n v with cpsr := c } : State).readReg n = v) ∧
          (¬SharesRegister n s.mode other →
            ({ s.writeReg n v with cpsr := c } : State).readReg n = ({ s with cpsr := c } : State).readReg n))

/-! ## System instructions, barriers and preloads -/

/-- CPS. With imod = 01, or imod = 00 and M = 0, it faults in every mode. Else in User mode it changes only the pc.
Else in a privileged mode the masks that A, I and F select become imod<0> where imod<1> = 1, the mode field becomes
`mode` where M = 1, and nothing else changes; a `mode` that rule R24 lists is then the mode the machine is in (rules
R24, R106, R110, R448; the order of the checks is the model's choice, DESIGN CHOICE, notes/assumptions/13.md). The spec
marks these effects as general knowledge (PRESUMED, notes/assumptions/10.md). -/
def Obligations.CpsWritesMasksAndMode : Prop :=
  ∀ (f : FCps) (s : State),
    (f.imod = 0b01#2 ∨ (f.imod = 0b00#2 ∧ f.M = 0#1) → exec (.cps f) s = .fault .constrainedUnpredictable) ∧
      (f.imod = 0b10#2 ∨ f.imod = 0b11#2 ∨ (f.imod = 0b00#2 ∧ f.M = 1#1) →
        (s.unprivileged = true → s.HasSuccessor → Completes (.cps f) s (OnlyPc s)) ∧
          (s.unprivileged = false → s.HasSuccessor →
            Completes (.cps f) s fun t =>
              (∃ c, t = { s with pc := s.pc + 4#32, cpsr := c }) ∧
                (∀ b, b < 32 →
                  t.cpsr.getLsbD b =
                    if b < 5 ∧ f.M = 1#1 then f.mode.getLsbD b
                    else if f.imod.getLsbD 1 = true ∧
                        ((b = 8 ∧ f.A = 1#1) ∨ (b = 7 ∧ f.I = 1#1) ∨ (b = 6 ∧ f.F = 1#1)) then f.imod.getLsbD 0
                    else s.cpsr.getLsbD b) ∧
                ∀ m, f.M = 1#1 → modeOf f.mode = some m → t.mode = m))

/-- SETEND writes PSTATE.E (CPSR bit 9) from the field E and nothing else, and is UNDEFINED where SCTLR.SED is 1;
SETPAN writes PSTATE.PAN (CPSR bit 22) from w[9] in a privileged mode and changes only the pc in User mode (rules R24,
R25, R41, R101, R105, R110, R448; the place of the immediate, the check of SED, and that SETEND ignores its other fields
are notes/assumptions/14.md). The spec marks these effects as general knowledge (PRESUMED, notes/assumptions/10.md). -/
def Obligations.SetendAndSetpanWriteOneBit : Prop :=
  ∀ (f : FCps) (g : FMisc) (s : State),
    (s.ctl.sctlrSed = true → exec (.setend f) s = .fault .undefinedInstruction) ∧
      (s.HasSuccessor →
        (s.ctl.sctlrSed = false →
            Completes (.setend f) s fun t =>
              (∃ c, t = { s with pc := s.pc + 4#32, cpsr := c }) ∧
                ∀ b, b < 32 → t.cpsr.getLsbD b = if b = 9 then f.E == 1#1 else s.cpsr.getLsbD b) ∧
          (s.unprivileged = false →
            Completes (.setpan g) s fun t =>
              (∃ c, t = { s with pc := s.pc + 4#32, cpsr := c }) ∧
                ∀ b, b < 32 → t.cpsr.getLsbD b = if b = 22 then g.toWord.getLsbD 9 else s.cpsr.getLsbD b) ∧
          (s.unprivileged = true → Completes (.setpan g) s (OnlyPc s)))

/-- CLREX clears the reservation and changes nothing else but the pc. The other six barriers, every preload whatever
its address, and the reserved hints change only the pc (rules R386 to R392, R401 to R405, R411 to R414, R416, R417;
that they do nothing more is D13 and notes/assumptions/19.md). That a register preload with Rm = 1111, which rule R417
calls CONSTRAINED UNPREDICTABLE and U9 of 93_implementation_defined.md would have fault, completes, and that CLREX, SB
and ISB do for every `option`, is the model's choice (DESIGN CHOICE, notes/assumptions/19.md). The spec marks these
effects as general knowledge (PRESUMED, notes/assumptions/10.md). -/
def Obligations.HintsAndBarriersComplete : Prop :=
  ∀ (f : FBarrier) (g : FPldImm) (h : FPldReg) (s : State), s.HasSuccessor →
    Completes (.clrex f) s (fun t => t = { s with pc := s.pc + 4#32, reservation := none }) ∧
      ∀ i ∈ [Instr.dsb f, .ssbb f, .pssbb f, .dmb f, .isb f, .sb f, .pliImmLit g, .pldLit g, .pldwImm g, .pldImm g,
          .reservedHintNopPldImm g, .pliReg h, .pldwReg h, .pldReg h, .reservedHintNopPldReg h],
        Completes i s (OnlyPc s)

/-! ## Three registers of the same length: integers -/

/-- VADD, VSUB, VMUL, VMLA and VMLS (integer) are modulo 2^esize per lane and set no flag; the first two also have
64-bit lanes (rules R144, R148, R167, R178, R181, R196, R197). The spec marks these effects as general knowledge
(PRESUMED, notes/assumptions/10.md). -/
def Obligations.IntegerArithmeticWraps : Prop :=
  ∀ (f : FThreeSame) (s : State) (e : Nat) (acc a b : Nat → BitVec e), s.SimdReady → EvenFor f.Q [f.d, f.n, f.m] →
    e = esize f.size → acc = s.laneAt e f.d → a = s.laneAt e f.n → b = s.laneAt e f.m →
      GivesLanes (.vaddInt f) s e f.d (regCount f.Q) (fun j => BitVec.ofInt e ((a j).toNat + (b j).toNat)) ∧
        GivesLanes (.vsubInt f) s e f.d (regCount f.Q) (fun j => BitVec.ofInt e ((a j).toNat - (b j).toNat)) ∧
        (f.size ≠ 0b11#2 →
          GivesLanes (.vmlaInt f) s e f.d (regCount f.Q)
              (fun j => BitVec.ofInt e ((acc j).toNat + (a j).toNat * (b j).toNat)) ∧
            GivesLanes (.vmlsInt f) s e f.d (regCount f.Q)
              (fun j => BitVec.ofInt e ((acc j).toNat - (a j).toNat * (b j).toNat)) ∧
            (f.U = 0#1 →
              GivesLanes (.vmulIntPoly f) s e f.d (regCount f.Q)
                (fun j => BitVec.ofInt e ((a j).toNat * (b j).toNat))))

/-- The polynomial products: bit `k` of the product is the sum modulo 2 of bit `i` of one operand times bit `k - i` of
the other. VMUL has byte lanes; VMULL has lanes of 8 << size bits for size = 00 and 10, and which sizes those are is
PRESUMED (rules R167, R296, R320; notes/assumptions/21.md). The spec marks these effects as general knowledge
(PRESUMED, notes/assumptions/10.md). -/
def Obligations.PolynomialProducts : Prop :=
  (∀ (f : FThreeSame) (s : State), s.SimdReady → EvenFor f.Q [f.d, f.n, f.m] → f.U = 1#1 → f.size = 0b00#2 →
      Completes (.vmulIntPoly f) s fun t =>
        VectorFrame 0#32 (Regs f.d (regCount f.Q)) s t ∧
          ∀ j, j < regCount f.Q * 8 → ∀ k, k < 8 →
            (t.laneAt 8 f.d j).getLsbD k = gf2ProductBit (s.laneAt 8 f.n j) (s.laneAt 8 f.m j) k) ∧
    ∀ (f : FThreeDiff) (s : State) (e : Nat), s.SimdReady → f.d % 2 = 0 → f.U = 0#1 → f.opc.getLsbD 1 = true →
      f.size = 0b00#2 ∨ f.size = 0b10#2 → e = 8 * 2 ^ f.size.toNat →
        Completes (.vmullIntPoly f) s fun t =>
          VectorFrame 0#32 (Regs f.d 2) s t ∧
            ∀ j, j < 64 / e → ∀ k, k < 2 * e →
              (t.laneAt (2 * e) f.d j).getLsbD k = gf2ProductBit (s.laneAt e f.n j) (s.laneAt e f.m j) k

/-- The halving, maximum, minimum and absolute-difference rows, on 8, 16 and 32-bit lanes, unsigned where U = 1; sums
and differences have one more bit than the lane. The pairwise rows have 64-bit vectors: the pairs of adjacent lanes of
Vn give the lower half of the result and those of Vm the upper half (rules R127, R130, R132, R153, R154, R156 to R158,
R169, R171, R196, R197). The spec marks these effects as general knowledge (PRESUMED, notes/assumptions/10.md). -/
def Obligations.HalvingMaximumDifferencePairs : Prop :=
  (∀ (f : FThreeSame) (s : State) (e : Nat) (a b : Nat → Int), s.SimdReady → EvenFor f.Q [f.d, f.n, f.m] →
      f.size ≠ 0b11#2 → e = esize f.size → (a = fun j => laneInt (isSet f.U) (s.laneAt e f.n j)) →
        (b = fun j => laneInt (isSet f.U) (s.laneAt e f.m j)) →
          GivesLanes (.vhadd f) s e f.d (regCount f.Q) (fun j => BitVec.ofInt e ((a j + b j) / 2)) ∧
            GivesLanes (.vrhadd f) s e f.d (regCount f.Q) (fun j => BitVec.ofInt e ((a j + b j + 1) / 2)) ∧
            GivesLanes (.vhsub f) s e f.d (regCount f.Q) (fun j => BitVec.ofInt e ((a j - b j) / 2)) ∧
            GivesLanes (.vmaxInt f) s e f.d (regCount f.Q) (fun j => BitVec.ofInt e (max (a j) (b j))) ∧
            GivesLanes (.vminInt f) s e f.d (regCount f.Q) (fun j => BitVec.ofInt e (min (a j) (b j))) ∧
            GivesLanes (.vabdInt f) s e f.d (regCount f.Q) (fun j => BitVec.ofInt e (a j - b j).natAbs) ∧
            GivesLanes (.vaba f) s e f.d (regCount f.Q)
              (fun j => BitVec.ofInt e ((s.laneAt e f.d j).toNat + (a j - b j).natAbs))) ∧
    ∀ (f : FThreeSame) (s : State) (e : Nat) (x y : Nat → Int), s.SimdReady → f.Q = 0#1 → f.size ≠ 0b11#2 →
      e = esize f.size →
        (x = fun j => laneInt (isSet f.U) (pairSource s e f.n f.m (2 * j))) →
        (y = fun j => laneInt (isSet f.U) (pairSource s e f.n f.m (2 * j + 1))) →
          GivesLanes (.vpaddInt f) s e f.d 1 (fun j => BitVec.ofInt e (x j + y j)) ∧
            GivesLanes (.vpmaxInt f) s e f.d 1 (fun j => BitVec.ofInt e (max (x j) (y j))) ∧
            GivesLanes (.vpminInt f) s e f.d 1 (fun j => BitVec.ofInt e (min (x j) (y j)))

/-- The integer comparisons and VTST give a lane of all ones or all zeros (rules R135, R136, R146, R180, R196). The
spec marks these effects as general knowledge (PRESUMED, notes/assumptions/10.md). -/
def Obligations.IntegerComparisons : Prop :=
  ∀ (f : FThreeSame) (s : State) (e : Nat) (a b : Nat → BitVec e) (U : Bool), s.SimdReady →
    EvenFor f.Q [f.d, f.n, f.m] → f.size ≠ 0b11#2 → e = esize f.size → a = s.laneAt e f.n → b = s.laneAt e f.m →
      U = isSet f.U →
        GivesLanes (.vcgtRegA1 f) s e f.d (regCount f.Q)
            (fun j => if laneInt U (a j) > laneInt U (b j) then BitVec.allOnes e else 0) ∧
          GivesLanes (.vcgeRegA1 f) s e f.d (regCount f.Q)
            (fun j => if laneInt U (a j) ≥ laneInt U (b j) then BitVec.allOnes e else 0) ∧
          GivesLanes (.vceqRegA1 f) s e f.d (regCount f.Q) (fun j => if a j = b j then BitVec.allOnes e else 0) ∧
          GivesLanes (.vtst f) s e f.d (regCount f.Q)
            (fun j => if ∃ i, i < e ∧ (a j).getLsbD i = true ∧ (b j).getLsbD i = true then BitVec.allOnes e else 0)

/-- VQADD and VQSUB saturate to the range of the lane, and VQABS and VQNEG to the signed range; QC is set exactly
where a lane saturates (rules R129, R134, R197, R215, R216). The spec marks these effects as general knowledge
(PRESUMED, notes/assumptions/10.md). -/
def Obligations.SaturatingAddSubtractAbsNegate : Prop :=
  (∀ (f : FThreeSame) (s : State) (e : Nat) (U : Bool) (a b : Nat → Int), s.SimdReady → EvenFor f.Q [f.d, f.n, f.m] →
      e = esize f.size → U = isSet f.U → (a = fun j => laneInt U (s.laneAt e f.n j)) →
        (b = fun j => laneInt U (s.laneAt e f.m j)) →
          GivesSaturated (.vqadd f) s e f.d (regCount f.Q) U (fun j => clamp e U (a j + b j))
              (fun j => OutOfRange e U (a j + b j)) ∧
            GivesSaturated (.vqsub f) s e f.d (regCount f.Q) U (fun j => clamp e U (a j - b j))
              (fun j => OutOfRange e U (a j - b j))) ∧
    ∀ (f : FTwoRegMisc) (s : State) (e : Nat) (a : Nat → Int), s.SimdReady → EvenFor f.Q [f.d, f.m] →
      f.size ≠ 0b11#2 → e = esize f.size → (a = fun j => (s.laneAt e f.m j).toInt) →
        GivesSaturated (.vqabs f) s e f.d (regCount f.Q) false (fun j => clamp e false (a j).natAbs)
            (fun j => OutOfRange e false (a j).natAbs) ∧
          GivesSaturated (.vqneg f) s e f.d (regCount f.Q) false (fun j => clamp e false (-a j))
            (fun j => OutOfRange e false (-a j))

/-- The shifts of Vm by a register: the count is the signed low byte of each lane of Vn, a negative count shifts
right, the rounding forms add half of the unit shifted to, and the VQ forms saturate (rules R143, R147, R149, R150,
R196, R197). The spec marks these effects as general knowledge (PRESUMED, notes/assumptions/10.md). -/
def Obligations.ShiftsByRegister : Prop :=
  ∀ (f : FThreeSame) (s : State) (e : Nat) (U : Bool) (x c plain rounded : Nat → Int), s.SimdReady →
    EvenFor f.Q [f.d, f.n, f.m] → e = esize f.size → U = isSet f.U → (x = fun j => laneInt U (s.laneAt e f.m j)) →
      (c = fun j => ((s.laneAt e f.n j).extractLsb' 0 8).toInt) →
        (plain = fun j => if 0 ≤ c j then x j * 2 ^ (c j).toNat else x j / 2 ^ (-c j).toNat) →
          (rounded = fun j =>
            if 0 ≤ c j then x j * 2 ^ (c j).toNat else (x j + 2 ^ ((-c j).toNat - 1)) / 2 ^ (-c j).toNat) →
            GivesLanes (.vshlReg f) s e f.d (regCount f.Q) (fun j => BitVec.ofInt e (plain j)) ∧
              GivesLanes (.vrshl f) s e f.d (regCount f.Q) (fun j => BitVec.ofInt e (rounded j)) ∧
              GivesSaturated (.vqshlReg f) s e f.d (regCount f.Q) U (fun j => clamp e U (plain j))
                (fun j => OutOfRange e U (plain j)) ∧
              GivesSaturated (.vqrshl f) s e f.d (regCount f.Q) U (fun j => clamp e U (rounded j))
                (fun j => OutOfRange e U (rounded j))

/-- The doubling multiplies that keep the high half, of two vectors and by a scalar, on signed lanes of 16 or 32 bits:
twice the product, plus the accumulator's lane in the high half for the VQRDMLAH and VQRDMLSH forms, rounded by half a
unit in the VQR forms, divided by 2^esize and saturated (rules R151, R182, R184, R186, R197, R310 to R313, R320). The
spec marks these effects as general knowledge (PRESUMED, notes/assumptions/10.md). -/
def Obligations.DoublingMultipliesHigh : Prop :=
  (∀ (f : FThreeSame) (s : State) (e : Nat) (acc a b : Nat → Int), s.SimdReady → EvenFor f.Q [f.d, f.n, f.m] →
      f.size = 0b01#2 ∨ f.size = 0b10#2 → e = esize f.size → (acc = fun j => (s.laneAt e f.d j).toInt) →
        (a = fun j => (s.laneAt e f.n j).toInt) → (b = fun j => (s.laneAt e f.m j).toInt) →
          ∀ p ∈ doublingHigh e acc a b (.vqdmulh3same f) (.vqrdmulh3same f) (.vqrdmlah3same f) (.vqrdmlsh3same f),
            GivesSaturated p.1 s e f.d (regCount f.Q) false (fun j => clamp e false (p.2 j))
              (fun j => OutOfRange e false (p.2 j))) ∧
    ∀ (f : FTwoRegScalar) (s : State) (e : Nat) (acc a b : Nat → Int), s.SimdReady → EvenFor f.Q [f.d, f.n] →
      f.size = 0b01#2 ∨ f.size = 0b10#2 → e = esize f.size → (acc = fun j => (s.laneAt e f.d j).toInt) →
        (a = fun j => (s.laneAt e f.n j).toInt) → (b = fun _ => (scalarOf f e s).toInt) →
          ∀ p ∈ doublingHigh e acc a b (.vqdmulhScalar f) (.vqrdmulhScalar f) (.vqrdmlahScalar f) (.vqrdmlshScalar f),
            GivesSaturated p.1 s e f.d (regCount f.Q) false (fun j => clamp e false (p.2 j))
              (fun j => OutOfRange e false (p.2 j))

/-- The bitwise rows ignore lanes: every bit of each doubleword of the result is one function of the bits at its place
in the destination, Vn and Vm (rules R128, R133, R145, R155, R166, R170, R179, R185, R196). The spec marks these
effects as general knowledge (PRESUMED, notes/assumptions/10.md). -/
def Obligations.BitwiseRegisters : Prop :=
  ∀ (f : FThreeSame) (s : State), s.SimdReady → EvenFor f.Q [f.d, f.n, f.m] →
    ∀ p ∈ [(Instr.vandReg f, fun (_ n m : Bool) => n && m), (.vbicReg f, fun _ n m => n && !m),
        (.vorrReg f, fun _ n m => n || m), (.vornReg f, fun _ n m => n || !m), (.veor f, fun _ n m => n ^^ m),
        (.vbsl f, fun d n m => if d then n else m), (.vbit f, fun d n m => if m then n else d),
        (.vbif f, fun d n m => if m then d else n)],
      Completes p.1 s fun t =>
        VectorFrame 0#32 (Regs f.d (regCount f.Q)) s t ∧
          ∀ k, k < regCount f.Q → ∀ b, b < 64 →
            (t.readD (f.d + k)).getLsbD b =
              p.2 ((s.readD (f.d + k)).getLsbD b) ((s.readD (f.n + k)).getLsbD b) ((s.readD (f.m + k)).getLsbD b)

/-! ## Three registers of the same length: floating-point, SHA and AES -/

/-- The floating-point rows of "three registers of the same length", on 32-bit lanes and, with P6, on 16-bit lanes:
each lane is the operation's result, and FPSCR gains exactly the flags of its lanes; the pairwise rows have 64-bit
vectors. On finite operands, sum, difference and product are the exact value rounded once to nearest even. VFMA and
VFMS round the exact sum of the accumulator and the product once, VMLA and VMLS the product and then the sum (rules
R121 to R126, R138 to R142, R160 to R165, R173 to R177, R196, R198; details notes/assumptions/23.md). The spec marks
these effects as general knowledge (PRESUMED, notes/assumptions/10.md). -/
def Obligations.FloatingRegisterRows : Prop :=
  (∀ (f : FThreeSame) (s : State) (e : Nat), s.SimdReady → EvenFor f.Q [f.d, f.n, f.m] →
      (f.half = true → s.params.haveFp16 = true) → e = fpSize f.half →
        ∀ p ∈ [(Instr.vaddFp f, fun (a b : BitVec e) => fpAdd a b), (.vsubFp f, fun a b => fpSub a b),
            (.vmulFp f, fun a b => fpMul a b), (.vabdFp f, fun a b => fpAbsDiff a b),
            (.vmaxFp f, fun a b => fpMaxMin false a b), (.vminFp f, fun a b => fpMaxMin true a b),
            (.vmaxnm f, fun a b => fpMaxMinNum false a b), (.vminnm f, fun a b => fpMaxMinNum true a b),
            (.vrecps f, fun a b => fpStep false a b), (.vrsqrts f, fun a b => fpStep true a b),
            (.vceqRegA2 f, fun a b => fpCompare .equal a b), (.vcgeRegA2 f, fun a b => fpCompare .greaterEqual a b),
            (.vcgtRegA2 f, fun a b => fpCompare .greater a b),
            (.vacge f, fun a b => fpCompare .greaterEqual (fpAbs a) (fpAbs b)),
            (.vacgt f, fun a b => fpCompare .greater (fpAbs a) (fpAbs b))],
          GivesFlaggedLanes p.1 s fpFlags e f.d (regCount f.Q)
            (fun j => p.2 (s.laneAt e f.n j) (s.laneAt e f.m j))) ∧
    (∀ (f : FThreeSame) (s : State) (e : Nat), s.SimdReady → (f.half = true → s.params.haveFp16 = true) →
        e = fpSize f.half →
          (EvenFor f.Q [f.d, f.n, f.m] →
              ∀ p ∈ [(Instr.vfma f, fun (d a b : BitVec e) => fpMulAdd d a b), (.vfms f, fun d a b => fpMulSub d a b),
                  (.vmlaFp f, fun d a b => fpMulThenAdd false d a b), (.vmlsFp f, fun d a b => fpMulThenAdd true d a b)],
                GivesFlaggedLanes p.1 s fpFlags e f.d (regCount f.Q)
                  (fun j => p.2 (s.laneAt e f.d j) (s.laneAt e f.n j) (s.laneAt e f.m j))) ∧
            (f.Q = 0#1 →
              ∀ p ∈ [(Instr.vpaddFp f, fun (a b : BitVec e) => fpAdd a b), (.vpmaxFp f, fun a b => fpMaxMin false a b),
                  (.vpminFp f, fun a b => fpMaxMin true a b)],
                GivesFlaggedLanes p.1 s fpFlags e f.d 1
                  (fun j => p.2 (pairSource s e f.n f.m (2 * j)) (pairSource s e f.n f.m (2 * j + 1))))) ∧
      ∀ (e : Nat) (acc a b : BitVec e) (uc ua ub p : FpNumber) (fc fa fb : Flags), e = 16 ∨ e = 32 →
        (uc, fc) = fpUnpack fpStandard acc → (ua, fa) = fpUnpack fpStandard a → (ub, fb) = fpUnpack fpStandard b →
          (uc.Finite → ua.Finite → ub.Finite →
            p = { sign := ua.sign != ub.sign, kind := .nonzero, m := ua.m * ub.m, x := ua.x + ub.x } →
              GivesSum (ua.inUnits (min ua.x ub.x) + ub.inUnits (min ua.x ub.x)) (min ua.x ub.x)
                  (signedBits e (ua.kind == .zero && ub.kind == .zero && ua.sign && ub.sign) 0) (fa ||| fb) (fpAdd a b) ∧
                GivesSum (ua.inUnits (min ua.x ub.x) - ub.inUnits (min ua.x ub.x)) (min ua.x ub.x)
                  (signedBits e (ua.kind == .zero && ub.kind == .zero && ua.sign && !ub.sign) 0) (fa ||| fb)
                  (fpSub a b) ∧
                (p.m ≠ 0 → RoundsTo fpStandard p.sign p.m p.x (fpMul a b)) ∧
                (p.m = 0 → fpMul a b = (signedBits e p.sign 0, fa ||| fb)) ∧
                GivesSum (uc.inUnits (min uc.x p.x) + p.inUnits (min uc.x p.x)) (min uc.x p.x)
                  (signedBits e (uc.kind == .zero && p.m == 0 && uc.sign && p.sign) 0) (fc ||| fa ||| fb)
                  (fpMulAdd acc a b)) ∧
            fpMulSub acc a b = fpMulAdd acc (flipSign a) b ∧
            fpMulThenAdd false acc a b =
              ((fpAdd acc (fpMul a b).1).1, (fpAdd acc (fpMul a b).1).2 ||| (fpMul a b).2) ∧
            fpMulThenAdd true acc a b =
              ((fpSub acc (fpMul a b).1).1, (fpSub acc (fpMul a b).1).2 ||| (fpMul a b).2) ∧
            (fpAbsDiff a b).2 = (fpSub a b).2 ∧
            ∀ k, k < e → (fpAbsDiff a b).1.getLsbD k = (if k = e - 1 then false else (fpSub a b).1.getLsbD k)

/-- The floating-point operations on special operands under the standard FPSCR value, and those that choose between
their operands: how the fields of a lane are read, a subnormal as zero (a 32-bit one sets IDC, a 16-bit one does not,
PRESUMED, notes/assumptions/16.md); the default NaN from a NaN operand, with IOC where one is signalling, and with IOC
from zero times infinity and from a difference of infinities; infinities in either operand; VFMA with a NaN, an
infinity, or zero times infinity, where a quiet NaN addend does not hide IOC (PRESUMED, notes/assumptions/23.md), and
VFMS as VFMA of a negated operand; the comparisons, the maximum and the minimum by the order of the numbers, plus zero
above minus zero; VMAXNM and VMINNM, where a quiet NaN loses to a number; VRECPS, 2.0 - a*b, and VRSQRTS, (3.0 -
a*b)/2.0 of the rounded product, which give 2.0 and 1.5 for zero and infinity (rule R198; details
notes/assumptions/23.md). The spec marks these effects as general knowledge (PRESUMED, notes/assumptions/10.md). -/
def Obligations.FloatingSpecialOperands : Prop :=
  ∀ (e : Nat) (a b c : BitVec e) (ua ub uc up : FpNumber) (fa fb fc : Flags) (least : Bool)
      (F top ex fr : Nat) (bias x0 : Int), e = 16 ∨ e = 32 →
    (ua, fa) = fpUnpack fpStandard a → (ub, fb) = fpUnpack fpStandard b → (uc, fc) = fpUnpack fpStandard c →
      F = (if e = 16 then 10 else 23) → top = (if e = 16 then 31 else 255) → bias = (if e = 16 then 15 else 127) →
        ex = a.toNat / 2 ^ F % (top + 1) → fr = a.toNat % 2 ^ F →
          ua.sign = a.msb ∧
            (ex = 0 → ua.kind = .zero ∧ ua.m = 0 ∧
              ((fpUnpack fpStandard a).2 = if e = 32 ∧ fr ≠ 0 then flagIDC else 0#32)) ∧
            (ex ≠ 0 → (fpUnpack fpStandard a).2 = 0#32) ∧
            (ex ≠ 0 → ex ≠ top → ua.kind = .nonzero ∧ ua.m = 2 ^ F + fr ∧ ua.x = ex - bias - F) ∧
            (ex = top →
              ua.kind = if fr = 0 then .infinity else if a.getLsbD (F - 1) then .quietNaN else .signallingNaN) ∧
            (ua.isNaN = true ∨ ub.isNaN = true →
              (∀ r ∈ [fpAdd a b, fpSub a b, fpMul a b, fpMaxMin least a b, fpStep least a b],
                  r.1 = defaultNaNBits e ∧
                    (r.2.getLsbD 0 = true ↔ ua.kind = .signallingNaN ∨ ub.kind = .signallingNaN)) ∧
                ∀ rel ∈ [FpRelation.equal, .greaterEqual, .greater],
                  (fpCompare rel a b).1 = 0 ∧
                    ((fpCompare rel a b).2.getLsbD 0 = true ↔
                      rel ≠ .equal ∨ ua.kind = .signallingNaN ∨ ub.kind = .signallingNaN)) ∧
            (ZeroTimesInfinity ua ub →
              (fpMul a b).1 = defaultNaNBits e ∧ (fpMul a b).2.getLsbD 0 = true ∧
                (fpStep false a b).1 = BitVec.ofNat e (if e = 16 then 0x4000 else 0x40000000) ∧
                (fpStep true a b).1 = BitVec.ofNat e (if e = 16 then 0x3E00 else 0x3FC00000)) ∧
            (ua.kind = .infinity → ub.kind = .infinity →
              (ua.sign = ub.sign → fpSub a b = (defaultNaNBits e, flagIOC)) ∧
                (ua.sign ≠ ub.sign → fpAdd a b = (defaultNaNBits e, flagIOC))) ∧
            (ua.isNaN = false → ub.isNaN = false →
              (ua.kind = .infinity ∧ ub.kind ≠ .zero ∨ ub.kind = .infinity ∧ ua.kind ≠ .zero →
                  fpMul a b = (infinityBits e (ua.sign != ub.sign), fa ||| fb)) ∧
                (ua.kind = .infinity → (ub.kind = .infinity → ua.sign = ub.sign) →
                  fpAdd a b = (infinityBits e ua.sign, fa ||| fb)) ∧
                (ub.kind = .infinity → (ua.kind = .infinity → ua.sign = ub.sign) →
                  fpAdd a b = (infinityBits e ub.sign, fa ||| fb)) ∧
                (ua.kind = .infinity → (ub.kind = .infinity → ua.sign ≠ ub.sign) →
                  fpSub a b = (infinityBits e ua.sign, fa ||| fb)) ∧
                (ub.kind = .infinity → (ua.kind = .infinity → ua.sign ≠ ub.sign) →
                  fpSub a b = (infinityBits e (!ub.sign), fa ||| fb))) ∧
            FusedSpecial c a b uc ua ub (fc ||| fa ||| fb) ∧ fpMulSub c a b = fpMulAdd c (flipSign a) b ∧
            (ua.isNaN = false → ub.isNaN = false →
              (∀ p ∈ [(FpRelation.greater, ub.Below ua), (.greaterEqual, ¬ua.Below ub),
                    (.equal, ¬ua.Below ub ∧ ¬ub.Below ua)],
                  (p.2 → (fpCompare p.1 a b).1 = BitVec.allOnes e) ∧ (¬p.2 → (fpCompare p.1 a b).1 = 0)) ∧
                (ua.kind = .zero → ub.kind = .zero →
                  (fpMaxMin false a b).1 = signedBits e (ua.sign && ub.sign) 0 ∧
                    (fpMaxMin true a b).1 = signedBits e (ua.sign || ub.sign) 0) ∧
                (ua.kind ≠ .zero ∨ ub.kind ≠ .zero →
                  (ua.Below ub → (fpMaxMin false a b).1 = flushed b ∧ (fpMaxMin true a b).1 = flushed a) ∧
                    (¬ua.Below ub → (fpMaxMin false a b).1 = flushed a ∧ (fpMaxMin true a b).1 = flushed b)) ∧
                fpMaxMinNum least a b = fpMaxMin least a b ∧
                (¬ZeroTimesInfinity ua ub →
                  (fpStep false a b).1 =
                      (fpSub (BitVec.ofNat e (if e = 16 then 0x4000 else 0x40000000)) (fpMul a b).1).1 ∧
                    (up = (fpUnpack fpStandard (fpMul a b).1).1 → up.Finite → x0 = min (1 - (F : Int)) up.x →
                      ∃ r : Lane e, GivesSum (3 * 2 ^ (-x0).toNat - up.inUnits x0) (x0 - 1) (signedBits e false 0) 0#32 r ∧
                        (fpStep true a b).1 = r.1) ∧
                    (up = (fpUnpack fpStandard (fpMul a b).1).1 → up.kind = .infinity →
                      (fpStep true a b).1 = infinityBits e (!up.sign)))) ∧
            (ua.kind = .quietNaN → ub.isNaN = false →
              (fpMaxMinNum least a b).1 = flushed b ∧ (fpMaxMinNum least b a).1 = flushed b) ∧
            (ua.kind = .quietNaN ∧ ub.kind = .quietNaN ∨ ua.kind = .signallingNaN ∨ ub.kind = .signallingNaN →
              (fpMaxMinNum least a b).1 = defaultNaNBits e ∧
                ((fpMaxMinNum least a b).2.getLsbD 0 = true ↔ ua.kind = .signallingNaN ∨ ub.kind = .signallingNaN))

/-- The SHA and AES rows work on whole 128-bit registers with even numbers: the SHA rows of three registers with Q = 1,
the AES rows with size = 00 and the SHA rows of two registers with size = 10 (rules R131, R137, R152, R159, R168, R172,
R183, R205 to R208, R224, R232, R233, R265). Their functions are the published ones: the AES substitution is the affine
map of the inverse in GF(2^8) and the two tables and the two MixColumns undo each other; four rounds of SHA1 and of
SHA256 by the standard's equations; the two schedule updates together give the next four message words. The spec marks
these effects as general knowledge and only names the functions (PRESUMED, notes/assumptions/10.md). -/
def Obligations.CryptographicRows : Prop :=
  (∀ (f : FThreeSame) (s : State), s.SimdReady → f.Q = 1#1 → EvenFor f.Q [f.d, f.n, f.m] →
      ∀ p ∈ [(Instr.sha1c f, sha1Update shaChoose), (.sha1p f, sha1Update shaParity), (.sha1m f, sha1Update shaMajority),
          (.sha1su0 f, sha1Schedule0), (.sha256h f, sha256Hash1), (.sha256h2 f, sha256Hash2),
          (.sha256su1 f, sha256Schedule1)],
        Completes p.1 s fun t =>
          VectorFrame 0#32 (Regs f.d 2) s t ∧ t.readQ f.d = p.2 (s.readQ f.d) (s.readQ f.n) (s.readQ f.m)) ∧
    (∀ (f : FTwoRegMisc) (s : State), s.SimdReady → f.d % 2 = 0 → f.m % 2 = 0 →
        (f.size = 0b00#2 →
            ∀ p ∈ [(Instr.aese f, aesEncrypt), (.aesd f, aesDecrypt), (.aesmc f, fun _ m => aesMixColumns m),
                (.aesimc f, fun _ m => aesInvMixColumns m)],
              Completes p.1 s fun t =>
                VectorFrame 0#32 (Regs f.d 2) s t ∧ t.readQ f.d = p.2 (s.readQ f.d) (s.readQ f.m)) ∧
          (f.size = 0b10#2 →
            ∀ p ∈ [(Instr.sha1h f, fun _ m => sha1FixedRotate m), (.sha1su1 f, sha1Schedule1),
                (.sha256su0 f, sha256Schedule0)],
              Completes p.1 s fun t =>
                VectorFrame 0#32 (Regs f.d 2) s t ∧ t.readQ f.d = p.2 (s.readQ f.d) (s.readQ f.m))) ∧
      ((∀ x : BitVec 8,
            substitute aesInvSubTable (substitute aesSubTable x) = x ∧
              substitute aesSubTable (substitute aesInvSubTable x) = x ∧
              ∃ y : BitVec 8, gf256Product x y = (if x = 0#8 then 0#8 else 1#8) ∧ (x = 0#8 → y = 0#8) ∧
                substitute aesSubTable x =
                  y ^^^ y.rotateLeft 1 ^^^ y.rotateLeft 2 ^^^ y.rotateLeft 3 ^^^ y.rotateLeft 4 ^^^ 0x63#8) ∧
          (∀ (d m : QWord) (i : Nat), i < 16 →
            byteOf (aesEncrypt d m) i = substitute aesSubTable (byteOf (d ^^^ m) ((i + 4 * (i % 4)) % 16)) ∧
              byteOf (aesDecrypt d m) i = substitute aesInvSubTable (byteOf (d ^^^ m) ((i + 12 * (i % 4)) % 16))) ∧
          (∀ (m : QWord) (x : Nat → BitVec 8) (c r : Nat), c < 4 → r < 4 →
            (x = fun k => byteOf m (4 * c + (r + k) % 4)) →
              byteOf (aesMixColumns m) (4 * c + r) = gf256Product 2 (x 0) ^^^ gf256Product 3 (x 1) ^^^ x 2 ^^^ x 3 ∧
                byteOf (aesInvMixColumns m) (4 * c + r) =
                  gf256Product 14 (x 0) ^^^ gf256Product 11 (x 1) ^^^ gf256Product 13 (x 2) ^^^ gf256Product 9 (x 3)) ∧
          ∀ m : QWord, aesInvMixColumns (aesMixColumns m) = m ∧ aesMixColumns (aesInvMixColumns m) = m) ∧
        (∀ (d n m : QWord) (a b c e f g h : Word),
          (∀ p ∈ [(shaChoose, fun x y z : Word => (x &&& y) ^^^ (~~~x &&& z)), (shaParity, fun x y z => x ^^^ y ^^^ z),
                (shaMajority, fun x y z => (x &&& y) ^^^ (x &&& z) ^^^ (y &&& z))],
              (a, b, c, e, f) =
                  [wordOf m 0, wordOf m 1, wordOf m 2, wordOf m 3].foldl (sha1Round p.2)
                    (wordOf d 0, wordOf d 1, wordOf d 2, wordOf d 3, wordOf n 0) →
                sha1Update p.1 d n m = e ++ c ++ b ++ a) ∧
            (∀ d' : Word,
              (a, b, c, d', e, f, g, h) =
                  [wordOf m 0, wordOf m 1, wordOf m 2, wordOf m 3].foldl sha256Round
                    (wordOf d 0, wordOf d 1, wordOf d 2, wordOf d 3, wordOf n 0, wordOf n 1, wordOf n 2, wordOf n 3) →
                sha256Hash1 d n m = d' ++ c ++ b ++ a ∧ sha256Hash2 n d m = h ++ g ++ f ++ e) ∧
            sha1FixedRotate m = 0#96 ++ (wordOf m 0).rotateLeft 30) ∧
        ∀ (W : Nat → Word) (t : Nat),
          ((∀ k, t + 16 ≤ k → W k = (W (k - 3) ^^^ W (k - 8) ^^^ W (k - 14) ^^^ W (k - 16)).rotateLeft 1) →
              sha1Schedule1 (sha1Schedule0 (quadAt W t) (quadAt W (t + 4)) (quadAt W (t + 8))) (quadAt W (t + 12)) =
                quadAt W (t + 16)) ∧
            ((∀ k, t + 16 ≤ k →
                W k =
                  ((W (k - 2)).rotateRight 17 ^^^ (W (k - 2)).rotateRight 19 ^^^ (W (k - 2) >>> 10)) + W (k - 7) +
                    ((W (k - 15)).rotateRight 7 ^^^ (W (k - 15)).rotateRight 18 ^^^ (W (k - 15) >>> 3)) + W (k - 16)) →
              sha256Schedule1 (sha256Schedule0 (quadAt W t) (quadAt W (t + 4))) (quadAt W (t + 8)) (quadAt W (t + 12)) =
                quadAt W (t + 16))

/-! ## Two registers misc and duplicate -/

/-- VREV64, VREV32 and VREV16 reverse the lanes within each group of 64, 32 or 16 bits; VMVN inverts every lane; VCLS
gives how many bits below the top bit equal it in a row, VCLZ how many bits from the top are zero in a row, VCNT how
many bits of a byte are one (rules R201, R202, R203, R209, R211 to R213, R265). The spec marks these effects as
general knowledge (PRESUMED, notes/assumptions/10.md). -/
def Obligations.ReversesInvertsAndCounts : Prop :=
  (∀ (f : FTwoRegMisc) (s : State) (e : Nat), s.SimdReady → EvenFor f.Q [f.d, f.m] → e = esize f.size →
      (∀ p ∈ [(Instr.vrev64 f, 64), (.vrev32 f, 32), (.vrev16 f, 16)], e < p.2 →
          GivesLanes p.1 s e f.d (regCount f.Q)
            (fun j => s.laneAt e f.m (j / (p.2 / e) * (p.2 / e) + (p.2 / e - 1 - j % (p.2 / e))))) ∧
        (f.size = 0b00#2 → GivesLanes (.vmvnReg f) s e f.d (regCount f.Q) (fun j => ~~~s.laneAt e f.m j))) ∧
    ∀ (f : FTwoRegMisc) (s : State) (e : Nat) (x : Nat → BitVec e), s.SimdReady → EvenFor f.Q [f.d, f.m] →
      e = esize f.size → x = s.laneAt e f.m →
        (f.size ≠ 0b11#2 →
            (Completes (.vcls f) s fun t =>
                VectorFrame 0#32 (Regs f.d (regCount f.Q)) s t ∧
                  ∀ j c, j < regCount f.Q * (64 / e) → c = (t.laneAt e f.d j).toNat →
                    c < e ∧ (∀ k, 1 ≤ k → k ≤ c → (x j).getMsbD k = (x j).getMsbD 0) ∧
                      (c + 1 < e → (x j).getMsbD (c + 1) ≠ (x j).getMsbD 0)) ∧
              Completes (.vclz f) s fun t =>
                VectorFrame 0#32 (Regs f.d (regCount f.Q)) s t ∧
                  ∀ j c, j < regCount f.Q * (64 / e) → c = (t.laneAt e f.d j).toNat →
                    c ≤ e ∧ (∀ k, k < c → (x j).getMsbD k = false) ∧ (c < e → (x j).getMsbD c = true)) ∧
          (f.size = 0b00#2 →
            Completes (.vcnt f) s fun t =>
              VectorFrame 0#32 (Regs f.d (regCount f.Q)) s t ∧
                ∀ j, j < regCount f.Q * (64 / e) →
                  (t.laneAt e f.d j).toNat = (List.range e).countP (fun i => (x j).getLsbD i))

/-- The comparisons with zero, VABS and VNEG: signed integer lanes where opc2<3> = 0 (VABS and VNEG modulo 2^esize),
else floating-point lanes of 32 bits, or 16 with P6 (rules R217 to R223, R265). The spec marks these effects as
general knowledge (PRESUMED, notes/assumptions/10.md). -/
def Obligations.ComparesWithZero : Prop :=
  ∀ (f : FTwoRegMisc) (s : State) (e : Nat) (x : Nat → BitVec e), s.SimdReady → EvenFor f.Q [f.d, f.m] →
    e = esize f.size → x = s.laneAt e f.m →
      (f.opc2.getLsbD 3 = false → f.size ≠ 0b11#2 →
          (∀ p ∈ [(Instr.vcgtImm0 f, fun v : Int => decide (v > 0)), (.vcgeImm0 f, fun v => decide (v ≥ 0)),
                (.vceqImm0 f, fun v => decide (v = 0)), (.vcleImm0 f, fun v => decide (v ≤ 0)),
                (.vcltImm0 f, fun v => decide (v < 0))],
              GivesLanes p.1 s e f.d (regCount f.Q)
                (fun j => if p.2 (x j).toInt then BitVec.allOnes e else 0)) ∧
            GivesLanes (.vabs f) s e f.d (regCount f.Q) (fun j => BitVec.ofInt e (x j).toInt.natAbs) ∧
            GivesLanes (.vneg f) s e f.d (regCount f.Q) (fun j => BitVec.ofInt e (-(x j).toInt))) ∧
        (f.opc2.getLsbD 3 = true → f.size = 0b10#2 ∨ (f.size = 0b01#2 ∧ s.params.haveFp16 = true) →
          (∀ p ∈ [(Instr.vcgtImm0 f, fun v : BitVec e => fpCompare .greater v (fpZero e false)),
                (.vcgeImm0 f, fun v => fpCompare .greaterEqual v (fpZero e false)),
                (.vceqImm0 f, fun v => fpCompare .equal v (fpZero e false)),
                (.vcleImm0 f, fun v => fpCompare .greaterEqual (fpZero e false) v),
                (.vcltImm0 f, fun v => fpCompare .greater (fpZero e false) v)],
              GivesFlaggedLanes p.1 s fpFlags e f.d (regCount f.Q) (fun j => p.2 (x j))) ∧
            (Completes (.vabs f) s fun t =>
              VectorFrame 0#32 (Regs f.d (regCount f.Q)) s t ∧
                ∀ j, j < regCount f.Q * (64 / e) → ∀ b, b < e →
                  (t.laneAt e f.d j).getLsbD b = (if b = e - 1 then false else (x j).getLsbD b)) ∧
            Completes (.vneg f) s fun t =>
              VectorFrame 0#32 (Regs f.d (regCount f.Q)) s t ∧
                ∀ j, j < regCount f.Q * (64 / e) → ∀ b, b < e →
                  (t.laneAt e f.d j).getLsbD b = (if b = e - 1 then !(x j).getLsbD b else (x j).getLsbD b))

/-- VPADDL adds adjacent lanes, unsigned where opc2<0> = 1, into lanes twice as wide, and VPADAL adds those sums to
the destination (rules R204, R214, R265). The spec marks these effects as general knowledge (PRESUMED,
notes/assumptions/10.md). -/
def Obligations.PairwiseAddLong : Prop :=
  ∀ (f : FTwoRegMisc) (s : State) (e : Nat) (sum : Nat → Int), s.SimdReady → EvenFor f.Q [f.d, f.m] →
    f.size ≠ 0b11#2 → e = esize f.size →
      (sum = fun j =>
        laneInt (f.opc2.getLsbD 0) (s.laneAt e f.m (2 * j)) + laneInt (f.opc2.getLsbD 0) (s.laneAt e f.m (2 * j + 1))) →
        GivesLanes (.vpaddl f) s (2 * e) f.d (regCount f.Q) (fun j => BitVec.ofInt (2 * e) (sum j)) ∧
          GivesLanes (.vpadal f) s (2 * e) f.d (regCount f.Q)
            (fun j => BitVec.ofInt (2 * e) ((s.laneAt (2 * e) f.d j).toNat + sum j))

/-- VSWP, VTRN, VUZP and VZIP on two different vectors change both: VSWP exchanges them, VTRN transposes each 2 by 2
block of lanes, VUZP takes the lanes of the two in turn apart and VZIP puts them together (rules R210, R225, R226,
R227, R265). The spec marks these effects as general knowledge (PRESUMED, notes/assumptions/10.md). -/
def Obligations.ExchangesBetweenVectors : Prop :=
  ∀ (f : FTwoRegMisc) (s : State) (e n : Nat) (a b : Nat → BitVec e), s.SimdReady → EvenFor f.Q [f.d, f.m] →
    f.d ≠ f.m → e = esize f.size → n = regCount f.Q * (64 / e) → a = s.laneAt e f.d → b = s.laneAt e f.m →
      (Completes (.vswp f) s fun t =>
          VectorFrame 0#32 (fun k => Regs f.d (regCount f.Q) k ∨ Regs f.m (regCount f.Q) k) s t ∧
            ∀ k, k < regCount f.Q → t.readD (f.d + k) = s.readD (f.m + k) ∧ t.readD (f.m + k) = s.readD (f.d + k)) ∧
        (f.size ≠ 0b11#2 →
          GivesBoth (.vtrn f) s e f.d f.m (regCount f.Q) (fun j => if j % 2 = 0 then a j else b (j - 1))
            (fun j => if j % 2 = 0 then a (j + 1) else b j)) ∧
        (f.size ≠ 0b11#2 → (f.Q = 0#1 → f.size ≠ 0b10#2) →
          GivesBoth (.vuzp f) s e f.d f.m (regCount f.Q)
              (fun j => if 2 * j < n then a (2 * j) else b (2 * j - n))
              (fun j => if 2 * j + 1 < n then a (2 * j + 1) else b (2 * j + 1 - n)) ∧
            GivesBoth (.vzip f) s e f.d f.m (regCount f.Q)
              (fun j => if j % 2 = 0 then a (j / 2) else b (j / 2))
              (fun j => if j % 2 = 0 then a ((n + j) / 2) else b ((n + j) / 2)))

/-- VSWP, VTRN, VUZP and VZIP on a vector and itself complete, each register of the vector gets the next free value
and nothing else but the pc and the counter of free values changes, in every form that each row has (the model's choice,
notes/assumptions/18.md). The spec marks these effects as general knowledge (PRESUMED, notes/assumptions/10.md). -/
def Obligations.ExchangesWithItselfAreFree : Prop :=
  ∀ (f : FTwoRegMisc) (s : State) (i : Instr), s.SimdReady → EvenFor f.Q [f.d, f.m] → f.d = f.m →
    (i = .vswp f ∨ (i = .vtrn f ∧ f.size ≠ 0b11#2) ∨
        (i ∈ [Instr.vuzp f, .vzip f] ∧ f.size ≠ 0b11#2 ∧ (f.Q = 0#1 → f.size ≠ 0b10#2))) →
      Completes i s fun t =>
        t.freeCount = s.freeCount + regCount f.Q ∧
          VectorFrame 0#32 (Regs f.d (regCount f.Q)) s { t with freeCount := s.freeCount } ∧
          ∀ k, k < regCount f.Q → t.readD (f.d + k) = Config.freeDWord (s.freeCount + k)

/-- The narrowing rows write each lane of a quadword into a lane of half the width: VMOVN keeps the low half, VQMOVN
saturates and VQMOVUN saturates a signed lane to the unsigned range. The lengthening rows widen each lane of a
doubleword and shift it left: VSHLL by the lane width, or by imm6 less the lane width, and VMOVL by nothing for its
three lane widths (rules R228 to R231, R265, R353, R359, R375; where imm3H has more than one bit set,
notes/assumptions/17.md). The spec marks these effects as general knowledge (PRESUMED, notes/assumptions/10.md). -/
def Obligations.NarrowingAndLengtheningMoves : Prop :=
  (∀ (f : FTwoRegMisc) (s : State) (e : Nat) (x : Nat → BitVec (2 * e)), s.SimdReady → f.m % 2 = 0 →
      f.size ≠ 0b11#2 → e = esize f.size → x = s.laneAt (2 * e) f.m →
        GivesLanes (.vmovn f) s e f.d 1 (fun j => (x j).extractLsb' 0 e) ∧
          GivesSaturated (.vqmovn f) s e f.d 1 (isSet f.Q)
            (fun j => clamp e (isSet f.Q) (laneInt (isSet f.Q) (x j)))
            (fun j => OutOfRange e (isSet f.Q) (laneInt (isSet f.Q) (x j))) ∧
          GivesSaturated (.vqmovun f) s e f.d 1 true (fun j => clamp e true (x j).toInt)
            (fun j => OutOfRange e true (x j).toInt)) ∧
    (∀ (f : FTwoRegMisc) (s : State) (e : Nat), s.SimdReady → f.d % 2 = 0 → f.size ≠ 0b11#2 → e = esize f.size →
        GivesLanes (.vshllMisc f) s (2 * e) f.d 2
          (fun j => BitVec.ofInt (2 * e) ((s.laneAt e f.m j).toNat * 2 ^ e))) ∧
      ∀ (f : FTwoRegShift) (s : State) (e : Nat) (x : Nat → Int), s.SimdReady → f.d % 2 = 0 → f.L = 0#1 → e = f.esize →
        (x = fun j => laneInt (isSet f.U) (s.laneAt e f.m j)) →
          GivesLanes (.vshllImm f) s (2 * e) f.d 2 (fun j => BitVec.ofInt (2 * e) (x j * 2 ^ (f.imm6 - e))) ∧
            GivesLanes (.vmovl f) s (2 * e) f.d 2 (fun j => BitVec.ofInt (2 * e) (x j * 2 ^ (f.imm6 - e))) ∧
            (f.imm3L = 0#3 → f.imm3H = 0b001#3 ∨ f.imm3H = 0b010#3 ∨ f.imm3H = 0b100#3 →
              GivesLanes (.vmovl f) s (2 * e) f.d 2 (fun j => BitVec.ofInt (2 * e) (x j)))

/-- The rounding, conversion and estimate rows, on 32-bit lanes and, with P6, on 16-bit lanes: each lane is the
operation's result, and FPSCR gains exactly the flags of its lanes. VRECPE and VRSQRTE have an integer form on 32-bit
lanes (rules R234 to R237, R239, R241 to R248, R265). That opc2<1> = 1 is to integer and opc2<0> = 1 unsigned in VCVT
(R248) is PRESUMED (notes/assumptions/29.md). The estimates are those of notes/assumptions/15.md (PRESUMED): eight
fraction bits, the operand times the reciprocal estimate within 2^-8 of 1 and times the square of the other within
2^-7, and the special operands and operands of the integer forms that are too small. The spec marks these effects as
general knowledge (PRESUMED, notes/assumptions/10.md). -/
def Obligations.FloatingOneOperand : Prop :=
  (∀ (f : FTwoRegMisc) (s : State) (e : Nat) (U : Bool), s.SimdReady → EvenFor f.Q [f.d, f.m] →
      f.size = 0b10#2 ∨ (f.size = 0b01#2 ∧ s.params.haveFp16 = true) → e = esize f.size → U = f.opc2.getLsbD 0 →
        (∀ p ∈ [(Instr.vrintnAsimd f, fun a : BitVec e => fpRoundInt .nearestEven false a),
              (.vrintxAsimd f, fun a => fpRoundInt .nearestEven true a),
              (.vrintaAsimd f, fun a => fpRoundInt .nearestAway false a),
              (.vrintzAsimd f, fun a => fpRoundInt .towardZero false a),
              (.vrintmAsimd f, fun a => fpRoundInt .minusInfinity false a),
              (.vrintpAsimd f, fun a => fpRoundInt .plusInfinity false a),
              (.vcvtaAsimd f, fun a => fpToFixed .nearestAway U 0 a),
              (.vcvtnAsimd f, fun a => fpToFixed .nearestEven U 0 a),
              (.vcvtpAsimd f, fun a => fpToFixed .plusInfinity U 0 a),
              (.vcvtmAsimd f, fun a => fpToFixed .minusInfinity U 0 a),
              (.vcvtFpIntAsimd f,
                fun a => if f.opc2.getLsbD 1 then fpToFixed .towardZero U 0 a else fpFromFixed U 0 a)],
            GivesFlaggedLanes p.1 s fpFlags e f.d (regCount f.Q) (fun j => p.2 (s.laneAt e f.m j))) ∧
          (f.opc2.getLsbD 1 = true →
            GivesFlaggedLanes (.vrecpe f) s fpFlags e f.d (regCount f.Q) (fun j => fpRecipEstimate (s.laneAt e f.m j)) ∧
              GivesFlaggedLanes (.vrsqrte f) s fpFlags e f.d (regCount f.Q)
                (fun j => fpRecipSqrtEstimate (s.laneAt e f.m j))) ∧
          (f.opc2.getLsbD 1 = false → f.size = 0b10#2 →
            GivesLanes (.vrecpe f) s e f.d (regCount f.Q) (fun j => unsignedRecipEstimate (s.laneAt e f.m j)) ∧
              GivesLanes (.vrsqrte f) s e f.d (regCount f.Q) (fun j => unsignedRecipSqrtEstimate (s.laneAt e f.m j)))) ∧
    (∀ (e : Nat) (a : BitVec e) (ua ur uq : FpNumber) (fa : Flags) (F top ex : Nat), e = 16 ∨ e = 32 →
      (ua, fa) = fpUnpack fpStandard a → F = (if e = 16 then 10 else 23) → top = (if e = 16 then 31 else 255) →
        ex = a.toNat / 2 ^ F % (top + 1) → ur = (fpUnpack fpStandard (fpRecipEstimate a).1).1 →
          uq = (fpUnpack fpStandard (fpRecipSqrtEstimate a).1).1 →
            (ua.kind = .zero →
                fpRecipEstimate a = (infinityBits e ua.sign, flagDZC ||| fa) ∧
                  fpRecipSqrtEstimate a = (infinityBits e ua.sign, flagDZC ||| fa)) ∧
              (ua.isNaN = true →
                ∀ r ∈ [fpRecipEstimate a, fpRecipSqrtEstimate a],
                  r = (defaultNaNBits e, flagIf (ua.kind == .signallingNaN) flagIOC)) ∧
              (ua.kind = .infinity → fpRecipEstimate a = (signedBits e ua.sign 0, 0#32)) ∧
              (ua.kind = .nonzero → top - 2 ≤ ex → fpRecipEstimate a = (signedBits e ua.sign 0, flagUFC)) ∧
              (ua.kind = .nonzero → ex < top - 2 →
                (fpRecipEstimate a).2 = 0#32 ∧ ur.kind = .nonzero ∧ ur.sign = ua.sign ∧
                  (fpRecipEstimate a).1.toNat % 2 ^ (F - 8) = 0 ∧ NearOne (ua.m * ur.m) (ua.x + ur.x) 8) ∧
              (ua.kind = .infinity ∨ ua.kind = .nonzero → ua.sign = true →
                fpRecipSqrtEstimate a = (defaultNaNBits e, flagIOC)) ∧
              (ua.kind = .infinity → ua.sign = false → fpRecipSqrtEstimate a = (signedBits e false 0, 0#32)) ∧
              (ua.kind = .nonzero → ua.sign = false →
                (fpRecipSqrtEstimate a).2 = 0#32 ∧ uq.kind = .nonzero ∧ uq.sign = false ∧
                  (fpRecipSqrtEstimate a).1.toNat % 2 ^ (F - 8) = 0 ∧
                  NearOne (ua.m * uq.m ^ 2) (ua.x + 2 * uq.x) 7)) ∧
      ∀ (a r q : BitVec 32), r = unsignedRecipEstimate a → q = unsignedRecipSqrtEstimate a →
        (a.toNat < 2 ^ 31 → r = BitVec.allOnes 32) ∧
          (2 ^ 31 ≤ a.toNat → r.toNat % 2 ^ 23 = 0 ∧ NearOne (a.toNat * r.toNat) (-63) 8) ∧
          (a.toNat < 2 ^ 30 → q = BitVec.allOnes 32) ∧
          (2 ^ 30 ≤ a.toNat → q.toNat % 2 ^ 23 = 0 ∧ NearOne (a.toNat * q.toNat ^ 2) (-94) 7)

/-- Rounding to an integer gives the nearest integer of the direction that each row names: the result differs from the
exact value `m * 2^x` by less than one, by at most half for the two nearest roundings, and is not above (below) it
toward minus (plus) infinity; at a tie nearestEven gives the even integer and nearestAway the one further from zero; it
is the value itself exactly where no inexactness is reported (rules R234 to R245). A conversion gives that integer
brought into the range of the lane, with IOC where it is out of range and else IXC where it is inexact, and a rounding
row gives the number that is that integer (rules R234 to R248, R360; notes/assumptions/23.md). Zero stays zero, an
infinity gives the end of the range with IOC or stays, a NaN gives 0 with IOC or the default NaN with IOC where it is
signalling (PRESUMED, notes/assumptions/23.md). Rounding to a floating-point format gives the nearest value, ties to
even (rule R198). The spec marks these effects as general knowledge (PRESUMED, notes/assumptions/10.md). -/
def Obligations.RoundingDirections : Prop :=
  (∀ (sign : Bool) (m : Nat) (x : Int) (r : FpRounding) (i : Int) (inexact : Bool) (v scale : Int),
      fpToInt r sign m x = (i, inexact) → scale = 2 ^ (-x).toNat →
        v = (if sign then -(m : Int) else m) * 2 ^ x.toNat →
          (inexact = false ↔ i * scale = v) ∧ (i * scale - v).natAbs < scale.natAbs ∧
            (r = .minusInfinity → i * scale ≤ v) ∧ (r = .plusInfinity → v ≤ i * scale) ∧
            (r = .towardZero → (i * scale).natAbs ≤ v.natAbs) ∧
            (r = .nearestEven ∨ r = .nearestAway → 2 * (i * scale - v).natAbs ≤ scale.natAbs) ∧
            (2 * (i * scale - v).natAbs = scale.natAbs →
              (r = .nearestEven → i % 2 = 0) ∧ (r = .nearestAway → v.natAbs < (i * scale).natAbs))) ∧
    (∀ (e : Nat) (fmt : FpFormat) (sign : Bool) (m : Nat) (x : Int), e = 16 ∨ e = 32 → 0 < m →
      RoundsTo fmt sign m x (fpRound e fmt sign m x)) ∧
      ∀ (e : Nat) (a : BitVec e) (ua ur : FpNumber) (fa : Flags) (r : FpRounding) (U exact : Bool) (fbits : Nat) (i : Int)
          (inexact : Bool), e = 16 ∨ e = 32 → (ua, fa) = fpUnpack fpStandard a →
        (ua.kind = .nonzero → fpToInt r ua.sign ua.m (ua.x + fbits) = (i, inexact) →
            laneInt U (fpToFixed r U fbits a).1 = clamp e U i ∧
              (fpToFixed r U fbits a).2 =
                flagIf (decide (i < satMin e U ∨ satMax e U < i)) flagIOC |||
                  flagIf (inexact && decide (satMin e U ≤ i ∧ i ≤ satMax e U)) flagIXC) ∧
          (ua.kind = .nonzero → fpToInt r ua.sign ua.m ua.x = (i, inexact) →
              ur = (fpUnpack fpStandard (fpRoundInt r exact a).1).1 →
            (i = 0 → (fpRoundInt r exact a).1 = signedBits e ua.sign 0) ∧
              (i ≠ 0 → ur.kind = .nonzero ∧ ur.inUnits (min ur.x 0) = i * 2 ^ (-min ur.x 0).toNat) ∧
              (fpRoundInt r exact a).2 = flagIf (exact && inexact) flagIXC) ∧
          (ua.kind = .zero →
            fpToFixed r U fbits a = (0, fa) ∧ fpRoundInt r exact a = (signedBits e ua.sign 0, fa)) ∧
          (ua.kind = .infinity →
            laneInt U (fpToFixed r U fbits a).1 = (if ua.sign then satMin e U else satMax e U) ∧
              (fpToFixed r U fbits a).2 = flagIOC ∧ fpRoundInt r exact a = (infinityBits e ua.sign, 0#32)) ∧
          (ua.isNaN = true →
            fpToFixed r U fbits a = (0, flagIOC) ∧
              fpRoundInt r exact a = (defaultNaNBits e, flagIf (ua.kind == .signallingNaN) flagIOC))

/-- The conversions between precisions, whose half-precision side is the alternative format where FPSCR bit 26 is 1,
and those between floating-point and fixed-point with 64 less imm6 fraction bits (rules R238, R240, R265, R360, R375;
notes/assumptions/16.md). To half precision and from fixed point a value is rounded once to nearest even (rule R198),
to fixed point toward zero, which no rule names (PRESUMED, notes/assumptions/23.md); that opc<0> = 1 is to fixed point
and opc<1> = 0 half precision is PRESUMED (notes/assumptions/29.md); from half precision every number, a subnormal too,
keeps its value. The spec marks these effects as general knowledge (PRESUMED, notes/assumptions/10.md). -/
def Obligations.FormatConversions : Prop :=
  (∀ (f : FTwoRegMisc) (s : State), s.SimdReady → f.size = 0b01#2 →
      (f.m % 2 = 0 →
          GivesFlaggedLanes (.vcvtSpToHp f) s fpFlags 16 f.d 1
            (fun j => fpToHalf (s.fpscr.getLsbD 26) (s.laneAt 32 f.m j))) ∧
        (f.d % 2 = 0 →
          GivesFlaggedLanes (.vcvtHpToSp f) s fpFlags 32 f.d 2
            (fun j => fpFromHalf (s.fpscr.getLsbD 26) (s.laneAt 16 f.m j)))) ∧
    (∀ (f : FTwoRegShift) (s : State) (e : Nat), s.SimdReady → EvenFor f.Q [f.d, f.m] → f.L = 0#1 →
        e = (if f.opc.getLsbD 1 then 32 else 16) → 64 - f.imm6 ≤ e → (e = 16 → s.params.haveFp16 = true) →
          GivesFlaggedLanes (.vcvtFpFixedAsimd f) s fpFlags e f.d (regCount f.Q)
            (fun j =>
              if f.opc.getLsbD 0 then fpToFixed .towardZero (isSet f.U) (64 - f.imm6) (s.laneAt e f.m j)
              else fpFromFixed (isSet f.U) (64 - f.imm6) (s.laneAt e f.m j))) ∧
      (∀ (ahp : Bool) (a : BitVec 32) (ua : FpNumber), ua = (fpUnpack fpStandard a).1 →
        (ua.kind = .zero → (fpToHalf ahp a).1 = signedBits 16 ua.sign 0) ∧
          (ua.kind = .nonzero → RoundsTo (fpHalfConvert ahp) ua.sign ua.m ua.x (fpToHalf ahp a)) ∧
          (ua.kind = .infinity →
            fpToHalf ahp a =
              if ahp then (signedBits 16 ua.sign 0x7FFF, flagIOC) else (signedBits 16 ua.sign 0x7C00, 0#32)) ∧
          (ua.isNaN = true →
            (fpToHalf ahp a).1 = (if ahp then signedBits 16 ua.sign 0 else 0x7E00#16) ∧
              ((fpToHalf ahp a).2.getLsbD 0 = true ↔ ahp = true ∨ ua.kind = .signallingNaN))) ∧
        (∀ (ahp : Bool) (a : BitVec 16) (ex fr : Nat) (ur : FpNumber), ex = a.toNat / 2 ^ 10 % 32 → fr = a.toNat % 2 ^ 10 →
          ur = (fpUnpack fpStandard (fpFromHalf ahp a).1).1 →
            (ex < 31 ∨ ahp = true → (fpFromHalf ahp a).2 = 0#32 ∧ ur.sign = a.msb ∧
                (ur.kind = .zero ∨ ur.kind = .nonzero) ∧
                ur.m * 2 ^ (ur.x + 149).toNat = if ex = 0 then fr * 2 ^ 125 else (2 ^ 10 + fr) * 2 ^ (ex + 124)) ∧
              (ex = 31 → ahp = false →
                (fpFromHalf ahp a).1 = (if fr = 0 then infinityBits 32 a.msb else defaultNaNBits 32) ∧
                  ((fpFromHalf ahp a).2.getLsbD 0 = true ↔ fr ≠ 0 ∧ a.getLsbD 9 = false))) ∧
          ∀ (e : Nat) (U : Bool) (fbits : Nat) (a : BitVec e) (i : Int), e = 16 ∨ e = 32 → i = laneInt U a →
            (i = 0 → fpFromFixed U fbits a = (signedBits e false 0, 0#32)) ∧
              (i ≠ 0 → RoundsTo fpStandard (decide (i < 0)) i.natAbs (-(fbits : Int)) (fpFromFixed U fbits a))

/-- VDUP (scalar) copies one lane of Dm, at the width and index that imm4 gives, to every lane of the destination
(rules R256, R265). The spec marks these effects as general knowledge (PRESUMED, notes/assumptions/10.md). -/
def Obligations.DuplicatesOneLane : Prop :=
  ∀ (f : FDup) (s : State), s.SimdReady → EvenFor f.Q [f.d] →
    (f.imm4.getLsbD 0 = true →
        GivesLanes (.vdupScalar f) s 8 f.d (regCount f.Q) (fun _ => s.laneAt 8 f.m (f.imm4.extractLsb' 1 3).toNat)) ∧
      (f.imm4.extractLsb' 0 2 = 0b10#2 →
        GivesLanes (.vdupScalar f) s 16 f.d (regCount f.Q)
          (fun _ => s.laneAt 16 f.m (f.imm4.extractLsb' 2 2).toNat)) ∧
      (f.imm4.extractLsb' 0 3 = 0b100#3 →
        GivesLanes (.vdupScalar f) s 32 f.d (regCount f.Q)
          (fun _ => s.laneAt 32 f.m (f.imm4.extractLsb' 3 1).toNat))

/-! ## Different lengths and by scalar -/

/-- The long rows read two doublewords, or a doubleword and a scalar, and the wide rows a quadword and a doubleword;
they write a quadword of lanes twice as wide, modulo 2^(2*esize), unsigned where U (w[24] by scalar) is 1 (rules R281
to R283, R285, R288, R291 to R293, R296, R303, R307, R309, R320). The spec marks these effects as general knowledge
(PRESUMED, notes/assumptions/10.md). -/
def Obligations.LongAndWideArithmetic : Prop :=
  (∀ (f : FThreeDiff) (s : State) (e : Nat) (acc a b : Nat → Int), s.SimdReady → f.d % 2 = 0 → e = esize f.size →
      f.size ≠ 0b11#2 →
      (acc = fun j => ((s.laneAt (2 * e) f.d j).toNat : Int)) → (a = fun j => laneInt (isSet f.U) (s.laneAt e f.n j)) →
        (b = fun j => laneInt (isSet f.U) (s.laneAt e f.m j)) →
          (∀ p ∈ [(Instr.vaddl f, fun j => a j + b j), (.vsubl f, fun j => a j - b j),
                (.vabdlInt f, fun j => ((a j - b j).natAbs : Int)), (.vabal f, fun j => acc j + (a j - b j).natAbs),
                (.vmlalInt f, fun j => acc j + a j * b j), (.vmlslInt f, fun j => acc j - a j * b j)],
              GivesLanes p.1 s (2 * e) f.d 2 (fun j => BitVec.ofInt (2 * e) (p.2 j))) ∧
            (f.opc.getLsbD 1 = false →
              GivesLanes (.vmullIntPoly f) s (2 * e) f.d 2 (fun j => BitVec.ofInt (2 * e) (a j * b j))) ∧
            (f.n % 2 = 0 →
              GivesLanes (.vaddw f) s (2 * e) f.d 2
                  (fun j => BitVec.ofInt (2 * e) ((s.laneAt (2 * e) f.n j).toNat + b j)) ∧
                GivesLanes (.vsubw f) s (2 * e) f.d 2
                  (fun j => BitVec.ofInt (2 * e) ((s.laneAt (2 * e) f.n j).toNat - b j)))) ∧
    ∀ (f : FTwoRegScalar) (s : State) (e : Nat) (acc a : Nat → Int) (b : Int), s.SimdReady → f.d % 2 = 0 →
      f.size = 0b01#2 ∨ f.size = 0b10#2 → e = esize f.size →
        (acc = fun j => ((s.laneAt (2 * e) f.d j).toNat : Int)) →
          (a = fun j => laneInt (isSet f.Q) (s.laneAt e f.n j)) → b = laneInt (isSet f.Q) (scalarOf f e s) →
            ∀ p ∈ [(Instr.vmlalScalar f, fun j => acc j + a j * b), (.vmlslScalar f, fun j => acc j - a j * b),
                (.vmullScalar f, fun j => a j * b)],
              GivesLanes p.1 s (2 * e) f.d 2 (fun j => BitVec.ofInt (2 * e) (p.2 j))

/-- The long doubling rows on signed lanes of 16 or 32 bits: VQDMULL saturates twice the product, VQDMLAL and VQDMLSL
add it to or subtract it from the destination and saturate again, and QC is set where either saturates (rules R287,
R289, R290, R302, R304, R306, R320). The spec marks these effects as general knowledge (PRESUMED,
notes/assumptions/10.md). -/
def Obligations.LongDoublingMultiplies : Prop :=
  (∀ (f : FThreeDiff) (s : State) (e : Nat) (acc p : Nat → Int), s.SimdReady → f.d % 2 = 0 →
      f.size = 0b01#2 ∨ f.size = 0b10#2 → e = esize f.size → (acc = fun j => (s.laneAt (2 * e) f.d j).toInt) →
        (p = fun j => 2 * ((s.laneAt e f.n j).toInt * (s.laneAt e f.m j).toInt)) →
          GivesLongDoubling s e f.d acc p (.vqdmull3diff f) (.vqdmlal3diff f) (.vqdmlsl3diff f)) ∧
    ∀ (f : FTwoRegScalar) (s : State) (e : Nat) (acc p : Nat → Int), s.SimdReady → f.d % 2 = 0 →
      f.size = 0b01#2 ∨ f.size = 0b10#2 → e = esize f.size → (acc = fun j => (s.laneAt (2 * e) f.d j).toInt) →
        (p = fun j => 2 * ((s.laneAt e f.n j).toInt * (scalarOf f e s).toInt)) →
          GivesLongDoubling s e f.d acc p (.vqdmullScalar f) (.vqdmlalScalar f) (.vqdmlslScalar f)

/-- The rows that keep the high half of each lane of the sum or difference of two quadwords, the R forms after adding
half a unit of what is kept (rules R284, R286, R294, R295, R320). The spec marks these effects as general knowledge
(PRESUMED, notes/assumptions/10.md). -/
def Obligations.HighHalfNarrowing : Prop :=
  ∀ (f : FThreeDiff) (s : State) (e : Nat) (a b : Nat → Int), s.SimdReady → f.n % 2 = 0 → f.m % 2 = 0 →
    f.size ≠ 0b11#2 → e = esize f.size → (a = fun j => ((s.laneAt (2 * e) f.n j).toNat : Int)) →
      (b = fun j => ((s.laneAt (2 * e) f.m j).toNat : Int)) →
        GivesLanes (.vaddhn f) s e f.d 1 (fun j => BitVec.ofInt e ((a j + b j) / 2 ^ e)) ∧
          GivesLanes (.vsubhn f) s e f.d 1 (fun j => BitVec.ofInt e ((a j - b j) / 2 ^ e)) ∧
          GivesLanes (.vraddhn f) s e f.d 1 (fun j => BitVec.ofInt e ((a j + b j + 2 ^ (e - 1)) / 2 ^ e)) ∧
          GivesLanes (.vrsubhn f) s e f.d 1 (fun j => BitVec.ofInt e ((a j - b j + 2 ^ (e - 1)) / 2 ^ e))

/-- VMLA, VMLS and VMUL by scalar: integer lanes modulo 2^esize where opc<0> = 0, else floating-point lanes, the
16-bit ones with P6. The scalar is lane M:Vm<3> of register Vm<2:0> for 16-bit lanes and lane M of register Vm for
32-bit lanes (rules R301, R305, R308, R320). The spec marks these effects as general knowledge (PRESUMED,
notes/assumptions/10.md). -/
def Obligations.MultipliesByScalar : Prop :=
  ∀ (f : FTwoRegScalar) (s : State) (e : Nat) (acc a : Nat → BitVec e) (b : BitVec e), s.SimdReady →
    EvenFor f.Q [f.d, f.n] → e = esize f.size → acc = s.laneAt e f.d → a = s.laneAt e f.n →
      (f.size = 0b01#2 ∧ b = s.laneAt e (f.Vm.extractLsb' 0 3).toNat (f.M ++ f.Vm.extractLsb' 3 1).toNat) ∨
          (f.size = 0b10#2 ∧ b = s.laneAt e f.Vm.toNat f.M.toNat) →
        (f.opc.getLsbD 0 = false →
            GivesLanes (.vmlaScalar f) s e f.d (regCount f.Q)
                (fun j => BitVec.ofInt e ((acc j).toNat + (a j).toNat * b.toNat)) ∧
              GivesLanes (.vmlsScalar f) s e f.d (regCount f.Q)
                (fun j => BitVec.ofInt e ((acc j).toNat - (a j).toNat * b.toNat)) ∧
              GivesLanes (.vmulScalar f) s e f.d (regCount f.Q)
                (fun j => BitVec.ofInt e ((a j).toNat * b.toNat))) ∧
          (f.opc.getLsbD 0 = true → (f.size = 0b01#2 → s.params.haveFp16 = true) →
            GivesFlaggedLanes (.vmlaScalar f) s fpFlags e f.d (regCount f.Q)
                (fun j => fpMulThenAdd false (acc j) (a j) b) ∧
              GivesFlaggedLanes (.vmlsScalar f) s fpFlags e f.d (regCount f.Q)
                (fun j => fpMulThenAdd true (acc j) (a j) b) ∧
              GivesFlaggedLanes (.vmulScalar f) s fpFlags e f.d (regCount f.Q) (fun j => fpMul (a j) b))

/-! ## Immediates -/

/-- The modified immediate rows write each doubleword of the destination from the expanded constant: VMOV the
constant, VMVN its complement, VORR and VBIC the destination with the constant's bits set and cleared (rules R331 to
R341, R375). The spec marks these effects as general knowledge (PRESUMED, notes/assumptions/10.md). -/
def Obligations.ModifiedImmediates : Prop :=
  ∀ (f : FOneRegImm) (s : State) (c : DWord), s.SimdReady → EvenFor f.Q [f.d] →
    c = expandImm f.cmode f.op (f.i ++ f.imm3 ++ f.imm4) →
      ∀ p ∈ [(Instr.vmovImmA1 f, fun (_ : DWord) => c), (.vmovImmA3 f, fun _ => c), (.vmovImmA4 f, fun _ => c),
          (.vmovImmA5 f, fun _ => c), (.vmvnImmA1 f, fun _ => ~~~c), (.vmvnImmA2 f, fun _ => ~~~c),
          (.vmvnImmA3 f, fun _ => ~~~c), (.vorrImmA1 f, fun d => d ||| c), (.vorrImmA2 f, fun d => d ||| c),
          (.vbicImmA1 f, fun d => d &&& ~~~c), (.vbicImmA2 f, fun d => d &&& ~~~c)],
        Completes p.1 s fun t =>
          VectorFrame 0#32 (Regs f.d (regCount f.Q)) s t ∧
            ∀ k, k < regCount f.Q → t.readD (f.d + k) = p.2 (s.readD (f.d + k))

/-- The expanded constant of rule R375, lane by lane, for every cmode and op. The spec marks these effects as general
knowledge (PRESUMED, notes/assumptions/10.md). -/
def Obligations.ModifiedImmediateTable : Prop :=
  ∀ (cmode : BitVec 4) (op : BitVec 1) (x : BitVec 8) (c : DWord), c = expandImm cmode op x →
    (cmode.getLsbD 3 = false → ∀ k, k < 2 → lane 32 c k = x.setWidth 32 <<< (8 * (cmode.toNat / 2))) ∧
      (cmode = 0b1000#4 ∨ cmode = 0b1001#4 → ∀ k, k < 4 → lane 16 c k = x.setWidth 16) ∧
      (cmode = 0b1010#4 ∨ cmode = 0b1011#4 → ∀ k, k < 4 → lane 16 c k = x.setWidth 16 <<< 8) ∧
      (cmode = 0b1100#4 → ∀ k, k < 2 → lane 32 c k = x.setWidth 32 <<< 8 ||| 0xFF#32) ∧
      (cmode = 0b1101#4 → ∀ k, k < 2 → lane 32 c k = x.setWidth 32 <<< 16 ||| 0xFFFF#32) ∧
      (cmode = 0b1110#4 → op = 0#1 → ∀ k, k < 8 → lane 8 c k = x) ∧
      (cmode = 0b1110#4 → op = 1#1 → ∀ k, k < 8 → lane 8 c k = if x.getLsbD k then 0xFF#8 else 0x00#8) ∧
      (cmode = 0b1111#4 → op = 0#1 → ∀ k, k < 2 →
        lane 32 c k =
          BitVec.ofBool (x.getLsbD 7) ++ BitVec.ofBool (!x.getLsbD 6) ++ BitVec.ofBool (x.getLsbD 6) ++
            BitVec.ofBool (x.getLsbD 6) ++ BitVec.ofBool (x.getLsbD 6) ++ BitVec.ofBool (x.getLsbD 6) ++
            BitVec.ofBool (x.getLsbD 6) ++ x.extractLsb' 0 6 ++ 0#19)

/-- The shifts by an immediate, on the lane width of the leading one of L:imm6: right by 2*esize - imm6 (64 - imm6
where L = 1), with half a unit added first in the rounding forms, left by imm6 - esize (imm6 where L = 1); VSRI and
VSLI keep the bits of the destination that nothing is shifted into (rules R351, R352, R354, R355, R361, R364, R365,
R375). The spec marks these effects as general knowledge (PRESUMED, notes/assumptions/10.md). -/
def Obligations.ShiftsByImmediate : Prop :=
  ∀ (f : FTwoRegShift) (s : State) (e right left : Nat) (x acc : Nat → Int), s.SimdReady → EvenFor f.Q [f.d, f.m] →
    (f.L = 1#1 ∧ e = 64 ∧ right = 64 - f.imm6 ∧ left = f.imm6) ∨
        (f.L = 0#1 ∧ 8 ≤ f.imm6 ∧ e = 8 * 2 ^ Nat.log2 (f.imm6 / 8) ∧ right = 2 * e - f.imm6 ∧ left = f.imm6 - e) →
      (x = fun j => laneInt (isSet f.U) (s.laneAt e f.m j)) → (acc = fun j => ((s.laneAt e f.d j).toNat : Int)) →
        GivesLanes (.vshr f) s e f.d (regCount f.Q) (fun j => BitVec.ofInt e (x j / 2 ^ right)) ∧
          GivesLanes (.vsra f) s e f.d (regCount f.Q) (fun j => BitVec.ofInt e (acc j + x j / 2 ^ right)) ∧
          GivesLanes (.vrshr f) s e f.d (regCount f.Q)
            (fun j => BitVec.ofInt e ((x j + 2 ^ (right - 1)) / 2 ^ right)) ∧
          GivesLanes (.vrsra f) s e f.d (regCount f.Q)
            (fun j => BitVec.ofInt e (acc j + (x j + 2 ^ (right - 1)) / 2 ^ right)) ∧
          GivesLanes (.vshlImm f) s e f.d (regCount f.Q) (fun j => BitVec.ofInt e (x j * 2 ^ left)) ∧
          (Completes (.vsri f) s fun t =>
            VectorFrame 0#32 (Regs f.d (regCount f.Q)) s t ∧
              ∀ j, j < regCount f.Q * (64 / e) → ∀ b, b < e →
                (t.laneAt e f.d j).getLsbD b =
                  if b + right < e then (s.laneAt e f.m j).getLsbD (b + right) else (s.laneAt e f.d j).getLsbD b) ∧
          Completes (.vsli f) s fun t =>
            VectorFrame 0#32 (Regs f.d (regCount f.Q)) s t ∧
              ∀ j, j < regCount f.Q * (64 / e) → ∀ b, b < e →
                (t.laneAt e f.d j).getLsbD b =
                  if b < left then (s.laneAt e f.d j).getLsbD b else (s.laneAt e f.m j).getLsbD (b - left)

/-- The saturating shifts by an immediate: VQSHL in the range that U selects, VQSHLU of a signed lane to the unsigned
range; and the narrowing shifts of a quadword right by 2*esize - imm6, whose VQ forms saturate (rules R356 to R358,
R362, R363, R366 to R368, R375). The spec marks these effects as general knowledge (PRESUMED,
notes/assumptions/10.md). -/
def Obligations.SaturatingAndNarrowingShifts : Prop :=
  (∀ (f : FTwoRegShift) (s : State) (e : Nat) (U : Bool) (u i : Nat → Int), s.SimdReady → EvenFor f.Q [f.d, f.m] →
      e = f.esize → U = isSet f.U → (u = fun j => laneInt U (s.laneAt e f.m j) * 2 ^ f.left) →
        (i = fun j => (s.laneAt e f.m j).toInt * 2 ^ f.left) →
          GivesSaturated (.vqshlImm f) s e f.d (regCount f.Q) U (fun j => clamp e U (u j))
              (fun j => OutOfRange e U (u j)) ∧
            GivesSaturated (.vqshluImm f) s e f.d (regCount f.Q) true (fun j => clamp e true (i j))
              (fun j => OutOfRange e true (i j))) ∧
    ∀ (f : FTwoRegShift) (s : State) (e sh : Nat) (U : Bool) (x : Nat → BitVec (2 * e)), s.SimdReady → f.m % 2 = 0 →
      f.L = 0#1 → e = f.esize → sh = 2 * e - f.imm6 → U = isSet f.U → x = s.laneAt (2 * e) f.m →
        GivesLanes (.vshrn f) s e f.d 1 (fun j => (x j >>> sh).setWidth e) ∧
          GivesLanes (.vrshrn f) s e f.d 1 (fun j => BitVec.ofInt e (((x j).toNat + 2 ^ (sh - 1)) / 2 ^ sh)) ∧
          ∀ p ∈ [(Instr.vqshrn f, U, fun j => laneInt U (x j) / 2 ^ sh),
              (.vqrshrn f, U, fun j => (laneInt U (x j) + 2 ^ (sh - 1)) / 2 ^ sh),
              (.vqshrun f, true, fun j => (x j).toInt / 2 ^ sh),
              (.vqrshrun f, true, fun j => ((x j).toInt + 2 ^ (sh - 1)) / 2 ^ sh)],
            GivesSaturated p.1 s e f.d 1 p.2.1 (fun j => clamp e p.2.1 (p.2.2 j))
              (fun j => OutOfRange e p.2.1 (p.2.2 j))

/-! ## Loads and stores -/

/-- VLD1 to VLD4 (multiple structures): structures of `n` elements, de-interleaved across `n` registers `inc` apart,
for `regs` registers of each element, from R[Rn] up; no other register but Rn, and no byte of memory, changes (rules
R421, R425; what rule R25 permits and rule R42 aligns). The sizes and alignments are PRESUMED, and where the list goes
past D31 free values are left, a DESIGN CHOICE (notes/assumptions/20.md); a transfer past 0xFFFFFFFF goes on at address
0, a DESIGN CHOICE (notes/assumptions/9.md); an updated base wraps modulo 2^32, PRESUMED (notes/assumptions/30.md);
every address can be read, DEDUCED (notes/assumptions/25.md). The spec marks these effects as general knowledge
(PRESUMED, notes/assumptions/10.md). -/
def Obligations.LoadsOfMultipleStructures : Prop :=
  ∀ (f : FLdStMult) (s : State) (e n regs inc asked : Nat) (base : Word), s.SimdReady → f.L = 1#1 → f.Rn ≠ 15#4 →
    MultForm f e n regs inc asked → base = s.readReg f.Rn → base.toNat % alignment s e asked = 0 →
      s.MayAccess base (n * regs * 8) →
        Completes (.asimdLdstMult f) s fun t =>
          LoadFrame f.Rn f.Rm (n * regs * 8) (f.d + (regs - 1) + (n - 1) * inc)
              (fun k => ∃ r q, r < regs ∧ q < n ∧ k = f.d + r + q * inc) s t ∧
            ∀ r i q, r < regs → i < 64 / e → q < n → f.d + r + q * inc < 32 →
              lane e (t.readD (f.d + r + q * inc)) i =
                s.readElem e (base + BitVec.ofNat 32 (((r * (64 / e) + i) * n + q) * (e / 8)))

/-- VLD1 to VLD4 (single structure). To all lanes: element `q` goes to every lane of its register, or of its two
registers for VLD1 with T = 1; elements have 8 << size bits, those of VLD4 with size = 11 too. To one lane: element `q`
goes to one lane of register d + q * spacing, and the other lanes of those registers keep their values (rules R422,
R423, R425; what rule R25 permits and rule R42 aligns). The sizes a member has, alignments and spacings are PRESUMED,
and where the list goes past D31 free values are left, a DESIGN CHOICE (notes/assumptions/20.md); a transfer past
0xFFFFFFFF goes on at address 0, a DESIGN CHOICE (notes/assumptions/9.md); an updated base wraps modulo 2^32, PRESUMED
(notes/assumptions/30.md); every address can be read, DEDUCED (notes/assumptions/25.md). The spec marks these effects
as general knowledge (PRESUMED, notes/assumptions/10.md). -/
def Obligations.LoadsOfASingleStructure : Prop :=
  (∀ (f : FLdStAll) (s : State) (e n regs inc asked : Nat) (base : Word), s.SimdReady → f.Rn ≠ 15#4 →
      AllForm f e n regs inc asked → base = s.readReg f.Rn → base.toNat % alignment s e asked = 0 →
        s.MayAccess base (n * (e / 8)) →
          Completes (.asimdLdAll f) s fun t =>
            LoadFrame f.Rn f.Rm (n * (e / 8)) (f.d + (regs - 1) + (n - 1) * inc)
                (fun k => ∃ r q, r < regs ∧ q < n ∧ k = f.d + r + q * inc) s t ∧
              ∀ r q i, r < regs → q < n → i < 64 / e → f.d + r + q * inc < 32 →
                lane e (t.readD (f.d + r + q * inc)) i = s.readElem e (base + BitVec.ofNat 32 (q * (e / 8)))) ∧
    ∀ (f : FLdStOne) (s : State) (e n index inc asked : Nat) (base : Word), s.SimdReady → f.L = 1#1 → f.Rn ≠ 15#4 →
      OneForm f e n index inc asked → base = s.readReg f.Rn → base.toNat % alignment s e asked = 0 →
        s.MayAccess base (n * (e / 8)) →
          Completes (.asimdLdstOne f) s fun t =>
            LoadFrame f.Rn f.Rm (n * (e / 8)) (f.d + (n - 1) * inc) (fun k => ∃ q, q < n ∧ k = f.d + q * inc) s t ∧
              ∀ q i, q < n → i < 64 / e → f.d + q * inc < 32 →
                lane e (t.readD (f.d + q * inc)) i =
                  if i = index then s.readElem e (base + BitVec.ofNat 32 (q * (e / 8)))
                  else lane e (s.readD (f.d + q * inc)) i

/-- VST1 to VST4 (multiple structures and one lane): the elements stand in memory from R[Rn] up in the order the loads
read them, every byte outside them keeps its value and no vector register changes (rules R421, R423, R425; what rule
R25 permits and rule R42 aligns). Memory is in canonical form, which every step keeps. The sizes and alignments are
PRESUMED, and the element of a register past D31 is a free value, a DESIGN CHOICE (notes/assumptions/20.md); a transfer
past 0xFFFFFFFF goes on at address 0, a DESIGN CHOICE (notes/assumptions/9.md); an updated base wraps modulo 2^32,
PRESUMED (notes/assumptions/30.md); every address can be written, DEDUCED (notes/assumptions/25.md), and a store keeps
the reservation, DEDUCED (notes/assumptions/26.md). The spec marks these effects as general knowledge (PRESUMED,
notes/assumptions/10.md). -/
def Obligations.StoresOfStructures : Prop :=
  (∀ (f : FLdStMult) (s : State) (e n regs inc asked : Nat) (base : Word), s.SimdReady → Memory.wf s.mem = true →
      f.L = 0#1 → f.Rn ≠ 15#4 → MultForm f e n regs inc asked → base = s.readReg f.Rn →
        base.toNat % alignment s e asked = 0 → s.MayAccess base (n * regs * 8) →
          Completes (.asimdLdstMult f) s fun t =>
            StoreFrame f.Rn f.Rm (n * regs * 8) (f.d + (regs - 1) + (n - 1) * inc) base s t ∧
              ∀ r i q, r < regs → i < 64 / e → q < n →
                t.readElem e (base + BitVec.ofNat 32 (((r * (64 / e) + i) * n + q) * (e / 8))) =
                  lane e (storedD s (f.d + r + q * inc)) i) ∧
    ∀ (f : FLdStOne) (s : State) (e n index inc asked : Nat) (base : Word), s.SimdReady → Memory.wf s.mem = true →
      f.L = 0#1 → f.Rn ≠ 15#4 → OneForm f e n index inc asked → base = s.readReg f.Rn →
        base.toNat % alignment s e asked = 0 → s.MayAccess base (n * (e / 8)) →
          Completes (.asimdLdstOne f) s fun t =>
            StoreFrame f.Rn f.Rm (n * (e / 8)) (f.d + (n - 1) * inc) base s t ∧
              ∀ q, q < n →
                t.readElem e (base + BitVec.ofNat 32 (q * (e / 8))) = lane e (storedD s (f.d + q * inc)) index

/-- Where a load or store stops: a word that has none of the forms of rule R425 (an unallocated type, a size or
alignment its member does not have, L = 0 to all lanes) is UNDEFINED; in a form, Rn = 1111 is UNPREDICTABLE, a disabled
unit makes it UNDEFINED, an address that is not aligned as asked is an Alignment fault, and a byte that PSTATE.PAN or
User mode closes is a permission fault (rules R25, R27, R42, R425; 93_implementation_defined.md U9; the sizes,
alignments and the order are notes/assumptions/20.md, the closed regions notes/assumptions/25.md). The two Data Aborts
stop with the reason UndefinedInstruction, which names them, a DESIGN CHOICE (notes/assumptions/28.md). The spec marks
these effects as general knowledge (PRESUMED, notes/assumptions/10.md). -/
def Obligations.LoadsAndStoresStop : Prop :=
  ∀ (f : FLdStMult) (g : FLdStAll) (h : FLdStOne) (s : State),
    ((∀ e n regs inc asked, ¬MultForm f e n regs inc asked) → exec (.asimdLdstMult f) s = .fault .undefinedInstruction) ∧
      ((∀ e n regs inc asked, ¬AllForm g e n regs inc asked) → exec (.asimdLdAll g) s = .fault .undefinedInstruction) ∧
      ((∀ e n index inc asked, ¬OneForm h e n index inc asked) → exec (.asimdLdstOne h) s = .fault .undefinedInstruction) ∧
      (∀ e n regs inc asked, MultForm f e n regs inc asked →
        StopsInOrder (.asimdLdstMult f) s f.Rn (alignment s e asked) (n * regs * 8)) ∧
      (∀ e n regs inc asked, AllForm g e n regs inc asked →
        StopsInOrder (.asimdLdAll g) s g.Rn (alignment s e asked) (n * (e / 8))) ∧
      ∀ e n index inc asked, OneForm h e n index inc asked →
        StopsInOrder (.asimdLdstOne h) s h.Rn (alignment s e asked) (n * (e / 8))

/-! ## Forms that are UNDEFINED -/

/-- The forms of "three registers of the same length" that are UNDEFINED: an odd register number with Q = 1, 64-bit
lanes but in the rows that have them, and what each row excludes (rules R27, R196; beyond that
notes/assumptions/11.md). The spec marks these effects as general knowledge (PRESUMED, notes/assumptions/10.md). -/
def Obligations.UndefinedThreeSame : Prop :=
  ∀ (f : FThreeSame) (s : State),
    (¬EvenFor f.Q [f.d, f.n, f.m] →
        ∀ i ∈ threeSameVectors f, exec i s = .fault .undefinedInstruction) ∧
      (f.size = 0b11#2 → ∀ i ∈ threeSameNo64 f, exec i s = .fault .undefinedInstruction) ∧
      (f.size = 0b00#2 →
        ∀ i ∈ [Instr.vqdmulh3same f, .vqrdmulh3same f, .vqrdmlah3same f, .vqrdmlsh3same f],
          exec i s = .fault .undefinedInstruction) ∧
      (f.U = 1#1 → f.size ≠ 0b00#2 → exec (.vmulIntPoly f) s = .fault .undefinedInstruction) ∧
      (f.Q = 1#1 → ∀ i ∈ [Instr.vpaddInt f, .vpaddFp f], exec i s = .fault .undefinedInstruction) ∧
      (f.half = true → s.params.haveFp16 = false →
        ∀ i ∈ threeSameFloating f, exec i s = .fault .undefinedInstruction) ∧
      (f.Q = 0#1 ∨ f.d % 2 = 1 ∨ f.n % 2 = 1 ∨ f.m % 2 = 1 →
        ∀ i ∈ [Instr.sha1c f, .sha1p f, .sha1m f, .sha1su0 f, .sha256h f, .sha256h2 f, .sha256su1 f],
          exec i s = .fault .undefinedInstruction)

/-- The forms of the other Advanced SIMD tables that are UNDEFINED: odd numbers of quadwords, lane widths a row does
not have, and what each row excludes (rules R27, R265, R320, R375; beyond that notes/assumptions/11.md and 21.md). The
spec marks these effects as general knowledge (PRESUMED, notes/assumptions/10.md). -/
def Obligations.UndefinedOtherVectorForms : Prop :=
  (∀ (f : FTwoRegMisc) (g : FDup) (s : State),
      (¬EvenFor f.Q [f.d, f.m] → ∀ i ∈ miscVectors f, exec i s = .fault .undefinedInstruction) ∧
        (f.size = 0b11#2 → ∀ i ∈ miscNo64 f, exec i s = .fault .undefinedInstruction) ∧
        (f.size ≠ 0b00#2 →
          ∀ i ∈ [Instr.vcnt f, .vmvnReg f, .vrev16 f, .aese f, .aesd f, .aesmc f, .aesimc f],
            exec i s = .fault .undefinedInstruction) ∧
        (f.size = 0b10#2 → exec (.vrev32 f) s = .fault .undefinedInstruction) ∧
        (f.size ≠ 0b10#2 →
          ∀ i ∈ [Instr.sha1h f, .sha1su1 f, .sha256su0 f], exec i s = .fault .undefinedInstruction) ∧
        (f.size ≠ 0b01#2 → ∀ i ∈ [Instr.vcvtSpToHp f, .vcvtHpToSp f], exec i s = .fault .undefinedInstruction) ∧
        (f.size = 0b00#2 ∨ (f.size = 0b01#2 ∧ s.params.haveFp16 = false) →
          (∀ i ∈ miscFloating f, exec i s = .fault .undefinedInstruction) ∧
            (f.opc2.getLsbD 3 = true → ∀ i ∈ miscEither f, exec i s = .fault .undefinedInstruction)) ∧
        (f.opc2.getLsbD 1 = false → f.size ≠ 0b10#2 →
          ∀ i ∈ [Instr.vrecpe f, .vrsqrte f], exec i s = .fault .undefinedInstruction) ∧
        (f.Q = 0#1 → f.size = 0b10#2 → ∀ i ∈ [Instr.vuzp f, .vzip f], exec i s = .fault .undefinedInstruction) ∧
        (f.m % 2 = 1 →
          ∀ i ∈ [Instr.vmovn f, .vqmovun f, .vqmovn f, .vcvtSpToHp f, .aese f, .aesd f, .aesmc f, .aesimc f, .sha1h f,
              .sha1su1 f, .sha256su0 f], exec i s = .fault .undefinedInstruction) ∧
        (f.d % 2 = 1 →
          ∀ i ∈ [Instr.vshllMisc f, .vcvtHpToSp f, .aese f, .aesd f, .aesmc f, .aesimc f, .sha1h f, .sha1su1 f,
              .sha256su0 f], exec i s = .fault .undefinedInstruction) ∧
        (¬EvenFor g.Q [g.d] ∨ g.imm4.extractLsb' 0 3 = 0#3 → exec (.vdupScalar g) s = .fault .undefinedInstruction)) ∧
    (∀ (f : FThreeDiff) (s : State),
        (f.d % 2 = 1 → ∀ i ∈ longRows f ++ [.vaddw f, .vsubw f], exec i s = .fault .undefinedInstruction) ∧
          (f.n % 2 = 1 →
            ∀ i ∈ [Instr.vaddw f, .vsubw f, .vaddhn f, .vsubhn f, .vraddhn f, .vrsubhn f],
              exec i s = .fault .undefinedInstruction) ∧
          (f.m % 2 = 1 →
            ∀ i ∈ [Instr.vaddhn f, .vsubhn f, .vraddhn f, .vrsubhn f], exec i s = .fault .undefinedInstruction) ∧
          (f.size = 0b00#2 ∨ f.size = 0b11#2 →
            ∀ i ∈ [Instr.vqdmull3diff f, .vqdmlal3diff f, .vqdmlsl3diff f], exec i s = .fault .undefinedInstruction) ∧
          (f.opc.getLsbD 1 = true →
            f.U = 1#1 ∨ f.size = 0b01#2 → exec (.vmullIntPoly f) s = .fault .undefinedInstruction)) ∧
      (∀ (f : FTwoRegScalar) (s : State),
        (f.size = 0b00#2 → ∀ i ∈ scalarVectors f ++ scalarLong f, exec i s = .fault .undefinedInstruction) ∧
          (¬EvenFor f.Q [f.d, f.n] → ∀ i ∈ scalarVectors f, exec i s = .fault .undefinedInstruction) ∧
          (f.d % 2 = 1 → ∀ i ∈ scalarLong f, exec i s = .fault .undefinedInstruction) ∧
          (f.opc.getLsbD 0 = true → f.size = 0b01#2 → s.params.haveFp16 = false →
            ∀ i ∈ [Instr.vmlaScalar f, .vmlsScalar f, .vmulScalar f], exec i s = .fault .undefinedInstruction)) ∧
      (∀ (f : FOneRegImm) (s : State), ¬EvenFor f.Q [f.d] →
        ∀ i ∈ immediateRows f, exec i s = .fault .undefinedInstruction) ∧
      ∀ (f : FTwoRegShift) (s : State),
        (¬EvenFor f.Q [f.d, f.m] → ∀ i ∈ shiftVectors f, exec i s = .fault .undefinedInstruction) ∧
          (f.L = 1#1 →
            ∀ i ∈ shiftNarrow f ++ [.vshllImm f, .vmovl f, .vcvtFpFixedAsimd f],
              exec i s = .fault .undefinedInstruction) ∧
          (f.m % 2 = 1 → ∀ i ∈ shiftNarrow f, exec i s = .fault .undefinedInstruction) ∧
          (f.d % 2 = 1 → ∀ i ∈ [Instr.vshllImm f, .vmovl f], exec i s = .fault .undefinedInstruction) ∧
          (f.imm6 < 32 ∨ (f.opc.getLsbD 1 = false ∧ (f.imm6 < 48 ∨ s.params.haveFp16 = false)) →
            exec (.vcvtFpFixedAsimd f) s = .fault .undefinedInstruction)
end

