-- ==== Sys2Proof/Laws/Encoding.lean ====
section
/-! SUPPORT. The diagrams: reading back a record from its word, and the table that a word of each diagram reaches. -/

set_option linter.unusedSimpArgs false

namespace Sys2Proof

set_option Elab.async false

/-- The record of a word of this diagram is the record it was made of (rule R62). -/
@[simp] theorem FTop.ofWord_toWord (f : FTop) : FTop.ofWord f.toWord = f := by
  simp (disch := omega) only [FTop.ofWord, FTop.toWord, bits, BitVec.extractLsb'_append_eq_of_add_le,
    BitVec.extractLsb'_append_eq_of_le, Nat.sub_self, BitVec.extractLsb'_eq_self, Nat.reduceSub]

/-- A word of this diagram is in the space of rule R1. -/
theorem FTop.space (f : FTop) : bits f.toWord 27 5 = 0b11110#5 := by
  simp (disch := omega) only [FTop.toWord, bits, BitVec.extractLsb'_append_eq_of_add_le,
    BitVec.extractLsb'_append_eq_of_le, Nat.sub_self, BitVec.extractLsb'_eq_self, Nat.reduceSub]
  try rfl

/-- The record of a word of this diagram is the record it was made of (rule R63). -/
@[simp] theorem FMisc.ofWord_toWord (f : FMisc) : FMisc.ofWord f.toWord = f := by
  simp (disch := omega) only [FMisc.ofWord, FMisc.toWord, bits, BitVec.extractLsb'_append_eq_of_add_le,
    BitVec.extractLsb'_append_eq_of_le, Nat.sub_self, BitVec.extractLsb'_eq_self, Nat.reduceSub]

/-- A word of this diagram is in the space of rule R1. -/
theorem FMisc.space (f : FMisc) : bits f.toWord 27 5 = 0b11110#5 := by
  simp (disch := omega) only [FMisc.toWord, bits, BitVec.extractLsb'_append_eq_of_add_le,
    BitVec.extractLsb'_append_eq_of_le, Nat.sub_self, BitVec.extractLsb'_eq_self, Nat.reduceSub]
  try rfl

/-- The record of a word of this diagram is the record it was made of (rule R64). -/
@[simp] theorem FCps.ofWord_toWord (f : FCps) : FCps.ofWord f.toWord = f := by
  simp (disch := omega) only [FCps.ofWord, FCps.toWord, bits, BitVec.extractLsb'_append_eq_of_add_le,
    BitVec.extractLsb'_append_eq_of_le, Nat.sub_self, BitVec.extractLsb'_eq_self, Nat.reduceSub]

/-- A word of this diagram is in the space of rule R1. -/
theorem FCps.space (f : FCps) : bits f.toWord 27 5 = 0b11110#5 := by
  simp (disch := omega) only [FCps.toWord, bits, BitVec.extractLsb'_append_eq_of_add_le,
    BitVec.extractLsb'_append_eq_of_le, Nat.sub_self, BitVec.extractLsb'_eq_self, Nat.reduceSub]
  try rfl

/-- The record of a word of this diagram is the record it was made of (rule R66). -/
@[simp] theorem FThreeSame.ofWord_toWord (f : FThreeSame) : FThreeSame.ofWord f.toWord = f := by
  simp (disch := omega) only [FThreeSame.ofWord, FThreeSame.toWord, bits, BitVec.extractLsb'_append_eq_of_add_le,
    BitVec.extractLsb'_append_eq_of_le, Nat.sub_self, BitVec.extractLsb'_eq_self, Nat.reduceSub]

/-- A word of this diagram is in the space of rule R1. -/
theorem FThreeSame.space (f : FThreeSame) : bits f.toWord 27 5 = 0b11110#5 := by
  simp (disch := omega) only [FThreeSame.toWord, bits, BitVec.extractLsb'_append_eq_of_add_le,
    BitVec.extractLsb'_append_eq_of_le, Nat.sub_self, BitVec.extractLsb'_eq_self, Nat.reduceSub]
  try rfl

/-- The record of a word of this diagram is the record it was made of (rule R67). -/
@[simp] theorem FTwoRegThreeDiff.ofWord_toWord (f : FTwoRegThreeDiff) : FTwoRegThreeDiff.ofWord f.toWord = f := by
  simp (disch := omega) only [FTwoRegThreeDiff.ofWord, FTwoRegThreeDiff.toWord, bits, BitVec.extractLsb'_append_eq_of_add_le,
    BitVec.extractLsb'_append_eq_of_le, Nat.sub_self, BitVec.extractLsb'_eq_self, Nat.reduceSub]

/-- A word of this diagram is in the space of rule R1. -/
theorem FTwoRegThreeDiff.space (f : FTwoRegThreeDiff) : bits f.toWord 27 5 = 0b11110#5 := by
  simp (disch := omega) only [FTwoRegThreeDiff.toWord, bits, BitVec.extractLsb'_append_eq_of_add_le,
    BitVec.extractLsb'_append_eq_of_le, Nat.sub_self, BitVec.extractLsb'_eq_self, Nat.reduceSub]
  try rfl

/-- The record of a word of this diagram is the record it was made of (rule R68). -/
@[simp] theorem FTwoRegMisc.ofWord_toWord (f : FTwoRegMisc) : FTwoRegMisc.ofWord f.toWord = f := by
  simp (disch := omega) only [FTwoRegMisc.ofWord, FTwoRegMisc.toWord, bits, BitVec.extractLsb'_append_eq_of_add_le,
    BitVec.extractLsb'_append_eq_of_le, Nat.sub_self, BitVec.extractLsb'_eq_self, Nat.reduceSub]

/-- A word of this diagram is in the space of rule R1. -/
theorem FTwoRegMisc.space (f : FTwoRegMisc) : bits f.toWord 27 5 = 0b11110#5 := by
  simp (disch := omega) only [FTwoRegMisc.toWord, bits, BitVec.extractLsb'_append_eq_of_add_le,
    BitVec.extractLsb'_append_eq_of_le, Nat.sub_self, BitVec.extractLsb'_eq_self, Nat.reduceSub]
  try rfl

/-- The record of a word of this diagram is the record it was made of (rule R69). -/
@[simp] theorem FDup.ofWord_toWord (f : FDup) : FDup.ofWord f.toWord = f := by
  simp (disch := omega) only [FDup.ofWord, FDup.toWord, bits, BitVec.extractLsb'_append_eq_of_add_le,
    BitVec.extractLsb'_append_eq_of_le, Nat.sub_self, BitVec.extractLsb'_eq_self, Nat.reduceSub]

/-- A word of this diagram is in the space of rule R1. -/
theorem FDup.space (f : FDup) : bits f.toWord 27 5 = 0b11110#5 := by
  simp (disch := omega) only [FDup.toWord, bits, BitVec.extractLsb'_append_eq_of_add_le,
    BitVec.extractLsb'_append_eq_of_le, Nat.sub_self, BitVec.extractLsb'_eq_self, Nat.reduceSub]
  try rfl

/-- The record of a word of this diagram is the record it was made of (rule R70). -/
@[simp] theorem FThreeDiff.ofWord_toWord (f : FThreeDiff) : FThreeDiff.ofWord f.toWord = f := by
  simp (disch := omega) only [FThreeDiff.ofWord, FThreeDiff.toWord, bits, BitVec.extractLsb'_append_eq_of_add_le,
    BitVec.extractLsb'_append_eq_of_le, Nat.sub_self, BitVec.extractLsb'_eq_self, Nat.reduceSub]

/-- A word of this diagram is in the space of rule R1. -/
theorem FThreeDiff.space (f : FThreeDiff) : bits f.toWord 27 5 = 0b11110#5 := by
  simp (disch := omega) only [FThreeDiff.toWord, bits, BitVec.extractLsb'_append_eq_of_add_le,
    BitVec.extractLsb'_append_eq_of_le, Nat.sub_self, BitVec.extractLsb'_eq_self, Nat.reduceSub]
  try rfl

/-- The record of a word of this diagram is the record it was made of (rule R71). -/
@[simp] theorem FTwoRegScalar.ofWord_toWord (f : FTwoRegScalar) : FTwoRegScalar.ofWord f.toWord = f := by
  simp (disch := omega) only [FTwoRegScalar.ofWord, FTwoRegScalar.toWord, bits, BitVec.extractLsb'_append_eq_of_add_le,
    BitVec.extractLsb'_append_eq_of_le, Nat.sub_self, BitVec.extractLsb'_eq_self, Nat.reduceSub]

/-- A word of this diagram is in the space of rule R1. -/
theorem FTwoRegScalar.space (f : FTwoRegScalar) : bits f.toWord 27 5 = 0b11110#5 := by
  simp (disch := omega) only [FTwoRegScalar.toWord, bits, BitVec.extractLsb'_append_eq_of_add_le,
    BitVec.extractLsb'_append_eq_of_le, Nat.sub_self, BitVec.extractLsb'_eq_self, Nat.reduceSub]
  try rfl

/-- The record of a word of this diagram is the record it was made of (rule R73). -/
@[simp] theorem FOneRegImm.ofWord_toWord (f : FOneRegImm) : FOneRegImm.ofWord f.toWord = f := by
  simp (disch := omega) only [FOneRegImm.ofWord, FOneRegImm.toWord, bits, BitVec.extractLsb'_append_eq_of_add_le,
    BitVec.extractLsb'_append_eq_of_le, Nat.sub_self, BitVec.extractLsb'_eq_self, Nat.reduceSub]

/-- A word of this diagram is in the space of rule R1. -/
theorem FOneRegImm.space (f : FOneRegImm) : bits f.toWord 27 5 = 0b11110#5 := by
  simp (disch := omega) only [FOneRegImm.toWord, bits, BitVec.extractLsb'_append_eq_of_add_le,
    BitVec.extractLsb'_append_eq_of_le, Nat.sub_self, BitVec.extractLsb'_eq_self, Nat.reduceSub]
  try rfl

/-- The record of a word of this diagram is the record it was made of (rule R74). -/
@[simp] theorem FTwoRegShift.ofWord_toWord (f : FTwoRegShift) : FTwoRegShift.ofWord f.toWord = f := by
  simp (disch := omega) only [FTwoRegShift.ofWord, FTwoRegShift.toWord, bits, BitVec.extractLsb'_append_eq_of_add_le,
    BitVec.extractLsb'_append_eq_of_le, Nat.sub_self, BitVec.extractLsb'_eq_self, Nat.reduceSub]

/-- A word of this diagram is in the space of rule R1. -/
theorem FTwoRegShift.space (f : FTwoRegShift) : bits f.toWord 27 5 = 0b11110#5 := by
  simp (disch := omega) only [FTwoRegShift.toWord, bits, BitVec.extractLsb'_append_eq_of_add_le,
    BitVec.extractLsb'_append_eq_of_le, Nat.sub_self, BitVec.extractLsb'_eq_self, Nat.reduceSub]
  try rfl

/-- The record of a word of this diagram is the record it was made of (rule R75). -/
@[simp] theorem FMemHint.ofWord_toWord (f : FMemHint) : FMemHint.ofWord f.toWord = f := by
  simp (disch := omega) only [FMemHint.ofWord, FMemHint.toWord, bits, BitVec.extractLsb'_append_eq_of_add_le,
    BitVec.extractLsb'_append_eq_of_le, Nat.sub_self, BitVec.extractLsb'_eq_self, Nat.reduceSub]

/-- A word of this diagram is in the space of rule R1. -/
theorem FMemHint.space (f : FMemHint) : bits f.toWord 27 5 = 0b11110#5 := by
  simp (disch := omega) only [FMemHint.toWord, bits, BitVec.extractLsb'_append_eq_of_add_le,
    BitVec.extractLsb'_append_eq_of_le, Nat.sub_self, BitVec.extractLsb'_eq_self, Nat.reduceSub]
  try rfl

/-- The record of a word of this diagram is the record it was made of (rule R76). -/
@[simp] theorem FBarrier.ofWord_toWord (f : FBarrier) : FBarrier.ofWord f.toWord = f := by
  simp (disch := omega) only [FBarrier.ofWord, FBarrier.toWord, bits, BitVec.extractLsb'_append_eq_of_add_le,
    BitVec.extractLsb'_append_eq_of_le, Nat.sub_self, BitVec.extractLsb'_eq_self, Nat.reduceSub]

/-- A word of this diagram is in the space of rule R1. -/
theorem FBarrier.space (f : FBarrier) : bits f.toWord 27 5 = 0b11110#5 := by
  simp (disch := omega) only [FBarrier.toWord, bits, BitVec.extractLsb'_append_eq_of_add_le,
    BitVec.extractLsb'_append_eq_of_le, Nat.sub_self, BitVec.extractLsb'_eq_self, Nat.reduceSub]
  try rfl

/-- The record of a word of this diagram is the record it was made of (rule R77). -/
@[simp] theorem FPldImm.ofWord_toWord (f : FPldImm) : FPldImm.ofWord f.toWord = f := by
  simp (disch := omega) only [FPldImm.ofWord, FPldImm.toWord, bits, BitVec.extractLsb'_append_eq_of_add_le,
    BitVec.extractLsb'_append_eq_of_le, Nat.sub_self, BitVec.extractLsb'_eq_self, Nat.reduceSub]

/-- A word of this diagram is in the space of rule R1. -/
theorem FPldImm.space (f : FPldImm) : bits f.toWord 27 5 = 0b11110#5 := by
  simp (disch := omega) only [FPldImm.toWord, bits, BitVec.extractLsb'_append_eq_of_add_le,
    BitVec.extractLsb'_append_eq_of_le, Nat.sub_self, BitVec.extractLsb'_eq_self, Nat.reduceSub]
  try rfl

/-- The record of a word of this diagram is the record it was made of (rule R78). -/
@[simp] theorem FPldReg.ofWord_toWord (f : FPldReg) : FPldReg.ofWord f.toWord = f := by
  simp (disch := omega) only [FPldReg.ofWord, FPldReg.toWord, bits, BitVec.extractLsb'_append_eq_of_add_le,
    BitVec.extractLsb'_append_eq_of_le, Nat.sub_self, BitVec.extractLsb'_eq_self, Nat.reduceSub]

/-- A word of this diagram is in the space of rule R1. -/
theorem FPldReg.space (f : FPldReg) : bits f.toWord 27 5 = 0b11110#5 := by
  simp (disch := omega) only [FPldReg.toWord, bits, BitVec.extractLsb'_append_eq_of_add_le,
    BitVec.extractLsb'_append_eq_of_le, Nat.sub_self, BitVec.extractLsb'_eq_self, Nat.reduceSub]
  try rfl

/-- The record of a word of this diagram is the record it was made of (rule R80). -/
@[simp] theorem FLdStMult.ofWord_toWord (f : FLdStMult) : FLdStMult.ofWord f.toWord = f := by
  simp (disch := omega) only [FLdStMult.ofWord, FLdStMult.toWord, bits, BitVec.extractLsb'_append_eq_of_add_le,
    BitVec.extractLsb'_append_eq_of_le, Nat.sub_self, BitVec.extractLsb'_eq_self, Nat.reduceSub]

/-- A word of this diagram is in the space of rule R1. -/
theorem FLdStMult.space (f : FLdStMult) : bits f.toWord 27 5 = 0b11110#5 := by
  simp (disch := omega) only [FLdStMult.toWord, bits, BitVec.extractLsb'_append_eq_of_add_le,
    BitVec.extractLsb'_append_eq_of_le, Nat.sub_self, BitVec.extractLsb'_eq_self, Nat.reduceSub]
  try rfl

/-- The record of a word of this diagram is the record it was made of (rule R81). -/
@[simp] theorem FLdStAll.ofWord_toWord (f : FLdStAll) : FLdStAll.ofWord f.toWord = f := by
  simp (disch := omega) only [FLdStAll.ofWord, FLdStAll.toWord, bits, BitVec.extractLsb'_append_eq_of_add_le,
    BitVec.extractLsb'_append_eq_of_le, Nat.sub_self, BitVec.extractLsb'_eq_self, Nat.reduceSub]

/-- A word of this diagram is in the space of rule R1. -/
theorem FLdStAll.space (f : FLdStAll) : bits f.toWord 27 5 = 0b11110#5 := by
  simp (disch := omega) only [FLdStAll.toWord, bits, BitVec.extractLsb'_append_eq_of_add_le,
    BitVec.extractLsb'_append_eq_of_le, Nat.sub_self, BitVec.extractLsb'_eq_self, Nat.reduceSub]
  try rfl

/-- The record of a word of this diagram is the record it was made of (rule R82). -/
@[simp] theorem FLdStOne.ofWord_toWord (f : FLdStOne) : FLdStOne.ofWord f.toWord = f := by
  simp (disch := omega) only [FLdStOne.ofWord, FLdStOne.toWord, bits, BitVec.extractLsb'_append_eq_of_add_le,
    BitVec.extractLsb'_append_eq_of_le, Nat.sub_self, BitVec.extractLsb'_eq_self, Nat.reduceSub]

/-- A word of this diagram is in the space of rule R1. -/
theorem FLdStOne.space (f : FLdStOne) : bits f.toWord 27 5 = 0b11110#5 := by
  simp (disch := omega) only [FLdStOne.toWord, bits, BitVec.extractLsb'_append_eq_of_add_le,
    BitVec.extractLsb'_append_eq_of_le, Nat.sub_self, BitVec.extractLsb'_eq_self, Nat.reduceSub]
  try rfl

/-- The table that a word of this diagram reaches. -/
theorem decode_FThreeSame (f : FThreeSame)  :
    decode f.toWord = .instr (decodeThreeSame f) := by
  have h0 := f.space
  have h1 : bits f.toWord 25 2 = 0b01#2 := by
    simp (disch := omega) only [FThreeSame.toWord, bits, BitVec.extractLsb'_append_eq_of_add_le,
    BitVec.extractLsb'_append_eq_of_le, Nat.sub_self, BitVec.extractLsb'_eq_self, Nat.reduceSub]
    try rfl
  have h2 : bits f.toWord 23 1 = 0b0#1 := by
    simp (disch := omega) only [FThreeSame.toWord, bits, BitVec.extractLsb'_append_eq_of_add_le,
    BitVec.extractLsb'_append_eq_of_le, Nat.sub_self, BitVec.extractLsb'_eq_self, Nat.reduceSub]
    try rfl
  simp [decode, decodeTop, FTop.ofWord, decodeSimdData, h0, h1, h2]

/-- The table that a word of this diagram reaches. -/
theorem decode_FTwoRegMisc (f : FTwoRegMisc)  :
    decode f.toWord = .instr (decodeTwoRegMisc f) := by
  have h0 := f.space
  have h1 : bits f.toWord 25 2 = 0b01#2 := by
    simp (disch := omega) only [FTwoRegMisc.toWord, bits, BitVec.extractLsb'_append_eq_of_add_le,
    BitVec.extractLsb'_append_eq_of_le, Nat.sub_self, BitVec.extractLsb'_eq_self, Nat.reduceSub]
    try rfl
  have h2 : bits f.toWord 23 1 = 0b1#1 := by
    simp (disch := omega) only [FTwoRegMisc.toWord, bits, BitVec.extractLsb'_append_eq_of_add_le,
    BitVec.extractLsb'_append_eq_of_le, Nat.sub_self, BitVec.extractLsb'_eq_self, Nat.reduceSub]
    try rfl
  have h3 : bits f.toWord 4 1 = 0b0#1 := by
    simp (disch := omega) only [FTwoRegMisc.toWord, bits, BitVec.extractLsb'_append_eq_of_add_le,
    BitVec.extractLsb'_append_eq_of_le, Nat.sub_self, BitVec.extractLsb'_eq_self, Nat.reduceSub]
    try rfl
  have h4 : bits f.toWord 24 1 = 0b1#1 := by
    simp (disch := omega) only [FTwoRegMisc.toWord, bits, BitVec.extractLsb'_append_eq_of_add_le,
    BitVec.extractLsb'_append_eq_of_le, Nat.sub_self, BitVec.extractLsb'_eq_self, Nat.reduceSub]
    try rfl
  have h5 : bits f.toWord 20 2 = 0b11#2 := by
    simp (disch := omega) only [FTwoRegMisc.toWord, bits, BitVec.extractLsb'_append_eq_of_add_le,
    BitVec.extractLsb'_append_eq_of_le, Nat.sub_self, BitVec.extractLsb'_eq_self, Nat.reduceSub]
    try rfl
  have h6 : bits f.toWord 11 1 = 0b0#1 := by
    simp (disch := omega) only [FTwoRegMisc.toWord, bits, BitVec.extractLsb'_append_eq_of_add_le,
    BitVec.extractLsb'_append_eq_of_le, Nat.sub_self, BitVec.extractLsb'_eq_self, Nat.reduceSub]
    try rfl
  have ha : bits f.toWord 10 2 &&& 0b10#2 = 0b00#2 := by
    have h : (bits f.toWord 10 2).getLsbD 1 = (bits f.toWord 11 1).getLsbD 0 := by
      simp [bits, BitVec.getLsbD_extractLsb']
    rw [h6] at h
    revert h
    generalize bits f.toWord 10 2 = x
    revert x
    decide
  simp [decode, decodeTop, FTop.ofWord, decodeSimdData, decodeTwoRegThreeDiff, FTwoRegThreeDiff.ofWord, h0, h1, h2, h3, h4, h5, h6, ha]

/-- The table that a word of this diagram reaches. -/
theorem decode_FDup (f : FDup)  :
    decode f.toWord = .instr (decodeDup f) := by
  have h0 := f.space
  have h1 : bits f.toWord 25 2 = 0b01#2 := by
    simp (disch := omega) only [FDup.toWord, bits, BitVec.extractLsb'_append_eq_of_add_le,
    BitVec.extractLsb'_append_eq_of_le, Nat.sub_self, BitVec.extractLsb'_eq_self, Nat.reduceSub]
    try rfl
  have h2 : bits f.toWord 23 1 = 0b1#1 := by
    simp (disch := omega) only [FDup.toWord, bits, BitVec.extractLsb'_append_eq_of_add_le,
    BitVec.extractLsb'_append_eq_of_le, Nat.sub_self, BitVec.extractLsb'_eq_self, Nat.reduceSub]
    try rfl
  have h3 : bits f.toWord 4 1 = 0b0#1 := by
    simp (disch := omega) only [FDup.toWord, bits, BitVec.extractLsb'_append_eq_of_add_le,
    BitVec.extractLsb'_append_eq_of_le, Nat.sub_self, BitVec.extractLsb'_eq_self, Nat.reduceSub]
    try rfl
  have h4 : bits f.toWord 24 1 = 0b1#1 := by
    simp (disch := omega) only [FDup.toWord, bits, BitVec.extractLsb'_append_eq_of_add_le,
    BitVec.extractLsb'_append_eq_of_le, Nat.sub_self, BitVec.extractLsb'_eq_self, Nat.reduceSub]
    try rfl
  have h5 : bits f.toWord 20 2 = 0b11#2 := by
    simp (disch := omega) only [FDup.toWord, bits, BitVec.extractLsb'_append_eq_of_add_le,
    BitVec.extractLsb'_append_eq_of_le, Nat.sub_self, BitVec.extractLsb'_eq_self, Nat.reduceSub]
    try rfl
  have h6 : bits f.toWord 10 2 = 0b11#2 := by
    simp (disch := omega) only [FDup.toWord, bits, BitVec.extractLsb'_append_eq_of_add_le,
    BitVec.extractLsb'_append_eq_of_le, Nat.sub_self, BitVec.extractLsb'_eq_self, Nat.reduceSub]
    try rfl
  simp [decode, decodeTop, FTop.ofWord, decodeSimdData, decodeTwoRegThreeDiff, FTwoRegThreeDiff.ofWord, h0, h1, h2, h3, h4, h5, h6]

/-- The table that a word of this diagram reaches. -/
theorem decode_FThreeDiff (f : FThreeDiff) (hs : f.size ≠ 0b11#2) :
    decode f.toWord = .instr (decodeThreeDiff f) := by
  have h0 := f.space
  have h1 : bits f.toWord 25 2 = 0b01#2 := by
    simp (disch := omega) only [FThreeDiff.toWord, bits, BitVec.extractLsb'_append_eq_of_add_le,
    BitVec.extractLsb'_append_eq_of_le, Nat.sub_self, BitVec.extractLsb'_eq_self, Nat.reduceSub]
    try rfl
  have h2 : bits f.toWord 23 1 = 0b1#1 := by
    simp (disch := omega) only [FThreeDiff.toWord, bits, BitVec.extractLsb'_append_eq_of_add_le,
    BitVec.extractLsb'_append_eq_of_le, Nat.sub_self, BitVec.extractLsb'_eq_self, Nat.reduceSub]
    try rfl
  have h3 : bits f.toWord 4 1 = 0b0#1 := by
    simp (disch := omega) only [FThreeDiff.toWord, bits, BitVec.extractLsb'_append_eq_of_add_le,
    BitVec.extractLsb'_append_eq_of_le, Nat.sub_self, BitVec.extractLsb'_eq_self, Nat.reduceSub]
    try rfl
  have h4 : bits f.toWord 6 1 = 0b0#1 := by
    simp (disch := omega) only [FThreeDiff.toWord, bits, BitVec.extractLsb'_append_eq_of_add_le,
    BitVec.extractLsb'_append_eq_of_le, Nat.sub_self, BitVec.extractLsb'_eq_self, Nat.reduceSub]
    try rfl
  have h5 : bits f.toWord 20 2 = f.size := by
    simp (disch := omega) only [FThreeDiff.toWord, bits, BitVec.extractLsb'_append_eq_of_add_le,
    BitVec.extractLsb'_append_eq_of_le, Nat.sub_self, BitVec.extractLsb'_eq_self, Nat.reduceSub]
    try rfl
  simp [decode, decodeTop, FTop.ofWord, decodeSimdData, decodeTwoRegThreeDiff, FTwoRegThreeDiff.ofWord, h0, h1, h2, h3, h4, h5, hs]

/-- The table that a word of this diagram reaches. -/
theorem decode_FTwoRegScalar (f : FTwoRegScalar) (hs : f.size ≠ 0b11#2) :
    decode f.toWord = .instr (decodeTwoRegScalar f) := by
  have h0 := f.space
  have h1 : bits f.toWord 25 2 = 0b01#2 := by
    simp (disch := omega) only [FTwoRegScalar.toWord, bits, BitVec.extractLsb'_append_eq_of_add_le,
    BitVec.extractLsb'_append_eq_of_le, Nat.sub_self, BitVec.extractLsb'_eq_self, Nat.reduceSub]
    try rfl
  have h2 : bits f.toWord 23 1 = 0b1#1 := by
    simp (disch := omega) only [FTwoRegScalar.toWord, bits, BitVec.extractLsb'_append_eq_of_add_le,
    BitVec.extractLsb'_append_eq_of_le, Nat.sub_self, BitVec.extractLsb'_eq_self, Nat.reduceSub]
    try rfl
  have h3 : bits f.toWord 4 1 = 0b0#1 := by
    simp (disch := omega) only [FTwoRegScalar.toWord, bits, BitVec.extractLsb'_append_eq_of_add_le,
    BitVec.extractLsb'_append_eq_of_le, Nat.sub_self, BitVec.extractLsb'_eq_self, Nat.reduceSub]
    try rfl
  have h4 : bits f.toWord 6 1 = 0b1#1 := by
    simp (disch := omega) only [FTwoRegScalar.toWord, bits, BitVec.extractLsb'_append_eq_of_add_le,
    BitVec.extractLsb'_append_eq_of_le, Nat.sub_self, BitVec.extractLsb'_eq_self, Nat.reduceSub]
    try rfl
  have h5 : bits f.toWord 20 2 = f.size := by
    simp (disch := omega) only [FTwoRegScalar.toWord, bits, BitVec.extractLsb'_append_eq_of_add_le,
    BitVec.extractLsb'_append_eq_of_le, Nat.sub_self, BitVec.extractLsb'_eq_self, Nat.reduceSub]
    try rfl
  simp [decode, decodeTop, FTop.ofWord, decodeSimdData, decodeTwoRegThreeDiff, FTwoRegThreeDiff.ofWord, h0, h1, h2, h3, h4, h5, hs]

/-- The table that a word of this diagram reaches. -/
theorem decode_FTwoRegThreeDiff (f : FTwoRegThreeDiff)  :
    decode f.toWord = .instr (decodeTwoRegThreeDiff f.toWord) := by
  have h0 := f.space
  have h1 : bits f.toWord 25 2 = 0b01#2 := by
    simp (disch := omega) only [FTwoRegThreeDiff.toWord, bits, BitVec.extractLsb'_append_eq_of_add_le,
    BitVec.extractLsb'_append_eq_of_le, Nat.sub_self, BitVec.extractLsb'_eq_self, Nat.reduceSub]
    try rfl
  have h2 : bits f.toWord 23 1 = 0b1#1 := by
    simp (disch := omega) only [FTwoRegThreeDiff.toWord, bits, BitVec.extractLsb'_append_eq_of_add_le,
    BitVec.extractLsb'_append_eq_of_le, Nat.sub_self, BitVec.extractLsb'_eq_self, Nat.reduceSub]
    try rfl
  have h3 : bits f.toWord 4 1 = 0b0#1 := by
    simp (disch := omega) only [FTwoRegThreeDiff.toWord, bits, BitVec.extractLsb'_append_eq_of_add_le,
    BitVec.extractLsb'_append_eq_of_le, Nat.sub_self, BitVec.extractLsb'_eq_self, Nat.reduceSub]
    try rfl
  simp [decode, decodeTop, FTop.ofWord, decodeSimdData, h0, h1, h2, h3]

/-- The table that a word of this diagram reaches. -/
theorem decode_FOneRegImm (f : FOneRegImm)  :
    decode f.toWord = .instr (decodeOneRegImm f) := by
  have h0 := f.space
  have h1 : bits f.toWord 25 2 = 0b01#2 := by
    simp (disch := omega) only [FOneRegImm.toWord, bits, BitVec.extractLsb'_append_eq_of_add_le,
    BitVec.extractLsb'_append_eq_of_le, Nat.sub_self, BitVec.extractLsb'_eq_self, Nat.reduceSub]
    try rfl
  have h2 : bits f.toWord 23 1 = 0b1#1 := by
    simp (disch := omega) only [FOneRegImm.toWord, bits, BitVec.extractLsb'_append_eq_of_add_le,
    BitVec.extractLsb'_append_eq_of_le, Nat.sub_self, BitVec.extractLsb'_eq_self, Nat.reduceSub]
    try rfl
  have h3 : bits f.toWord 4 1 = 0b1#1 := by
    simp (disch := omega) only [FOneRegImm.toWord, bits, BitVec.extractLsb'_append_eq_of_add_le,
    BitVec.extractLsb'_append_eq_of_le, Nat.sub_self, BitVec.extractLsb'_eq_self, Nat.reduceSub]
    try rfl
  have h4 : bits f.toWord 19 3 = 0b000#3 := by
    simp (disch := omega) only [FOneRegImm.toWord, bits, BitVec.extractLsb'_append_eq_of_add_le,
    BitVec.extractLsb'_append_eq_of_le, Nat.sub_self, BitVec.extractLsb'_eq_self, Nat.reduceSub]
    try rfl
  have h5 : bits f.toWord 7 1 = 0b0#1 := by
    simp (disch := omega) only [FOneRegImm.toWord, bits, BitVec.extractLsb'_append_eq_of_add_le,
    BitVec.extractLsb'_append_eq_of_le, Nat.sub_self, BitVec.extractLsb'_eq_self, Nat.reduceSub]
    try rfl
  simp [decode, decodeTop, FTop.ofWord, decodeSimdData, decodeShiftImm, h0, h1, h2, h3, h4, h5]

/-- The table that a word of this diagram reaches. -/
theorem decode_FTwoRegShift (f : FTwoRegShift) (hs : ¬(f.imm3H = 0b000#3 ∧ f.L = 0b0#1)) :
    decode f.toWord = .instr (decodeTwoRegShift f) := by
  have h0 := f.space
  have h1 : bits f.toWord 25 2 = 0b01#2 := by
    simp (disch := omega) only [FTwoRegShift.toWord, bits, BitVec.extractLsb'_append_eq_of_add_le,
    BitVec.extractLsb'_append_eq_of_le, Nat.sub_self, BitVec.extractLsb'_eq_self, Nat.reduceSub]
    try rfl
  have h2 : bits f.toWord 23 1 = 0b1#1 := by
    simp (disch := omega) only [FTwoRegShift.toWord, bits, BitVec.extractLsb'_append_eq_of_add_le,
    BitVec.extractLsb'_append_eq_of_le, Nat.sub_self, BitVec.extractLsb'_eq_self, Nat.reduceSub]
    try rfl
  have h3 : bits f.toWord 4 1 = 0b1#1 := by
    simp (disch := omega) only [FTwoRegShift.toWord, bits, BitVec.extractLsb'_append_eq_of_add_le,
    BitVec.extractLsb'_append_eq_of_le, Nat.sub_self, BitVec.extractLsb'_eq_self, Nat.reduceSub]
    try rfl
  have h4 : bits f.toWord 19 3 = f.imm3H := by
    simp (disch := omega) only [FTwoRegShift.toWord, bits, BitVec.extractLsb'_append_eq_of_add_le,
    BitVec.extractLsb'_append_eq_of_le, Nat.sub_self, BitVec.extractLsb'_eq_self, Nat.reduceSub]
    try rfl
  have h5 : bits f.toWord 7 1 = f.L := by
    simp (disch := omega) only [FTwoRegShift.toWord, bits, BitVec.extractLsb'_append_eq_of_add_le,
    BitVec.extractLsb'_append_eq_of_le, Nat.sub_self, BitVec.extractLsb'_eq_self, Nat.reduceSub]
    try rfl
  simp [decode, decodeTop, FTop.ofWord, decodeSimdData, decodeShiftImm, h0, h1, h2, h3, h4, h5, hs]

/-- The table that a word of this diagram reaches. -/
theorem decode_FMisc (f : FMisc)  :
    decode f.toWord = .instr (decodeMisc f.toWord) := by
  have h0 := f.space
  have h1 : bits f.toWord 25 2 = 0b00#2 := by
    simp (disch := omega) only [FMisc.toWord, bits, BitVec.extractLsb'_append_eq_of_add_le,
    BitVec.extractLsb'_append_eq_of_le, Nat.sub_self, BitVec.extractLsb'_eq_self, Nat.reduceSub]
    try rfl
  simp [decode, decodeTop, FTop.ofWord, h0, h1]

/-- The table that a word of this diagram reaches. -/
theorem decode_FMemHint (f : FMemHint)  :
    decode f.toWord = .instr (decodeMemHint f.toWord) := by
  have h0 := f.space
  have h1 : bits f.toWord 26 1 = 0b1#1 := by
    simp (disch := omega) only [FMemHint.toWord, bits, BitVec.extractLsb'_append_eq_of_add_le,
    BitVec.extractLsb'_append_eq_of_le, Nat.sub_self, BitVec.extractLsb'_eq_self, Nat.reduceSub]
    try rfl
  have h2 : bits f.toWord 20 1 = 0b1#1 := by
    simp (disch := omega) only [FMemHint.toWord, bits, BitVec.extractLsb'_append_eq_of_add_le,
    BitVec.extractLsb'_append_eq_of_le, Nat.sub_self, BitVec.extractLsb'_eq_self, Nat.reduceSub]
    try rfl
  have ha : bits f.toWord 25 2 ≠ 0b00#2 ∧ bits f.toWord 25 2 ≠ 0b01#2 := by
    have : (bits f.toWord 25 2).getLsbD 1 = (bits f.toWord 26 1).getLsbD 0 := by
      simp [bits, BitVec.getLsbD_extractLsb']
    rw [h1] at this
    constructor <;> (intro hc; rw [hc] at this; exact absurd this (by decide))
  simp [decode, decodeTop, FTop.ofWord, h0, h1, h2, ha]

/-- The table that a word of this diagram reaches. -/
theorem decode_FBarrier (f : FBarrier)  :
    decode f.toWord = .instr (decodeBarrier f) := by
  have h0 := f.space
  have h1 : bits f.toWord 25 2 = 0b10#2 := by
    simp (disch := omega) only [FBarrier.toWord, bits, BitVec.extractLsb'_append_eq_of_add_le,
    BitVec.extractLsb'_append_eq_of_le, Nat.sub_self, BitVec.extractLsb'_eq_self, Nat.reduceSub]
    try rfl
  have h2 : bits f.toWord 20 1 = 0b1#1 := by
    simp (disch := omega) only [FBarrier.toWord, bits, BitVec.extractLsb'_append_eq_of_add_le,
    BitVec.extractLsb'_append_eq_of_le, Nat.sub_self, BitVec.extractLsb'_eq_self, Nat.reduceSub]
    try rfl
  have h3 : bits f.toWord 21 5 = 0b01011#5 := by
    simp (disch := omega) only [FBarrier.toWord, bits, BitVec.extractLsb'_append_eq_of_add_le,
    BitVec.extractLsb'_append_eq_of_le, Nat.sub_self, BitVec.extractLsb'_eq_self, Nat.reduceSub]
    try rfl
  simp [decode, decodeTop, FTop.ofWord, decodeMemHint, FMemHint.ofWord, h0, h1, h2, h3]

/-- The table that a word of this diagram reaches. -/
theorem decode_FLdStMult (f : FLdStMult)  :
    decode f.toWord = .instr (.asimdLdstMult f) := by
  have h0 := f.space
  have h1 : bits f.toWord 25 2 = 0b10#2 := by
    simp (disch := omega) only [FLdStMult.toWord, bits, BitVec.extractLsb'_append_eq_of_add_le,
    BitVec.extractLsb'_append_eq_of_le, Nat.sub_self, BitVec.extractLsb'_eq_self, Nat.reduceSub]
    try rfl
  have h2 : bits f.toWord 20 1 = 0b0#1 := by
    simp (disch := omega) only [FLdStMult.toWord, bits, BitVec.extractLsb'_append_eq_of_add_le,
    BitVec.extractLsb'_append_eq_of_le, Nat.sub_self, BitVec.extractLsb'_eq_self, Nat.reduceSub]
    try rfl
  have h3 : bits f.toWord 24 1 = 0b0#1 := by
    simp (disch := omega) only [FLdStMult.toWord, bits, BitVec.extractLsb'_append_eq_of_add_le,
    BitVec.extractLsb'_append_eq_of_le, Nat.sub_self, BitVec.extractLsb'_eq_self, Nat.reduceSub]
    try rfl
  have h4 : bits f.toWord 23 1 = 0b0#1 := by
    simp (disch := omega) only [FLdStMult.toWord, bits, BitVec.extractLsb'_append_eq_of_add_le,
    BitVec.extractLsb'_append_eq_of_le, Nat.sub_self, BitVec.extractLsb'_eq_self, Nat.reduceSub]
    try rfl
  simp [decode, decodeTop, FTop.ofWord, decodeLdSt, h0, h1, h2, h3, h4]

/-- The table that a word of this diagram reaches. -/
theorem decode_FLdStAll (f : FLdStAll)  :
    decode f.toWord = .instr (.asimdLdAll f) := by
  have h0 := f.space
  have h1 : bits f.toWord 25 2 = 0b10#2 := by
    simp (disch := omega) only [FLdStAll.toWord, bits, BitVec.extractLsb'_append_eq_of_add_le,
    BitVec.extractLsb'_append_eq_of_le, Nat.sub_self, BitVec.extractLsb'_eq_self, Nat.reduceSub]
    try rfl
  have h2 : bits f.toWord 20 1 = 0b0#1 := by
    simp (disch := omega) only [FLdStAll.toWord, bits, BitVec.extractLsb'_append_eq_of_add_le,
    BitVec.extractLsb'_append_eq_of_le, Nat.sub_self, BitVec.extractLsb'_eq_self, Nat.reduceSub]
    try rfl
  have h3 : bits f.toWord 24 1 = 0b0#1 := by
    simp (disch := omega) only [FLdStAll.toWord, bits, BitVec.extractLsb'_append_eq_of_add_le,
    BitVec.extractLsb'_append_eq_of_le, Nat.sub_self, BitVec.extractLsb'_eq_self, Nat.reduceSub]
    try rfl
  have h4 : bits f.toWord 23 1 = 0b1#1 := by
    simp (disch := omega) only [FLdStAll.toWord, bits, BitVec.extractLsb'_append_eq_of_add_le,
    BitVec.extractLsb'_append_eq_of_le, Nat.sub_self, BitVec.extractLsb'_eq_self, Nat.reduceSub]
    try rfl
  have h5 : bits f.toWord 10 2 = 0b11#2 := by
    simp (disch := omega) only [FLdStAll.toWord, bits, BitVec.extractLsb'_append_eq_of_add_le,
    BitVec.extractLsb'_append_eq_of_le, Nat.sub_self, BitVec.extractLsb'_eq_self, Nat.reduceSub]
    try rfl
  simp [decode, decodeTop, FTop.ofWord, decodeLdSt, h0, h1, h2, h3, h4, h5]

/-- The table that a word of this diagram reaches. -/
theorem decode_FLdStOne (f : FLdStOne) (hs : f.size ≠ 0b11#2) :
    decode f.toWord = .instr (.asimdLdstOne f) := by
  have h0 := f.space
  have h1 : bits f.toWord 25 2 = 0b10#2 := by
    simp (disch := omega) only [FLdStOne.toWord, bits, BitVec.extractLsb'_append_eq_of_add_le,
    BitVec.extractLsb'_append_eq_of_le, Nat.sub_self, BitVec.extractLsb'_eq_self, Nat.reduceSub]
    try rfl
  have h2 : bits f.toWord 20 1 = 0b0#1 := by
    simp (disch := omega) only [FLdStOne.toWord, bits, BitVec.extractLsb'_append_eq_of_add_le,
    BitVec.extractLsb'_append_eq_of_le, Nat.sub_self, BitVec.extractLsb'_eq_self, Nat.reduceSub]
    try rfl
  have h3 : bits f.toWord 24 1 = 0b0#1 := by
    simp (disch := omega) only [FLdStOne.toWord, bits, BitVec.extractLsb'_append_eq_of_add_le,
    BitVec.extractLsb'_append_eq_of_le, Nat.sub_self, BitVec.extractLsb'_eq_self, Nat.reduceSub]
    try rfl
  have h4 : bits f.toWord 23 1 = 0b1#1 := by
    simp (disch := omega) only [FLdStOne.toWord, bits, BitVec.extractLsb'_append_eq_of_add_le,
    BitVec.extractLsb'_append_eq_of_le, Nat.sub_self, BitVec.extractLsb'_eq_self, Nat.reduceSub]
    try rfl
  have h5 : bits f.toWord 10 2 = f.size := by
    simp (disch := omega) only [FLdStOne.toWord, bits, BitVec.extractLsb'_append_eq_of_add_le,
    BitVec.extractLsb'_append_eq_of_le, Nat.sub_self, BitVec.extractLsb'_eq_self, Nat.reduceSub]
    try rfl
  simp [decode, decodeTop, FTop.ofWord, decodeLdSt, h0, h1, h2, h3, h4, h5, hs]

/-- The table that a word of the diagram "Change Process State" reaches. -/
theorem decode_FCps (f : FCps) : decode f.toWord = .instr (decodeCps f) := by
  have h0 := f.space
  have h1 : bits f.toWord 25 2 = 0b00#2 := by
    simp (disch := omega) only [FCps.toWord, bits, BitVec.extractLsb'_append_eq_of_add_le,
    BitVec.extractLsb'_append_eq_of_le, Nat.sub_self, BitVec.extractLsb'_eq_self, Nat.reduceSub]
    try rfl
  have h2 : bits f.toWord 20 5 = 0b10000#5 := by
    simp (disch := omega) only [FCps.toWord, bits, BitVec.extractLsb'_append_eq_of_add_le,
    BitVec.extractLsb'_append_eq_of_le, Nat.sub_self, BitVec.extractLsb'_eq_self, Nat.reduceSub]
    try rfl
  have h3 : bits f.toWord 4 4 &&& 0b0010#4 = 0b0000#4 := by
    have h5 : bits f.toWord 5 1 = 0b0#1 := by
      simp (disch := omega) only [FCps.toWord, bits, BitVec.extractLsb'_append_eq_of_add_le,
    BitVec.extractLsb'_append_eq_of_le, Nat.sub_self, BitVec.extractLsb'_eq_self, Nat.reduceSub]
    have h6 : (bits f.toWord 4 4).getLsbD 1 = false := by
      have : (bits f.toWord 4 4).getLsbD 1 = (bits f.toWord 5 1).getLsbD 0 := by
        simp [bits, BitVec.getLsbD_extractLsb']
      rw [this, h5]; rfl
    revert h6
    generalize bits f.toWord 4 4 = x
    revert x
    decide
  simp [decode, decodeTop, FTop.ofWord, decodeMisc, FMisc.ofWord, h0, h1, h2, h3]

end Sys2Proof
end

