-- ==== Sys2Proof/Laws/State.lean ====
section
/-! SUPPORT. What each named update of the state leaves alone: one lemma per field per update. -/

namespace Sys2Proof.Machine

set_option Elab.async false

/-! ### Writing a doubleword register -/

@[simp] theorem State.writeD_params (s : State) (n : Nat) (v : DWord) : (s.writeD n v).params = s.params := rfl
@[simp] theorem State.writeD_pc (s : State) (n : Nat) (v : DWord) : (s.writeD n v).pc = s.pc := rfl
@[simp] theorem State.writeD_r (s : State) (n : Nat) (v : DWord) : (s.writeD n v).r = s.r := rfl
@[simp] theorem State.writeD_rFiq (s : State) (n : Nat) (v : DWord) : (s.writeD n v).rFiq = s.rFiq := rfl
@[simp] theorem State.writeD_sp (s : State) (n : Nat) (v : DWord) : (s.writeD n v).sp = s.sp := rfl
@[simp] theorem State.writeD_lr (s : State) (n : Nat) (v : DWord) : (s.writeD n v).lr = s.lr := rfl
@[simp] theorem State.writeD_spsr (s : State) (n : Nat) (v : DWord) : (s.writeD n v).spsr = s.spsr := rfl
@[simp] theorem State.writeD_cpsr (s : State) (n : Nat) (v : DWord) : (s.writeD n v).cpsr = s.cpsr := rfl
@[simp] theorem State.writeD_fpscr (s : State) (n : Nat) (v : DWord) : (s.writeD n v).fpscr = s.fpscr := rfl
@[simp] theorem State.writeD_ctl (s : State) (n : Nat) (v : DWord) : (s.writeD n v).ctl = s.ctl := rfl
@[simp] theorem State.writeD_privRegions (s : State) (n : Nat) (v : DWord) : (s.writeD n v).privRegions = s.privRegions := rfl
@[simp] theorem State.writeD_reservation (s : State) (n : Nat) (v : DWord) : (s.writeD n v).reservation = s.reservation := rfl
@[simp] theorem State.writeD_imem (s : State) (n : Nat) (v : DWord) : (s.writeD n v).imem = s.imem := rfl
@[simp] theorem State.writeD_mem (s : State) (n : Nat) (v : DWord) : (s.writeD n v).mem = s.mem := rfl
@[simp] theorem State.writeD_freeCount (s : State) (n : Nat) (v : DWord) : (s.writeD n v).freeCount = s.freeCount := rfl

/-! ### Writing a quadword register -/

@[simp] theorem State.writeQ_params (s : State) (n : Nat) (v : QWord) : (s.writeQ n v).params = s.params := rfl
@[simp] theorem State.writeQ_pc (s : State) (n : Nat) (v : QWord) : (s.writeQ n v).pc = s.pc := rfl
@[simp] theorem State.writeQ_r (s : State) (n : Nat) (v : QWord) : (s.writeQ n v).r = s.r := rfl
@[simp] theorem State.writeQ_rFiq (s : State) (n : Nat) (v : QWord) : (s.writeQ n v).rFiq = s.rFiq := rfl
@[simp] theorem State.writeQ_sp (s : State) (n : Nat) (v : QWord) : (s.writeQ n v).sp = s.sp := rfl
@[simp] theorem State.writeQ_lr (s : State) (n : Nat) (v : QWord) : (s.writeQ n v).lr = s.lr := rfl
@[simp] theorem State.writeQ_spsr (s : State) (n : Nat) (v : QWord) : (s.writeQ n v).spsr = s.spsr := rfl
@[simp] theorem State.writeQ_cpsr (s : State) (n : Nat) (v : QWord) : (s.writeQ n v).cpsr = s.cpsr := rfl
@[simp] theorem State.writeQ_fpscr (s : State) (n : Nat) (v : QWord) : (s.writeQ n v).fpscr = s.fpscr := rfl
@[simp] theorem State.writeQ_ctl (s : State) (n : Nat) (v : QWord) : (s.writeQ n v).ctl = s.ctl := rfl
@[simp] theorem State.writeQ_privRegions (s : State) (n : Nat) (v : QWord) : (s.writeQ n v).privRegions = s.privRegions := rfl
@[simp] theorem State.writeQ_reservation (s : State) (n : Nat) (v : QWord) : (s.writeQ n v).reservation = s.reservation := rfl
@[simp] theorem State.writeQ_imem (s : State) (n : Nat) (v : QWord) : (s.writeQ n v).imem = s.imem := rfl
@[simp] theorem State.writeQ_mem (s : State) (n : Nat) (v : QWord) : (s.writeQ n v).mem = s.mem := rfl
@[simp] theorem State.writeQ_freeCount (s : State) (n : Nat) (v : QWord) : (s.writeQ n v).freeCount = s.freeCount := rfl

/-! ### Setting flags -/

@[simp] theorem State.setFlags_params (s : State) (fl : Flags) : (s.setFlags fl).params = s.params := rfl
@[simp] theorem State.setFlags_pc (s : State) (fl : Flags) : (s.setFlags fl).pc = s.pc := rfl
@[simp] theorem State.setFlags_r (s : State) (fl : Flags) : (s.setFlags fl).r = s.r := rfl
@[simp] theorem State.setFlags_rFiq (s : State) (fl : Flags) : (s.setFlags fl).rFiq = s.rFiq := rfl
@[simp] theorem State.setFlags_sp (s : State) (fl : Flags) : (s.setFlags fl).sp = s.sp := rfl
@[simp] theorem State.setFlags_lr (s : State) (fl : Flags) : (s.setFlags fl).lr = s.lr := rfl
@[simp] theorem State.setFlags_spsr (s : State) (fl : Flags) : (s.setFlags fl).spsr = s.spsr := rfl
@[simp] theorem State.setFlags_cpsr (s : State) (fl : Flags) : (s.setFlags fl).cpsr = s.cpsr := rfl
@[simp] theorem State.setFlags_d (s : State) (fl : Flags) : (s.setFlags fl).d = s.d := rfl
@[simp] theorem State.setFlags_ctl (s : State) (fl : Flags) : (s.setFlags fl).ctl = s.ctl := rfl
@[simp] theorem State.setFlags_privRegions (s : State) (fl : Flags) : (s.setFlags fl).privRegions = s.privRegions := rfl
@[simp] theorem State.setFlags_reservation (s : State) (fl : Flags) : (s.setFlags fl).reservation = s.reservation := rfl
@[simp] theorem State.setFlags_imem (s : State) (fl : Flags) : (s.setFlags fl).imem = s.imem := rfl
@[simp] theorem State.setFlags_mem (s : State) (fl : Flags) : (s.setFlags fl).mem = s.mem := rfl
@[simp] theorem State.setFlags_freeCount (s : State) (fl : Flags) : (s.setFlags fl).freeCount = s.freeCount := rfl

@[simp] theorem State.setFlags_fpscr (s : State) (fl : Flags) : (s.setFlags fl).fpscr = s.fpscr ||| fl := rfl

/-! ### Storing a byte -/

@[simp] theorem State.setByte_params (s : State) (a : Word) (v : Byte) : (s.setByte a v).params = s.params := rfl
@[simp] theorem State.setByte_pc (s : State) (a : Word) (v : Byte) : (s.setByte a v).pc = s.pc := rfl
@[simp] theorem State.setByte_r (s : State) (a : Word) (v : Byte) : (s.setByte a v).r = s.r := rfl
@[simp] theorem State.setByte_rFiq (s : State) (a : Word) (v : Byte) : (s.setByte a v).rFiq = s.rFiq := rfl
@[simp] theorem State.setByte_sp (s : State) (a : Word) (v : Byte) : (s.setByte a v).sp = s.sp := rfl
@[simp] theorem State.setByte_lr (s : State) (a : Word) (v : Byte) : (s.setByte a v).lr = s.lr := rfl
@[simp] theorem State.setByte_spsr (s : State) (a : Word) (v : Byte) : (s.setByte a v).spsr = s.spsr := rfl
@[simp] theorem State.setByte_cpsr (s : State) (a : Word) (v : Byte) : (s.setByte a v).cpsr = s.cpsr := rfl
@[simp] theorem State.setByte_fpscr (s : State) (a : Word) (v : Byte) : (s.setByte a v).fpscr = s.fpscr := rfl
@[simp] theorem State.setByte_d (s : State) (a : Word) (v : Byte) : (s.setByte a v).d = s.d := rfl
@[simp] theorem State.setByte_ctl (s : State) (a : Word) (v : Byte) : (s.setByte a v).ctl = s.ctl := rfl
@[simp] theorem State.setByte_privRegions (s : State) (a : Word) (v : Byte) : (s.setByte a v).privRegions = s.privRegions := rfl
@[simp] theorem State.setByte_reservation (s : State) (a : Word) (v : Byte) : (s.setByte a v).reservation = s.reservation := rfl
@[simp] theorem State.setByte_imem (s : State) (a : Word) (v : Byte) : (s.setByte a v).imem = s.imem := rfl
@[simp] theorem State.setByte_freeCount (s : State) (a : Word) (v : Byte) : (s.setByte a v).freeCount = s.freeCount := rfl

@[simp] theorem State.setByte_mem (s : State) (a : Word) (v : Byte) :
    (s.setByte a v).mem = Memory.write s.mem a.toNat v := rfl

/-! ### Writing lanes -/

@[simp] theorem State.writeLanes_params (s : State) (e first count : Nat) (xs : List (BitVec e)) :
    (State.writeLanes s e first count xs).params = s.params := by
  induction count generalizing s first xs with
  | zero => rfl
  | succ n ih => simp [State.writeLanes, ih]
@[simp] theorem State.writeLanes_pc (s : State) (e first count : Nat) (xs : List (BitVec e)) :
    (State.writeLanes s e first count xs).pc = s.pc := by
  induction count generalizing s first xs with
  | zero => rfl
  | succ n ih => simp [State.writeLanes, ih]
@[simp] theorem State.writeLanes_r (s : State) (e first count : Nat) (xs : List (BitVec e)) :
    (State.writeLanes s e first count xs).r = s.r := by
  induction count generalizing s first xs with
  | zero => rfl
  | succ n ih => simp [State.writeLanes, ih]
@[simp] theorem State.writeLanes_rFiq (s : State) (e first count : Nat) (xs : List (BitVec e)) :
    (State.writeLanes s e first count xs).rFiq = s.rFiq := by
  induction count generalizing s first xs with
  | zero => rfl
  | succ n ih => simp [State.writeLanes, ih]
@[simp] theorem State.writeLanes_sp (s : State) (e first count : Nat) (xs : List (BitVec e)) :
    (State.writeLanes s e first count xs).sp = s.sp := by
  induction count generalizing s first xs with
  | zero => rfl
  | succ n ih => simp [State.writeLanes, ih]
@[simp] theorem State.writeLanes_lr (s : State) (e first count : Nat) (xs : List (BitVec e)) :
    (State.writeLanes s e first count xs).lr = s.lr := by
  induction count generalizing s first xs with
  | zero => rfl
  | succ n ih => simp [State.writeLanes, ih]
@[simp] theorem State.writeLanes_spsr (s : State) (e first count : Nat) (xs : List (BitVec e)) :
    (State.writeLanes s e first count xs).spsr = s.spsr := by
  induction count generalizing s first xs with
  | zero => rfl
  | succ n ih => simp [State.writeLanes, ih]
@[simp] theorem State.writeLanes_cpsr (s : State) (e first count : Nat) (xs : List (BitVec e)) :
    (State.writeLanes s e first count xs).cpsr = s.cpsr := by
  induction count generalizing s first xs with
  | zero => rfl
  | succ n ih => simp [State.writeLanes, ih]
@[simp] theorem State.writeLanes_fpscr (s : State) (e first count : Nat) (xs : List (BitVec e)) :
    (State.writeLanes s e first count xs).fpscr = s.fpscr := by
  induction count generalizing s first xs with
  | zero => rfl
  | succ n ih => simp [State.writeLanes, ih]
@[simp] theorem State.writeLanes_ctl (s : State) (e first count : Nat) (xs : List (BitVec e)) :
    (State.writeLanes s e first count xs).ctl = s.ctl := by
  induction count generalizing s first xs with
  | zero => rfl
  | succ n ih => simp [State.writeLanes, ih]
@[simp] theorem State.writeLanes_privRegions (s : State) (e first count : Nat) (xs : List (BitVec e)) :
    (State.writeLanes s e first count xs).privRegions = s.privRegions := by
  induction count generalizing s first xs with
  | zero => rfl
  | succ n ih => simp [State.writeLanes, ih]
@[simp] theorem State.writeLanes_reservation (s : State) (e first count : Nat) (xs : List (BitVec e)) :
    (State.writeLanes s e first count xs).reservation = s.reservation := by
  induction count generalizing s first xs with
  | zero => rfl
  | succ n ih => simp [State.writeLanes, ih]
@[simp] theorem State.writeLanes_imem (s : State) (e first count : Nat) (xs : List (BitVec e)) :
    (State.writeLanes s e first count xs).imem = s.imem := by
  induction count generalizing s first xs with
  | zero => rfl
  | succ n ih => simp [State.writeLanes, ih]
@[simp] theorem State.writeLanes_mem (s : State) (e first count : Nat) (xs : List (BitVec e)) :
    (State.writeLanes s e first count xs).mem = s.mem := by
  induction count generalizing s first xs with
  | zero => rfl
  | succ n ih => simp [State.writeLanes, ih]
@[simp] theorem State.writeLanes_freeCount (s : State) (e first count : Nat) (xs : List (BitVec e)) :
    (State.writeLanes s e first count xs).freeCount = s.freeCount := by
  induction count generalizing s first xs with
  | zero => rfl
  | succ n ih => simp [State.writeLanes, ih]

/-! ### Writing several registers -/

@[simp] theorem State.putD_params (s : State) (first : Nat) (g : Nat → DWord) (count : Nat) :
    (State.putD s first g count).params = s.params := by
  induction count with
  | zero => rfl
  | succ n ih => simp [State.putD, ih]
@[simp] theorem State.putD_pc (s : State) (first : Nat) (g : Nat → DWord) (count : Nat) :
    (State.putD s first g count).pc = s.pc := by
  induction count with
  | zero => rfl
  | succ n ih => simp [State.putD, ih]
@[simp] theorem State.putD_r (s : State) (first : Nat) (g : Nat → DWord) (count : Nat) :
    (State.putD s first g count).r = s.r := by
  induction count with
  | zero => rfl
  | succ n ih => simp [State.putD, ih]
@[simp] theorem State.putD_rFiq (s : State) (first : Nat) (g : Nat → DWord) (count : Nat) :
    (State.putD s first g count).rFiq = s.rFiq := by
  induction count with
  | zero => rfl
  | succ n ih => simp [State.putD, ih]
@[simp] theorem State.putD_sp (s : State) (first : Nat) (g : Nat → DWord) (count : Nat) :
    (State.putD s first g count).sp = s.sp := by
  induction count with
  | zero => rfl
  | succ n ih => simp [State.putD, ih]
@[simp] theorem State.putD_lr (s : State) (first : Nat) (g : Nat → DWord) (count : Nat) :
    (State.putD s first g count).lr = s.lr := by
  induction count with
  | zero => rfl
  | succ n ih => simp [State.putD, ih]
@[simp] theorem State.putD_spsr (s : State) (first : Nat) (g : Nat → DWord) (count : Nat) :
    (State.putD s first g count).spsr = s.spsr := by
  induction count with
  | zero => rfl
  | succ n ih => simp [State.putD, ih]
@[simp] theorem State.putD_cpsr (s : State) (first : Nat) (g : Nat → DWord) (count : Nat) :
    (State.putD s first g count).cpsr = s.cpsr := by
  induction count with
  | zero => rfl
  | succ n ih => simp [State.putD, ih]
@[simp] theorem State.putD_fpscr (s : State) (first : Nat) (g : Nat → DWord) (count : Nat) :
    (State.putD s first g count).fpscr = s.fpscr := by
  induction count with
  | zero => rfl
  | succ n ih => simp [State.putD, ih]
@[simp] theorem State.putD_ctl (s : State) (first : Nat) (g : Nat → DWord) (count : Nat) :
    (State.putD s first g count).ctl = s.ctl := by
  induction count with
  | zero => rfl
  | succ n ih => simp [State.putD, ih]
@[simp] theorem State.putD_privRegions (s : State) (first : Nat) (g : Nat → DWord) (count : Nat) :
    (State.putD s first g count).privRegions = s.privRegions := by
  induction count with
  | zero => rfl
  | succ n ih => simp [State.putD, ih]
@[simp] theorem State.putD_reservation (s : State) (first : Nat) (g : Nat → DWord) (count : Nat) :
    (State.putD s first g count).reservation = s.reservation := by
  induction count with
  | zero => rfl
  | succ n ih => simp [State.putD, ih]
@[simp] theorem State.putD_imem (s : State) (first : Nat) (g : Nat → DWord) (count : Nat) :
    (State.putD s first g count).imem = s.imem := by
  induction count with
  | zero => rfl
  | succ n ih => simp [State.putD, ih]
@[simp] theorem State.putD_mem (s : State) (first : Nat) (g : Nat → DWord) (count : Nat) :
    (State.putD s first g count).mem = s.mem := by
  induction count with
  | zero => rfl
  | succ n ih => simp [State.putD, ih]
@[simp] theorem State.putD_freeCount (s : State) (first : Nat) (g : Nat → DWord) (count : Nat) :
    (State.putD s first g count).freeCount = s.freeCount := by
  induction count with
  | zero => rfl
  | succ n ih => simp [State.putD, ih]

/-! ### Storing bytes -/

@[simp] theorem State.setBytes_params (s : State) (a : Word) (bs : List Byte) :
    (State.setBytes s a bs).params = s.params := by
  induction bs generalizing s a with
  | nil => rfl
  | cons b rest ih => simp [State.setBytes, ih]
@[simp] theorem State.setBytes_pc (s : State) (a : Word) (bs : List Byte) :
    (State.setBytes s a bs).pc = s.pc := by
  induction bs generalizing s a with
  | nil => rfl
  | cons b rest ih => simp [State.setBytes, ih]
@[simp] theorem State.setBytes_r (s : State) (a : Word) (bs : List Byte) :
    (State.setBytes s a bs).r = s.r := by
  induction bs generalizing s a with
  | nil => rfl
  | cons b rest ih => simp [State.setBytes, ih]
@[simp] theorem State.setBytes_rFiq (s : State) (a : Word) (bs : List Byte) :
    (State.setBytes s a bs).rFiq = s.rFiq := by
  induction bs generalizing s a with
  | nil => rfl
  | cons b rest ih => simp [State.setBytes, ih]
@[simp] theorem State.setBytes_sp (s : State) (a : Word) (bs : List Byte) :
    (State.setBytes s a bs).sp = s.sp := by
  induction bs generalizing s a with
  | nil => rfl
  | cons b rest ih => simp [State.setBytes, ih]
@[simp] theorem State.setBytes_lr (s : State) (a : Word) (bs : List Byte) :
    (State.setBytes s a bs).lr = s.lr := by
  induction bs generalizing s a with
  | nil => rfl
  | cons b rest ih => simp [State.setBytes, ih]
@[simp] theorem State.setBytes_spsr (s : State) (a : Word) (bs : List Byte) :
    (State.setBytes s a bs).spsr = s.spsr := by
  induction bs generalizing s a with
  | nil => rfl
  | cons b rest ih => simp [State.setBytes, ih]
@[simp] theorem State.setBytes_cpsr (s : State) (a : Word) (bs : List Byte) :
    (State.setBytes s a bs).cpsr = s.cpsr := by
  induction bs generalizing s a with
  | nil => rfl
  | cons b rest ih => simp [State.setBytes, ih]
@[simp] theorem State.setBytes_fpscr (s : State) (a : Word) (bs : List Byte) :
    (State.setBytes s a bs).fpscr = s.fpscr := by
  induction bs generalizing s a with
  | nil => rfl
  | cons b rest ih => simp [State.setBytes, ih]
@[simp] theorem State.setBytes_d (s : State) (a : Word) (bs : List Byte) :
    (State.setBytes s a bs).d = s.d := by
  induction bs generalizing s a with
  | nil => rfl
  | cons b rest ih => simp [State.setBytes, ih]
@[simp] theorem State.setBytes_ctl (s : State) (a : Word) (bs : List Byte) :
    (State.setBytes s a bs).ctl = s.ctl := by
  induction bs generalizing s a with
  | nil => rfl
  | cons b rest ih => simp [State.setBytes, ih]
@[simp] theorem State.setBytes_privRegions (s : State) (a : Word) (bs : List Byte) :
    (State.setBytes s a bs).privRegions = s.privRegions := by
  induction bs generalizing s a with
  | nil => rfl
  | cons b rest ih => simp [State.setBytes, ih]
@[simp] theorem State.setBytes_reservation (s : State) (a : Word) (bs : List Byte) :
    (State.setBytes s a bs).reservation = s.reservation := by
  induction bs generalizing s a with
  | nil => rfl
  | cons b rest ih => simp [State.setBytes, ih]
@[simp] theorem State.setBytes_imem (s : State) (a : Word) (bs : List Byte) :
    (State.setBytes s a bs).imem = s.imem := by
  induction bs generalizing s a with
  | nil => rfl
  | cons b rest ih => simp [State.setBytes, ih]
@[simp] theorem State.setBytes_freeCount (s : State) (a : Word) (bs : List Byte) :
    (State.setBytes s a bs).freeCount = s.freeCount := by
  induction bs generalizing s a with
  | nil => rfl
  | cons b rest ih => simp [State.setBytes, ih]

/-! ### Writing a result -/

@[simp] theorem State.putLanes_params (s : State) {e : Nat} (first count : Nat) (xs : List (Lane e)) :
    (s.putLanes first count xs).params = s.params := by simp [State.putLanes]
@[simp] theorem State.putLanes_pc (s : State) {e : Nat} (first count : Nat) (xs : List (Lane e)) :
    (s.putLanes first count xs).pc = s.pc := by simp [State.putLanes]
@[simp] theorem State.putLanes_r (s : State) {e : Nat} (first count : Nat) (xs : List (Lane e)) :
    (s.putLanes first count xs).r = s.r := by simp [State.putLanes]
@[simp] theorem State.putLanes_rFiq (s : State) {e : Nat} (first count : Nat) (xs : List (Lane e)) :
    (s.putLanes first count xs).rFiq = s.rFiq := by simp [State.putLanes]
@[simp] theorem State.putLanes_sp (s : State) {e : Nat} (first count : Nat) (xs : List (Lane e)) :
    (s.putLanes first count xs).sp = s.sp := by simp [State.putLanes]
@[simp] theorem State.putLanes_lr (s : State) {e : Nat} (first count : Nat) (xs : List (Lane e)) :
    (s.putLanes first count xs).lr = s.lr := by simp [State.putLanes]
@[simp] theorem State.putLanes_spsr (s : State) {e : Nat} (first count : Nat) (xs : List (Lane e)) :
    (s.putLanes first count xs).spsr = s.spsr := by simp [State.putLanes]
@[simp] theorem State.putLanes_cpsr (s : State) {e : Nat} (first count : Nat) (xs : List (Lane e)) :
    (s.putLanes first count xs).cpsr = s.cpsr := by simp [State.putLanes]
@[simp] theorem State.putLanes_ctl (s : State) {e : Nat} (first count : Nat) (xs : List (Lane e)) :
    (s.putLanes first count xs).ctl = s.ctl := by simp [State.putLanes]
@[simp] theorem State.putLanes_privRegions (s : State) {e : Nat} (first count : Nat) (xs : List (Lane e)) :
    (s.putLanes first count xs).privRegions = s.privRegions := by simp [State.putLanes]
@[simp] theorem State.putLanes_reservation (s : State) {e : Nat} (first count : Nat) (xs : List (Lane e)) :
    (s.putLanes first count xs).reservation = s.reservation := by simp [State.putLanes]
@[simp] theorem State.putLanes_imem (s : State) {e : Nat} (first count : Nat) (xs : List (Lane e)) :
    (s.putLanes first count xs).imem = s.imem := by simp [State.putLanes]
@[simp] theorem State.putLanes_mem (s : State) {e : Nat} (first count : Nat) (xs : List (Lane e)) :
    (s.putLanes first count xs).mem = s.mem := by simp [State.putLanes]
@[simp] theorem State.putLanes_freeCount (s : State) {e : Nat} (first count : Nat) (xs : List (Lane e)) :
    (s.putLanes first count xs).freeCount = s.freeCount := by simp [State.putLanes]

@[simp] theorem State.putLanes_fpscr (s : State) {e : Nat} (first count : Nat) (xs : List (Lane e)) :
    (s.putLanes first count xs).fpscr = s.fpscr ||| laneFlags xs := by simp [State.putLanes]

/-! ### Writing free values -/

@[simp] theorem State.putFree_params (s : State) (first n : Nat) :
    (s.putFree first n).params = s.params := by simp [State.putFree]
@[simp] theorem State.putFree_pc (s : State) (first n : Nat) :
    (s.putFree first n).pc = s.pc := by simp [State.putFree]
@[simp] theorem State.putFree_r (s : State) (first n : Nat) :
    (s.putFree first n).r = s.r := by simp [State.putFree]
@[simp] theorem State.putFree_rFiq (s : State) (first n : Nat) :
    (s.putFree first n).rFiq = s.rFiq := by simp [State.putFree]
@[simp] theorem State.putFree_sp (s : State) (first n : Nat) :
    (s.putFree first n).sp = s.sp := by simp [State.putFree]
@[simp] theorem State.putFree_lr (s : State) (first n : Nat) :
    (s.putFree first n).lr = s.lr := by simp [State.putFree]
@[simp] theorem State.putFree_spsr (s : State) (first n : Nat) :
    (s.putFree first n).spsr = s.spsr := by simp [State.putFree]
@[simp] theorem State.putFree_cpsr (s : State) (first n : Nat) :
    (s.putFree first n).cpsr = s.cpsr := by simp [State.putFree]
@[simp] theorem State.putFree_fpscr (s : State) (first n : Nat) :
    (s.putFree first n).fpscr = s.fpscr := by simp [State.putFree]
@[simp] theorem State.putFree_ctl (s : State) (first n : Nat) :
    (s.putFree first n).ctl = s.ctl := by simp [State.putFree]
@[simp] theorem State.putFree_privRegions (s : State) (first n : Nat) :
    (s.putFree first n).privRegions = s.privRegions := by simp [State.putFree]
@[simp] theorem State.putFree_reservation (s : State) (first n : Nat) :
    (s.putFree first n).reservation = s.reservation := by simp [State.putFree]
@[simp] theorem State.putFree_imem (s : State) (first n : Nat) :
    (s.putFree first n).imem = s.imem := by simp [State.putFree]
@[simp] theorem State.putFree_mem (s : State) (first n : Nat) :
    (s.putFree first n).mem = s.mem := by simp [State.putFree]

/-! ### Storing an element -/

@[simp] theorem State.writeElem_params {e : Nat} (s : State) (a : Word) (x : BitVec e) :
    (s.writeElem a x).params = s.params := by simp [State.writeElem]
@[simp] theorem State.writeElem_pc {e : Nat} (s : State) (a : Word) (x : BitVec e) :
    (s.writeElem a x).pc = s.pc := by simp [State.writeElem]
@[simp] theorem State.writeElem_r {e : Nat} (s : State) (a : Word) (x : BitVec e) :
    (s.writeElem a x).r = s.r := by simp [State.writeElem]
@[simp] theorem State.writeElem_rFiq {e : Nat} (s : State) (a : Word) (x : BitVec e) :
    (s.writeElem a x).rFiq = s.rFiq := by simp [State.writeElem]
@[simp] theorem State.writeElem_sp {e : Nat} (s : State) (a : Word) (x : BitVec e) :
    (s.writeElem a x).sp = s.sp := by simp [State.writeElem]
@[simp] theorem State.writeElem_lr {e : Nat} (s : State) (a : Word) (x : BitVec e) :
    (s.writeElem a x).lr = s.lr := by simp [State.writeElem]
@[simp] theorem State.writeElem_spsr {e : Nat} (s : State) (a : Word) (x : BitVec e) :
    (s.writeElem a x).spsr = s.spsr := by simp [State.writeElem]
@[simp] theorem State.writeElem_cpsr {e : Nat} (s : State) (a : Word) (x : BitVec e) :
    (s.writeElem a x).cpsr = s.cpsr := by simp [State.writeElem]
@[simp] theorem State.writeElem_fpscr {e : Nat} (s : State) (a : Word) (x : BitVec e) :
    (s.writeElem a x).fpscr = s.fpscr := by simp [State.writeElem]
@[simp] theorem State.writeElem_d {e : Nat} (s : State) (a : Word) (x : BitVec e) :
    (s.writeElem a x).d = s.d := by simp [State.writeElem]
@[simp] theorem State.writeElem_ctl {e : Nat} (s : State) (a : Word) (x : BitVec e) :
    (s.writeElem a x).ctl = s.ctl := by simp [State.writeElem]
@[simp] theorem State.writeElem_privRegions {e : Nat} (s : State) (a : Word) (x : BitVec e) :
    (s.writeElem a x).privRegions = s.privRegions := by simp [State.writeElem]
@[simp] theorem State.writeElem_reservation {e : Nat} (s : State) (a : Word) (x : BitVec e) :
    (s.writeElem a x).reservation = s.reservation := by simp [State.writeElem]
@[simp] theorem State.writeElem_imem {e : Nat} (s : State) (a : Word) (x : BitVec e) :
    (s.writeElem a x).imem = s.imem := by simp [State.writeElem]
@[simp] theorem State.writeElem_freeCount {e : Nat} (s : State) (a : Word) (x : BitVec e) :
    (s.writeElem a x).freeCount = s.freeCount := by simp [State.writeElem]

/-! ### Loading an element into lanes -/

@[simp] theorem State.setLanes_params (s : State) {e : Nat} (v : BitVec e) (ts : List (Nat × Nat)) :
    (State.setLanes s v ts).params = s.params := by
  induction ts generalizing s with
  | nil => rfl
  | cons t rest ih => simp [State.setLanes, ih]
@[simp] theorem State.setLanes_pc (s : State) {e : Nat} (v : BitVec e) (ts : List (Nat × Nat)) :
    (State.setLanes s v ts).pc = s.pc := by
  induction ts generalizing s with
  | nil => rfl
  | cons t rest ih => simp [State.setLanes, ih]
@[simp] theorem State.setLanes_r (s : State) {e : Nat} (v : BitVec e) (ts : List (Nat × Nat)) :
    (State.setLanes s v ts).r = s.r := by
  induction ts generalizing s with
  | nil => rfl
  | cons t rest ih => simp [State.setLanes, ih]
@[simp] theorem State.setLanes_rFiq (s : State) {e : Nat} (v : BitVec e) (ts : List (Nat × Nat)) :
    (State.setLanes s v ts).rFiq = s.rFiq := by
  induction ts generalizing s with
  | nil => rfl
  | cons t rest ih => simp [State.setLanes, ih]
@[simp] theorem State.setLanes_sp (s : State) {e : Nat} (v : BitVec e) (ts : List (Nat × Nat)) :
    (State.setLanes s v ts).sp = s.sp := by
  induction ts generalizing s with
  | nil => rfl
  | cons t rest ih => simp [State.setLanes, ih]
@[simp] theorem State.setLanes_lr (s : State) {e : Nat} (v : BitVec e) (ts : List (Nat × Nat)) :
    (State.setLanes s v ts).lr = s.lr := by
  induction ts generalizing s with
  | nil => rfl
  | cons t rest ih => simp [State.setLanes, ih]
@[simp] theorem State.setLanes_spsr (s : State) {e : Nat} (v : BitVec e) (ts : List (Nat × Nat)) :
    (State.setLanes s v ts).spsr = s.spsr := by
  induction ts generalizing s with
  | nil => rfl
  | cons t rest ih => simp [State.setLanes, ih]
@[simp] theorem State.setLanes_cpsr (s : State) {e : Nat} (v : BitVec e) (ts : List (Nat × Nat)) :
    (State.setLanes s v ts).cpsr = s.cpsr := by
  induction ts generalizing s with
  | nil => rfl
  | cons t rest ih => simp [State.setLanes, ih]
@[simp] theorem State.setLanes_fpscr (s : State) {e : Nat} (v : BitVec e) (ts : List (Nat × Nat)) :
    (State.setLanes s v ts).fpscr = s.fpscr := by
  induction ts generalizing s with
  | nil => rfl
  | cons t rest ih => simp [State.setLanes, ih]
@[simp] theorem State.setLanes_ctl (s : State) {e : Nat} (v : BitVec e) (ts : List (Nat × Nat)) :
    (State.setLanes s v ts).ctl = s.ctl := by
  induction ts generalizing s with
  | nil => rfl
  | cons t rest ih => simp [State.setLanes, ih]
@[simp] theorem State.setLanes_privRegions (s : State) {e : Nat} (v : BitVec e) (ts : List (Nat × Nat)) :
    (State.setLanes s v ts).privRegions = s.privRegions := by
  induction ts generalizing s with
  | nil => rfl
  | cons t rest ih => simp [State.setLanes, ih]
@[simp] theorem State.setLanes_reservation (s : State) {e : Nat} (v : BitVec e) (ts : List (Nat × Nat)) :
    (State.setLanes s v ts).reservation = s.reservation := by
  induction ts generalizing s with
  | nil => rfl
  | cons t rest ih => simp [State.setLanes, ih]
@[simp] theorem State.setLanes_imem (s : State) {e : Nat} (v : BitVec e) (ts : List (Nat × Nat)) :
    (State.setLanes s v ts).imem = s.imem := by
  induction ts generalizing s with
  | nil => rfl
  | cons t rest ih => simp [State.setLanes, ih]
@[simp] theorem State.setLanes_mem (s : State) {e : Nat} (v : BitVec e) (ts : List (Nat × Nat)) :
    (State.setLanes s v ts).mem = s.mem := by
  induction ts generalizing s with
  | nil => rfl
  | cons t rest ih => simp [State.setLanes, ih]
@[simp] theorem State.setLanes_freeCount (s : State) {e : Nat} (v : BitVec e) (ts : List (Nat × Nat)) :
    (State.setLanes s v ts).freeCount = s.freeCount := by
  induction ts generalizing s with
  | nil => rfl
  | cons t rest ih => simp [State.setLanes, ih]

/-! ### Loading elements -/

@[simp] theorem State.loadElems_params (s : State) (e : Nat) (a : Word) (ts : List (List (Nat × Nat))) :
    (State.loadElems s e a ts).params = s.params := by
  induction ts generalizing s a with
  | nil => rfl
  | cons t rest ih => simp [State.loadElems, ih]
@[simp] theorem State.loadElems_pc (s : State) (e : Nat) (a : Word) (ts : List (List (Nat × Nat))) :
    (State.loadElems s e a ts).pc = s.pc := by
  induction ts generalizing s a with
  | nil => rfl
  | cons t rest ih => simp [State.loadElems, ih]
@[simp] theorem State.loadElems_r (s : State) (e : Nat) (a : Word) (ts : List (List (Nat × Nat))) :
    (State.loadElems s e a ts).r = s.r := by
  induction ts generalizing s a with
  | nil => rfl
  | cons t rest ih => simp [State.loadElems, ih]
@[simp] theorem State.loadElems_rFiq (s : State) (e : Nat) (a : Word) (ts : List (List (Nat × Nat))) :
    (State.loadElems s e a ts).rFiq = s.rFiq := by
  induction ts generalizing s a with
  | nil => rfl
  | cons t rest ih => simp [State.loadElems, ih]
@[simp] theorem State.loadElems_sp (s : State) (e : Nat) (a : Word) (ts : List (List (Nat × Nat))) :
    (State.loadElems s e a ts).sp = s.sp := by
  induction ts generalizing s a with
  | nil => rfl
  | cons t rest ih => simp [State.loadElems, ih]
@[simp] theorem State.loadElems_lr (s : State) (e : Nat) (a : Word) (ts : List (List (Nat × Nat))) :
    (State.loadElems s e a ts).lr = s.lr := by
  induction ts generalizing s a with
  | nil => rfl
  | cons t rest ih => simp [State.loadElems, ih]
@[simp] theorem State.loadElems_spsr (s : State) (e : Nat) (a : Word) (ts : List (List (Nat × Nat))) :
    (State.loadElems s e a ts).spsr = s.spsr := by
  induction ts generalizing s a with
  | nil => rfl
  | cons t rest ih => simp [State.loadElems, ih]
@[simp] theorem State.loadElems_cpsr (s : State) (e : Nat) (a : Word) (ts : List (List (Nat × Nat))) :
    (State.loadElems s e a ts).cpsr = s.cpsr := by
  induction ts generalizing s a with
  | nil => rfl
  | cons t rest ih => simp [State.loadElems, ih]
@[simp] theorem State.loadElems_fpscr (s : State) (e : Nat) (a : Word) (ts : List (List (Nat × Nat))) :
    (State.loadElems s e a ts).fpscr = s.fpscr := by
  induction ts generalizing s a with
  | nil => rfl
  | cons t rest ih => simp [State.loadElems, ih]
@[simp] theorem State.loadElems_ctl (s : State) (e : Nat) (a : Word) (ts : List (List (Nat × Nat))) :
    (State.loadElems s e a ts).ctl = s.ctl := by
  induction ts generalizing s a with
  | nil => rfl
  | cons t rest ih => simp [State.loadElems, ih]
@[simp] theorem State.loadElems_privRegions (s : State) (e : Nat) (a : Word) (ts : List (List (Nat × Nat))) :
    (State.loadElems s e a ts).privRegions = s.privRegions := by
  induction ts generalizing s a with
  | nil => rfl
  | cons t rest ih => simp [State.loadElems, ih]
@[simp] theorem State.loadElems_reservation (s : State) (e : Nat) (a : Word) (ts : List (List (Nat × Nat))) :
    (State.loadElems s e a ts).reservation = s.reservation := by
  induction ts generalizing s a with
  | nil => rfl
  | cons t rest ih => simp [State.loadElems, ih]
@[simp] theorem State.loadElems_imem (s : State) (e : Nat) (a : Word) (ts : List (List (Nat × Nat))) :
    (State.loadElems s e a ts).imem = s.imem := by
  induction ts generalizing s a with
  | nil => rfl
  | cons t rest ih => simp [State.loadElems, ih]
@[simp] theorem State.loadElems_mem (s : State) (e : Nat) (a : Word) (ts : List (List (Nat × Nat))) :
    (State.loadElems s e a ts).mem = s.mem := by
  induction ts generalizing s a with
  | nil => rfl
  | cons t rest ih => simp [State.loadElems, ih]
@[simp] theorem State.loadElems_freeCount (s : State) (e : Nat) (a : Word) (ts : List (List (Nat × Nat))) :
    (State.loadElems s e a ts).freeCount = s.freeCount := by
  induction ts generalizing s a with
  | nil => rfl
  | cons t rest ih => simp [State.loadElems, ih]

/-! ### Storing elements -/

@[simp] theorem State.storeElems_params (s : State) (e : Nat) (a : Word) (ts : List (List (Nat × Nat))) :
    (State.storeElems s e a ts).params = s.params := by
  induction ts generalizing s a with
  | nil => rfl
  | cons t rest ih => simp [State.storeElems, ih]
@[simp] theorem State.storeElems_pc (s : State) (e : Nat) (a : Word) (ts : List (List (Nat × Nat))) :
    (State.storeElems s e a ts).pc = s.pc := by
  induction ts generalizing s a with
  | nil => rfl
  | cons t rest ih => simp [State.storeElems, ih]
@[simp] theorem State.storeElems_r (s : State) (e : Nat) (a : Word) (ts : List (List (Nat × Nat))) :
    (State.storeElems s e a ts).r = s.r := by
  induction ts generalizing s a with
  | nil => rfl
  | cons t rest ih => simp [State.storeElems, ih]
@[simp] theorem State.storeElems_rFiq (s : State) (e : Nat) (a : Word) (ts : List (List (Nat × Nat))) :
    (State.storeElems s e a ts).rFiq = s.rFiq := by
  induction ts generalizing s a with
  | nil => rfl
  | cons t rest ih => simp [State.storeElems, ih]
@[simp] theorem State.storeElems_sp (s : State) (e : Nat) (a : Word) (ts : List (List (Nat × Nat))) :
    (State.storeElems s e a ts).sp = s.sp := by
  induction ts generalizing s a with
  | nil => rfl
  | cons t rest ih => simp [State.storeElems, ih]
@[simp] theorem State.storeElems_lr (s : State) (e : Nat) (a : Word) (ts : List (List (Nat × Nat))) :
    (State.storeElems s e a ts).lr = s.lr := by
  induction ts generalizing s a with
  | nil => rfl
  | cons t rest ih => simp [State.storeElems, ih]
@[simp] theorem State.storeElems_spsr (s : State) (e : Nat) (a : Word) (ts : List (List (Nat × Nat))) :
    (State.storeElems s e a ts).spsr = s.spsr := by
  induction ts generalizing s a with
  | nil => rfl
  | cons t rest ih => simp [State.storeElems, ih]
@[simp] theorem State.storeElems_cpsr (s : State) (e : Nat) (a : Word) (ts : List (List (Nat × Nat))) :
    (State.storeElems s e a ts).cpsr = s.cpsr := by
  induction ts generalizing s a with
  | nil => rfl
  | cons t rest ih => simp [State.storeElems, ih]
@[simp] theorem State.storeElems_fpscr (s : State) (e : Nat) (a : Word) (ts : List (List (Nat × Nat))) :
    (State.storeElems s e a ts).fpscr = s.fpscr := by
  induction ts generalizing s a with
  | nil => rfl
  | cons t rest ih => simp [State.storeElems, ih]
@[simp] theorem State.storeElems_d (s : State) (e : Nat) (a : Word) (ts : List (List (Nat × Nat))) :
    (State.storeElems s e a ts).d = s.d := by
  induction ts generalizing s a with
  | nil => rfl
  | cons t rest ih => simp [State.storeElems, ih]
@[simp] theorem State.storeElems_ctl (s : State) (e : Nat) (a : Word) (ts : List (List (Nat × Nat))) :
    (State.storeElems s e a ts).ctl = s.ctl := by
  induction ts generalizing s a with
  | nil => rfl
  | cons t rest ih => simp [State.storeElems, ih]
@[simp] theorem State.storeElems_privRegions (s : State) (e : Nat) (a : Word) (ts : List (List (Nat × Nat))) :
    (State.storeElems s e a ts).privRegions = s.privRegions := by
  induction ts generalizing s a with
  | nil => rfl
  | cons t rest ih => simp [State.storeElems, ih]
@[simp] theorem State.storeElems_reservation (s : State) (e : Nat) (a : Word) (ts : List (List (Nat × Nat))) :
    (State.storeElems s e a ts).reservation = s.reservation := by
  induction ts generalizing s a with
  | nil => rfl
  | cons t rest ih => simp [State.storeElems, ih]
@[simp] theorem State.storeElems_imem (s : State) (e : Nat) (a : Word) (ts : List (List (Nat × Nat))) :
    (State.storeElems s e a ts).imem = s.imem := by
  induction ts generalizing s a with
  | nil => rfl
  | cons t rest ih => simp [State.storeElems, ih]
@[simp] theorem State.storeElems_freeCount (s : State) (e : Nat) (a : Word) (ts : List (List (Nat × Nat))) :
    (State.storeElems s e a ts).freeCount = s.freeCount := by
  induction ts generalizing s a with
  | nil => rfl
  | cons t rest ih => simp [State.storeElems, ih]

/-! ### Writing a general register -/

@[simp] theorem State.writeReg_params (s : State) (n : BitVec 4) (v : Word) : (s.writeReg n v).params = s.params := by
  unfold State.writeReg; split <;> (try split) <;> (try split) <;> (try split) <;> rfl
@[simp] theorem State.writeReg_pc (s : State) (n : BitVec 4) (v : Word) : (s.writeReg n v).pc = s.pc := by
  unfold State.writeReg; split <;> (try split) <;> (try split) <;> (try split) <;> rfl
@[simp] theorem State.writeReg_spsr (s : State) (n : BitVec 4) (v : Word) : (s.writeReg n v).spsr = s.spsr := by
  unfold State.writeReg; split <;> (try split) <;> (try split) <;> (try split) <;> rfl
@[simp] theorem State.writeReg_cpsr (s : State) (n : BitVec 4) (v : Word) : (s.writeReg n v).cpsr = s.cpsr := by
  unfold State.writeReg; split <;> (try split) <;> (try split) <;> (try split) <;> rfl
@[simp] theorem State.writeReg_fpscr (s : State) (n : BitVec 4) (v : Word) : (s.writeReg n v).fpscr = s.fpscr := by
  unfold State.writeReg; split <;> (try split) <;> (try split) <;> (try split) <;> rfl
@[simp] theorem State.writeReg_d (s : State) (n : BitVec 4) (v : Word) : (s.writeReg n v).d = s.d := by
  unfold State.writeReg; split <;> (try split) <;> (try split) <;> (try split) <;> rfl
@[simp] theorem State.writeReg_ctl (s : State) (n : BitVec 4) (v : Word) : (s.writeReg n v).ctl = s.ctl := by
  unfold State.writeReg; split <;> (try split) <;> (try split) <;> (try split) <;> rfl
@[simp] theorem State.writeReg_privRegions (s : State) (n : BitVec 4) (v : Word) : (s.writeReg n v).privRegions = s.privRegions := by
  unfold State.writeReg; split <;> (try split) <;> (try split) <;> (try split) <;> rfl
@[simp] theorem State.writeReg_reservation (s : State) (n : BitVec 4) (v : Word) : (s.writeReg n v).reservation = s.reservation := by
  unfold State.writeReg; split <;> (try split) <;> (try split) <;> (try split) <;> rfl
@[simp] theorem State.writeReg_imem (s : State) (n : BitVec 4) (v : Word) : (s.writeReg n v).imem = s.imem := by
  unfold State.writeReg; split <;> (try split) <;> (try split) <;> (try split) <;> rfl
@[simp] theorem State.writeReg_mem (s : State) (n : BitVec 4) (v : Word) : (s.writeReg n v).mem = s.mem := by
  unfold State.writeReg; split <;> (try split) <;> (try split) <;> (try split) <;> rfl
@[simp] theorem State.writeReg_freeCount (s : State) (n : BitVec 4) (v : Word) : (s.writeReg n v).freeCount = s.freeCount := by
  unfold State.writeReg; split <;> (try split) <;> (try split) <;> (try split) <;> rfl

@[simp] theorem State.updateBase_params (s : State) (Rn Rm : BitVec 4) (base index : Word) (moved : Nat) :
    (s.updateBase Rn Rm base index moved).params = s.params := by
  unfold State.updateBase; split <;> (try split) <;> simp
@[simp] theorem State.updateBase_pc (s : State) (Rn Rm : BitVec 4) (base index : Word) (moved : Nat) :
    (s.updateBase Rn Rm base index moved).pc = s.pc := by
  unfold State.updateBase; split <;> (try split) <;> simp
@[simp] theorem State.updateBase_spsr (s : State) (Rn Rm : BitVec 4) (base index : Word) (moved : Nat) :
    (s.updateBase Rn Rm base index moved).spsr = s.spsr := by
  unfold State.updateBase; split <;> (try split) <;> simp
@[simp] theorem State.updateBase_cpsr (s : State) (Rn Rm : BitVec 4) (base index : Word) (moved : Nat) :
    (s.updateBase Rn Rm base index moved).cpsr = s.cpsr := by
  unfold State.updateBase; split <;> (try split) <;> simp
@[simp] theorem State.updateBase_fpscr (s : State) (Rn Rm : BitVec 4) (base index : Word) (moved : Nat) :
    (s.updateBase Rn Rm base index moved).fpscr = s.fpscr := by
  unfold State.updateBase; split <;> (try split) <;> simp
@[simp] theorem State.updateBase_d (s : State) (Rn Rm : BitVec 4) (base index : Word) (moved : Nat) :
    (s.updateBase Rn Rm base index moved).d = s.d := by
  unfold State.updateBase; split <;> (try split) <;> simp
@[simp] theorem State.updateBase_ctl (s : State) (Rn Rm : BitVec 4) (base index : Word) (moved : Nat) :
    (s.updateBase Rn Rm base index moved).ctl = s.ctl := by
  unfold State.updateBase; split <;> (try split) <;> simp
@[simp] theorem State.updateBase_privRegions (s : State) (Rn Rm : BitVec 4) (base index : Word) (moved : Nat) :
    (s.updateBase Rn Rm base index moved).privRegions = s.privRegions := by
  unfold State.updateBase; split <;> (try split) <;> simp
@[simp] theorem State.updateBase_reservation (s : State) (Rn Rm : BitVec 4) (base index : Word) (moved : Nat) :
    (s.updateBase Rn Rm base index moved).reservation = s.reservation := by
  unfold State.updateBase; split <;> (try split) <;> simp
@[simp] theorem State.updateBase_imem (s : State) (Rn Rm : BitVec 4) (base index : Word) (moved : Nat) :
    (s.updateBase Rn Rm base index moved).imem = s.imem := by
  unfold State.updateBase; split <;> (try split) <;> simp
@[simp] theorem State.updateBase_mem (s : State) (Rn Rm : BitVec 4) (base index : Word) (moved : Nat) :
    (s.updateBase Rn Rm base index moved).mem = s.mem := by
  unfold State.updateBase; split <;> (try split) <;> simp
@[simp] theorem State.updateBase_freeCount (s : State) (Rn Rm : BitVec 4) (base index : Word) (moved : Nat) :
    (s.updateBase Rn Rm base index moved).freeCount = s.freeCount := by
  unfold State.updateBase; split <;> (try split) <;> simp

/-! ### Free values past D31 -/

@[simp] theorem State.freePastD31_params (s : State) (x : Transfer) (n : Nat) :
    (s.freePastD31 x n).params = s.params := by
  induction n with
  | zero => rfl
  | succ n ih => simp only [State.freePastD31]; split <;> simp [ih]
@[simp] theorem State.freePastD31_pc (s : State) (x : Transfer) (n : Nat) :
    (s.freePastD31 x n).pc = s.pc := by
  induction n with
  | zero => rfl
  | succ n ih => simp only [State.freePastD31]; split <;> simp [ih]
@[simp] theorem State.freePastD31_r (s : State) (x : Transfer) (n : Nat) :
    (s.freePastD31 x n).r = s.r := by
  induction n with
  | zero => rfl
  | succ n ih => simp only [State.freePastD31]; split <;> simp [ih]
@[simp] theorem State.freePastD31_rFiq (s : State) (x : Transfer) (n : Nat) :
    (s.freePastD31 x n).rFiq = s.rFiq := by
  induction n with
  | zero => rfl
  | succ n ih => simp only [State.freePastD31]; split <;> simp [ih]
@[simp] theorem State.freePastD31_sp (s : State) (x : Transfer) (n : Nat) :
    (s.freePastD31 x n).sp = s.sp := by
  induction n with
  | zero => rfl
  | succ n ih => simp only [State.freePastD31]; split <;> simp [ih]
@[simp] theorem State.freePastD31_lr (s : State) (x : Transfer) (n : Nat) :
    (s.freePastD31 x n).lr = s.lr := by
  induction n with
  | zero => rfl
  | succ n ih => simp only [State.freePastD31]; split <;> simp [ih]
@[simp] theorem State.freePastD31_spsr (s : State) (x : Transfer) (n : Nat) :
    (s.freePastD31 x n).spsr = s.spsr := by
  induction n with
  | zero => rfl
  | succ n ih => simp only [State.freePastD31]; split <;> simp [ih]
@[simp] theorem State.freePastD31_cpsr (s : State) (x : Transfer) (n : Nat) :
    (s.freePastD31 x n).cpsr = s.cpsr := by
  induction n with
  | zero => rfl
  | succ n ih => simp only [State.freePastD31]; split <;> simp [ih]
@[simp] theorem State.freePastD31_fpscr (s : State) (x : Transfer) (n : Nat) :
    (s.freePastD31 x n).fpscr = s.fpscr := by
  induction n with
  | zero => rfl
  | succ n ih => simp only [State.freePastD31]; split <;> simp [ih]
@[simp] theorem State.freePastD31_ctl (s : State) (x : Transfer) (n : Nat) :
    (s.freePastD31 x n).ctl = s.ctl := by
  induction n with
  | zero => rfl
  | succ n ih => simp only [State.freePastD31]; split <;> simp [ih]
@[simp] theorem State.freePastD31_privRegions (s : State) (x : Transfer) (n : Nat) :
    (s.freePastD31 x n).privRegions = s.privRegions := by
  induction n with
  | zero => rfl
  | succ n ih => simp only [State.freePastD31]; split <;> simp [ih]
@[simp] theorem State.freePastD31_reservation (s : State) (x : Transfer) (n : Nat) :
    (s.freePastD31 x n).reservation = s.reservation := by
  induction n with
  | zero => rfl
  | succ n ih => simp only [State.freePastD31]; split <;> simp [ih]
@[simp] theorem State.freePastD31_imem (s : State) (x : Transfer) (n : Nat) :
    (s.freePastD31 x n).imem = s.imem := by
  induction n with
  | zero => rfl
  | succ n ih => simp only [State.freePastD31]; split <;> simp [ih]
@[simp] theorem State.freePastD31_mem (s : State) (x : Transfer) (n : Nat) :
    (s.freePastD31 x n).mem = s.mem := by
  induction n with
  | zero => rfl
  | succ n ih => simp only [State.freePastD31]; split <;> simp [ih]
@[simp] theorem State.freePastD31_freeCount (s : State) (x : Transfer) (n : Nat) :
    (s.freePastD31 x n).freeCount = s.freeCount := by
  induction n with
  | zero => rfl
  | succ n ih => simp only [State.freePastD31]; split <;> simp [ih]

end Sys2Proof.Machine
end

