-- ==== Sys2Proof/Laws/Memory.lean ====
section
/-! SUPPORT. Data memory: reading after a write, and the canonical form that every memory operation keeps. -/

namespace Sys2Proof.Machine

set_option Elab.async false

/-- The canonical form of a list with a head. -/
theorem Memory.wf_cons (c : Host.Cell) (rest : Memory) :
    Memory.wf (c :: rest) = true ↔
      c.1 < 2 ^ 32 ∧ c.2 ≠ Memory.unlisted ∧ (∀ x ∈ rest, c.1 < x.1) ∧ Memory.wf rest = true := by
  simp [Memory.wf, and_assoc]

/-- An address below every listed one reads as unlisted. -/
theorem Memory.read_of_lt (m : Memory) (a : Nat) (h : ∀ x ∈ m, a < x.1) : Memory.read m a = Memory.unlisted := by
  induction m with
  | nil => rfl
  | cons c rest ih =>
    have hc := h c (by simp)
    have hne : c.1 ≠ a := by omega
    simp only [Memory.read, hne, if_false]
    exact ih (fun x hx => h x (by simp [hx]))

/-- The addresses after a write are those before it and the written one. -/
theorem Memory.mem_write (m : Memory) (a : Nat) (v : Byte) (x : Host.Cell) (h : x ∈ Memory.write m a v) :
    x ∈ m ∨ x = (a, v) := by
  induction m with
  | nil =>
    unfold Memory.write at h
    split at h <;> simp_all
  | cons c rest ih =>
    unfold Memory.write at h
    split at h
    · split at h <;> simp_all
      rcases h with h | h | h <;> simp [h]
    · split at h
      · split at h <;> simp_all
        rcases h with h | h <;> simp [h]
      · rcases List.mem_cons.mp h with h | h
        · simp [h]
        · rcases ih h with h | h <;> simp [h]

/-- A write keeps the canonical form. -/
theorem Memory.write_wf (m : Memory) (a : Nat) (v : Byte) (hm : Memory.wf m = true) (ha : a < 2 ^ 32) :
    Memory.wf (Memory.write m a v) = true := by
  induction m with
  | nil =>
    unfold Memory.write
    split
    · rfl
    · rename_i hv; rw [Memory.wf_cons]; exact ⟨ha, hv, by simp, rfl⟩
  | cons c rest ih =>
    rw [Memory.wf_cons] at hm
    obtain ⟨h1, h2, h3, h4⟩ := hm
    unfold Memory.write
    split
    · rename_i hlt
      split
      · rw [Memory.wf_cons]; exact ⟨h1, h2, h3, h4⟩
      · rename_i hv
        rw [Memory.wf_cons]
        refine ⟨ha, hv, ?_, ?_⟩
        · intro x hx
          rcases List.mem_cons.mp hx with hx | hx
          · subst hx; exact hlt
          · have := h3 x hx; simp only; omega
        · rw [Memory.wf_cons]; exact ⟨h1, h2, h3, h4⟩
    · rename_i hlt
      split
      · rename_i heq
        split
        · exact h4
        · rename_i hv
          rw [Memory.wf_cons]
          exact ⟨ha, hv, by simpa [heq] using h3, h4⟩
      · rename_i hne
        rw [Memory.wf_cons]
        refine ⟨h1, h2, ?_, ih h4⟩
        intro x hx
        rcases Memory.mem_write rest a v x hx with hx | hx
        · exact h3 x hx
        · subst hx; simp only; omega

/-- Reading after a write: the written value at its address, what was there elsewhere. -/
theorem Memory.read_write (m : Memory) (a b : Nat) (v : Byte) (hm : Memory.wf m = true) :
    Memory.read (Memory.write m a v) b = if b = a then v else Memory.read m b := by
  induction m with
  | nil =>
    unfold Memory.write
    by_cases hv : v = Memory.unlisted
    · simp [hv, Memory.read]
    · by_cases hb : b = a
      · simp [hv, Memory.read, hb]
      · simp [hv, Memory.read, hb, Ne.symm hb]
  | cons c rest ih =>
    rw [Memory.wf_cons] at hm
    obtain ⟨h1, h2, h3, h4⟩ := hm
    unfold Memory.write
    split
    · rename_i hlt
      split
      · rename_i hv
        by_cases hb : b = a
        · have : Memory.read (c :: rest) a = Memory.unlisted := by
            apply Memory.read_of_lt
            intro x hx
            rcases List.mem_cons.mp hx with hx | hx
            · subst hx; exact hlt
            · have := h3 x hx; omega
          simp [hb, this, hv]
        · simp [hb]
      · by_cases hb : b = a
        · simp [Memory.read, hb]
        · simp [Memory.read, hb, Ne.symm hb]
    · split
      · rename_i heq
        split
        · rename_i hv
          by_cases hb : b = a
          · have : Memory.read rest a = Memory.unlisted :=
              Memory.read_of_lt rest a (fun x hx => by have := h3 x hx; omega)
            simp [hb, this, hv]
          · have : c.1 ≠ b := by omega
            simp [hb, Memory.read, this]
        · by_cases hb : b = a
          · simp [Memory.read, hb]
          · have : c.1 ≠ b := by omega
            simp [Memory.read, hb, Ne.symm hb, this]
      · rename_i hlt hne
        by_cases hcb : c.1 = b
        · have : b ≠ a := by omega
          simp [Memory.read, hcb, this]
        · simp [Memory.read, hcb, ih h4]

/-- Reading a byte after storing one. -/
theorem State.byte_setByte (s : State) (a b : Word) (v : Byte) (hm : Memory.wf s.mem = true) :
    (s.setByte a v).byte b = if b = a then v else s.byte b := by
  simp only [State.byte, State.setByte_mem, Memory.read_write _ _ _ _ hm]
  by_cases h : b = a
  · simp [h]
  · have : b.toNat ≠ a.toNat := fun hn => h (BitVec.eq_of_toNat_eq hn)
    simp [h, this]

/-- Storing a byte keeps the canonical form. -/
theorem State.setByte_wf (s : State) (a : Word) (v : Byte) (hm : Memory.wf s.mem = true) :
    Memory.wf (s.setByte a v).mem = true :=
  Memory.write_wf _ _ _ hm a.isLt

/-- Storing bytes keeps the canonical form. -/
theorem State.setBytes_wf (s : State) (a : Word) (bs : List Byte) (hm : Memory.wf s.mem = true) :
    Memory.wf (s.setBytes a bs).mem = true := by
  induction bs generalizing s a with
  | nil => exact hm
  | cons b rest ih => exact ih _ _ (State.setByte_wf s a b hm)

/-- Storing an element keeps the canonical form. -/
theorem State.writeElem_wf {e : Nat} (s : State) (a : Word) (x : BitVec e) (hm : Memory.wf s.mem = true) :
    Memory.wf (s.writeElem a x).mem = true :=
  State.setBytes_wf _ _ _ hm

/-- Storing elements keeps the canonical form. -/
theorem State.storeElems_wf (s : State) (e : Nat) (a : Word) (ts : List (List (Nat × Nat)))
    (hm : Memory.wf s.mem = true) : Memory.wf (s.storeElems e a ts).mem = true := by
  induction ts generalizing s a with
  | nil => exact hm
  | cons t rest ih => exact ih _ _ (State.writeElem_wf _ _ _ hm)

/-- The memory right after reset is in canonical form. -/
theorem State.reset_wf : Memory.wf State.reset.mem = true := rfl

/-- Storing bytes leaves every address outside them alone. -/
theorem State.byte_setBytes_other (s : State) (a b : Word) (bs : List Byte) (hm : Memory.wf s.mem = true)
    (h : ∀ i, i < bs.length → b ≠ a + BitVec.ofNat 32 i) : (s.setBytes a bs).byte b = s.byte b := by
  induction bs generalizing s a with
  | nil => rfl
  | cons v rest ih =>
    have h0 : b ≠ a := by simpa using h 0 (by simp)
    rw [State.setBytes, ih (s.setByte a v) (a + 1#32) (State.setByte_wf s a v hm), State.byte_setByte _ _ _ _ hm]
    · simp [h0]
    · intro i hi
      have := h (i + 1) (by simpa using hi)
      rw [show a + 1#32 + BitVec.ofNat 32 i = a + BitVec.ofNat 32 (i + 1) by
        rw [BitVec.ofNat_add, BitVec.add_assoc, BitVec.add_comm 1#32]]
      exact this

/-- A stored element has e / 8 bytes. -/
theorem memoryOrder_length (big : Bool) (bs : List Byte) : (memoryOrder big bs).length = bs.length := by
  unfold memoryOrder; split <;> simp

/-- Storing an element leaves every address outside its e / 8 bytes alone. -/
theorem State.byte_writeElem_other {e : Nat} (s : State) (a b : Word) (x : BitVec e) (hm : Memory.wf s.mem = true)
    (h : ∀ i, i < e / 8 → b ≠ a + BitVec.ofNat 32 i) : (s.writeElem a x).byte b = s.byte b := by
  apply State.byte_setBytes_other _ _ _ _ hm
  simpa [memoryOrder_length, splitBytes] using h

/-- Storing elements leaves every address outside them alone. -/
theorem State.byte_storeElems_other (s : State) (e : Nat) (a b : Word) (ts : List (List (Nat × Nat)))
    (hm : Memory.wf s.mem = true) (h : ∀ i, i < e / 8 * ts.length → b ≠ a + BitVec.ofNat 32 i) :
    (s.storeElems e a ts).byte b = s.byte b := by
  induction ts generalizing s a with
  | nil => rfl
  | cons t rest ih =>
    rw [State.storeElems, ih _ _ (State.writeElem_wf _ _ _ hm), State.byte_writeElem_other _ _ _ _ hm]
    · intro i hi
      apply h i
      simp only [List.length_cons, Nat.mul_add, Nat.mul_one]; omega
    · intro i hi
      have := h (e / 8 + i) (by simp only [List.length_cons, Nat.mul_add, Nat.mul_one]; omega)
      rw [show a + BitVec.ofNat 32 (e / 8) + BitVec.ofNat 32 i = a + BitVec.ofNat 32 (e / 8 + i) by
        rw [BitVec.ofNat_add, BitVec.add_assoc]]
      exact this

end Sys2Proof.Machine
end

