-- ==== Sys2Proof/Laws/Vectors.lean ====
section
/-! SUPPORT. The vector registers and their lanes: what reading gives after each way of writing. -/

namespace Sys2Proof.Machine

set_option Elab.async false

/-- Reading a doubleword register after writing one. -/
theorem State.readD_writeD (s : State) (n k : Nat) (v : DWord) :
    (s.writeD n v).readD k = if k = n ∧ n < 32 then v else s.readD k := by
  simp only [State.readD, State.writeD, Vector.toArray_setIfInBounds, Array.getD_eq_getD_getElem?,
    Array.getElem?_setIfInBounds, Vector.size_toArray]
  by_cases h : n = k
  · subst h
    by_cases h32 : n < 32
    · simp [h32]
    · simp [h32]
  · have : ¬k = n := fun hk => h hk.symm
    simp [h, this]

/-- The other updates leave the vector registers alone. -/
theorem State.readD_congr {s t : State} (h : t.d = s.d) (k : Nat) : t.readD k = s.readD k := by
  simp [State.readD, h]

@[simp] theorem State.readD_setFlags (s : State) (fl : Flags) (k : Nat) : (s.setFlags fl).readD k = s.readD k := rfl

@[simp] theorem State.readD_setPc (s : State) (v : Word) (k : Nat) : ({ s with pc := v } : State).readD k = s.readD k :=
  rfl

/-- Reading a register after writing lanes: the packed lanes inside the registers written, unchanged outside. -/
theorem State.readD_writeLanes (s : State) (e first count k : Nat) (xs : List (BitVec e)) :
    (s.writeLanes e first count xs).readD k =
      if first ≤ k ∧ k < first + count ∧ k < 32 then packLanes e ((xs.drop ((k - first) * (64 / e))).take (64 / e))
      else s.readD k := by
  induction count generalizing s first xs with
  | zero => simp [State.writeLanes]; intro h1 h2; omega
  | succ n ih =>
    rw [State.writeLanes, ih]
    by_cases hk : k = first
    · subst hk
      have h1 : ¬(k + 1 ≤ k ∧ k < k + 1 + n ∧ k < 32) := by omega
      rw [if_neg h1, State.readD_writeD]
      by_cases h32 : k < 32
      · simp [h32]
      · simp [h32]
    · by_cases hin : first + 1 ≤ k ∧ k < first + 1 + n ∧ k < 32
      · have h2 : first ≤ k ∧ k < first + (n + 1) ∧ k < 32 := by omega
        rw [if_pos hin, if_pos h2, List.drop_drop]
        have : 64 / e + (k - (first + 1)) * (64 / e) = (k - first) * (64 / e) := by
          obtain ⟨j, rfl⟩ : ∃ j, k = first + 1 + j := ⟨k - (first + 1), by omega⟩
          have e1 : first + 1 + j - (first + 1) = j := by omega
          have e2 : first + 1 + j - first = j + 1 := by omega
          rw [e1, e2, Nat.add_mul, Nat.one_mul, Nat.add_comm]
        rw [this]
      · have h2 : ¬(first ≤ k ∧ k < first + (n + 1) ∧ k < 32) := by omega
        rw [if_neg hin, if_neg h2, State.readD_writeD]
        simp [hk]

/-- A register outside those written keeps its value. -/
theorem State.readD_putLanes_other (s : State) {e : Nat} (first count k : Nat) (xs : List (Lane e))
    (h : k < first ∨ first + count ≤ k) : (s.putLanes first count xs).readD k = s.readD k := by
  rw [State.putLanes, State.readD_setFlags, State.readD_writeLanes, if_neg (by omega)]

/-- The bits of packed lanes. -/
theorem packLanes_getLsbD (e : Nat) (he : 0 < e) (xs : List (BitVec e)) (j : Nat) (hj : j < 64) :
    (packLanes e xs).getLsbD j = (xs.getD (j / e) 0).getLsbD (j % e) := by
  induction xs generalizing j with
  | nil => simp [packLanes]
  | cons x rest ih =>
    rw [packLanes, BitVec.getLsbD_or, BitVec.getLsbD_setWidth, BitVec.getLsbD_shiftLeft]
    by_cases h : j < e
    · have h1 : j / e = 0 := Nat.div_eq_of_lt h
      have h2 : j % e = j := Nat.mod_eq_of_lt h
      simp [h, h1, h2, hj]
    · have h1 : j / e = (j - e) / e + 1 := by
        rw [Nat.div_eq_sub_div he (by omega)]
      have h2 : j % e = (j - e) % e := Nat.mod_eq_sub_mod (by omega)
      have h3 : x.getLsbD j = false := BitVec.getLsbD_of_ge _ _ (by omega)
      rw [ih (j - e) (by omega)]
      simp [hj, h, h1, h2, h3]

/-- The lane widths of the vector registers. -/
def LaneWidth (e : Nat) : Prop := e = 8 ∨ e = 16 ∨ e = 32 ∨ e = 64

/-- Every size field names a lane width. -/
theorem laneWidth_esize (size : BitVec 2) : LaneWidth (esize size) := by
  unfold LaneWidth esize
  have h : size = 0#2 ∨ size = 1#2 ∨ size = 2#2 ∨ size = 3#2 := by
    revert size; decide
  rcases h with h | h | h | h <;> subst h <;> decide

/-- The lane widths divide a doubleword. -/
theorem LaneWidth.pos {e : Nat} (h : LaneWidth e) : 0 < e := by rcases h with h | h | h | h <;> omega

/-- The lanes of a doubleword fill it. -/
theorem LaneWidth.fills {e : Nat} (h : LaneWidth e) : 64 / e * e = 64 := by
  rcases h with h | h | h | h <;> subst h <;> rfl

/-- A lane of packed lanes is that lane. -/
theorem lane_packLanes (e : Nat) (he : LaneWidth e) (xs : List (BitVec e)) (i : Nat) (hi : i < 64 / e) :
    lane e (packLanes e xs) i = xs.getD i 0 := by
  have hpos := he.pos
  have hf := he.fills
  apply BitVec.eq_of_getLsbD_eq
  intro j hj
  have hlt : i * e + j < 64 := by
    have : (i + 1) * e ≤ 64 / e * e := Nat.mul_le_mul_right e hi
    rw [Nat.add_mul, Nat.one_mul] at this; omega
  rw [lane, BitVec.getLsbD_extractLsb']
  have h1 : (i * e + j) / e = i := by
    rw [Nat.mul_comm, Nat.mul_add_div hpos, Nat.div_eq_of_lt hj, Nat.add_zero]
  have h2 : (i * e + j) % e = j := by
    rw [Nat.mul_comm, Nat.mul_add_mod, Nat.mod_eq_of_lt hj]
  simp [hj, packLanes_getLsbD e hpos xs _ hlt, h1, h2]

/-- Twice a lane width below 64 is a lane width. -/
theorem LaneWidth.double {e : Nat} (h : LaneWidth e) (h64 : e ≠ 64) : LaneWidth (2 * e) := by
  unfold LaneWidth at *; omega

/-- A doubleword has at least one lane. -/
theorem LaneWidth.some {e : Nat} (h : LaneWidth e) : 0 < 64 / e := by
  rcases h with h | h | h | h <;> subst h <;> decide

/-- A lane of the registers just written. -/
theorem State.laneAt_writeLanes (s : State) (e first count : Nat) (he : LaneWidth e) (xs : List (BitVec e)) (j : Nat)
    (hj : j < count * (64 / e)) (h32 : first + count ≤ 32) :
    (s.writeLanes e first count xs).laneAt e first j = xs.getD j 0 := by
  have hw := he.some
  have h1 : j / (64 / e) < count := (Nat.div_lt_iff_lt_mul hw).mpr hj
  have h2 : j % (64 / e) < 64 / e := Nat.mod_lt _ hw
  have h4 : j / (64 / e) * (64 / e) + j % (64 / e) = j := by rw [Nat.mul_comm]; exact Nat.div_add_mod j (64 / e)
  rw [State.laneAt]
  generalize j / (64 / e) = q at *
  rw [State.readD_writeLanes, if_pos (by omega), lane_packLanes e he _ _ h2]
  have h3 : first + q - first = q := by omega
  rw [h3]
  simp [List.getD_eq_getElem?_getD, h2, List.getElem?_drop, h4]

/-- A lane of a result. -/
theorem State.laneAt_putLanes (s : State) {e : Nat} (first count : Nat) (he : LaneWidth e) (xs : List (Lane e)) (j : Nat)
    (hj : j < count * (64 / e)) (h32 : first + count ≤ 32) :
    (s.putLanes first count xs).laneAt e first j = (xs.getD j (0, 0#32)).1 := by
  have h := State.laneAt_writeLanes s e first count he (xs.map Prod.fst) j hj h32
  have h' : (s.putLanes first count xs).laneAt e first j =
      (s.writeLanes e first count (xs.map Prod.fst)).laneAt e first j := rfl
  rw [h', h]
  simp [List.getD_eq_getElem?_getD]
  cases xs[j]? <;> rfl

/-- How many lanes a read gives. -/
@[simp] theorem State.readLanes_length (s : State) (e first count : Nat) :
    (s.readLanes e first count).length = count * (64 / e) := by simp [State.readLanes]

/-- Each lane of a read. -/
theorem State.readLanes_getElem? (s : State) (e first count j : Nat) (hj : j < count * (64 / e)) :
    (s.readLanes e first count)[j]? = some (s.laneAt e first j) := by
  simp [State.readLanes, hj]

/-- Everything one operand's operation does to the lanes of its result. -/
theorem laneAt_unary {a o : Nat} (ho : LaneWidth o) (op : BitVec a → Lane o) (d dCount m mCount : Nat) (s : State)
    (j : Nat) (hd : j < dCount * (64 / o)) (hm : j < mCount * (64 / a)) (h32 : d + dCount ≤ 32) :
    (unary op d dCount m mCount s).laneAt o d j = (op (s.laneAt a m j)).1 := by
  rw [unary, State.laneAt_putLanes _ _ _ ho _ _ hd h32, List.getD_eq_getElem?_getD, List.getElem?_map,
    State.readLanes_getElem? _ _ _ _ _ hm]
  rfl

/-- Everything two operands' operation does to the lanes of its result. -/
theorem laneAt_binary {a b o : Nat} (ho : LaneWidth o) (op : BitVec a → BitVec b → Lane o)
    (d dCount n nCount m mCount : Nat) (s : State) (j : Nat) (hd : j < dCount * (64 / o)) (hn : j < nCount * (64 / a))
    (hm : j < mCount * (64 / b)) (h32 : d + dCount ≤ 32) :
    (binary op d dCount n nCount m mCount s).laneAt o d j = (op (s.laneAt a n j) (s.laneAt b m j)).1 := by
  rw [binary, State.laneAt_putLanes _ _ _ ho _ _ hd h32, List.getD_eq_getElem?_getD, List.getElem?_zipWith,
    State.readLanes_getElem? _ _ _ _ _ hn, State.readLanes_getElem? _ _ _ _ _ hm]
  rfl

/-- Everything an operation on the destination and one operand does to the lanes of its result. -/
theorem laneAt_accumulateOne {a o : Nat} (ho : LaneWidth o) (op : BitVec o → BitVec a → Lane o)
    (d dCount m mCount : Nat) (s : State) (j : Nat) (hd : j < dCount * (64 / o)) (hm : j < mCount * (64 / a))
    (h32 : d + dCount ≤ 32) :
    (accumulateOne op d dCount m mCount s).laneAt o d j = (op (s.laneAt o d j) (s.laneAt a m j)).1 := by
  rw [accumulateOne, State.laneAt_putLanes _ _ _ ho _ _ hd h32, List.getD_eq_getElem?_getD, List.getElem?_zipWith,
    State.readLanes_getElem? _ _ _ _ _ hd, State.readLanes_getElem? _ _ _ _ _ hm]
  rfl

/-- Everything an operation on the destination and two operands does to the lanes of its result. -/
theorem laneAt_accumulate {a b o : Nat} (ho : LaneWidth o) (op : BitVec o → BitVec a → BitVec b → Lane o)
    (d dCount n nCount m mCount : Nat) (s : State) (j : Nat) (hd : j < dCount * (64 / o)) (hn : j < nCount * (64 / a))
    (hm : j < mCount * (64 / b)) (h32 : d + dCount ≤ 32) :
    (accumulate op d dCount n nCount m mCount s).laneAt o d j =
      (op (s.laneAt o d j) (s.laneAt a n j) (s.laneAt b m j)).1 := by
  rw [accumulate, State.laneAt_putLanes _ _ _ ho _ _ hd h32, List.getD_eq_getElem?_getD, List.getElem?_zipWith,
    (List.getElem?_zip_eq_some (z := (s.laneAt a n j, s.laneAt b m j))).mpr
      ⟨State.readLanes_getElem? s a n nCount j hn, State.readLanes_getElem? s b m mCount j hm⟩,
    State.readLanes_getElem? _ _ _ _ _ hd]
  rfl

/-- Register numbers are below 32. -/
theorem vreg_lt (hi : BitVec 1) (lo : BitVec 4) : vreg hi lo < 32 := (hi ++ lo).isLt

end Sys2Proof.Machine
end

