-- ==== Sys2Proof/Laws/Outcome.lean ====
section
/-! SUPPORT. What the shared operations answer: completing, stopping, and the frame of each way of writing vectors. -/

namespace Sys2Proof.Machine

set_option Elab.async false

/-- Everything `advance` can answer with a next state. -/
theorem advance_next {s t : State} : advance s = .next t ↔ s.HasSuccessor ∧ t = { s with pc := s.pc + 4#32 } := by
  unfold advance State.HasSuccessor
  split
  · rename_i h
    exact ⟨fun e => ⟨h, (Host.Outcome.next.inj e).symm⟩, fun e => e.2 ▸ rfl⟩
  · rename_i h
    exact ⟨fun e => (nomatch e), fun e => absurd e.1 h⟩

/-- `advance` where the pc has a successor. -/
theorem advance_eq {s : State} (h : s.HasSuccessor) : advance s = .next { s with pc := s.pc + 4#32 } :=
  advance_next.mpr ⟨h, rfl⟩

/-- `advance` where it has none. -/
theorem advance_refused {s : State} (h : ¬s.HasSuccessor) : advance s = .refused .outsideScope := if_neg h

/-- `raise` never answers a next state. -/
theorem raise_ne_next (r : Fault) (t : State) : raise r ≠ .next t := by simp [raise]

/-- Everything `simdOp` can answer with a next state. -/
theorem simdOp_next {undef : Bool} {k : State → State} {s t : State} :
    simdOp undef k s = .next t ↔
      undef = false ∧ s.simdEnabled = true ∧ (k s).HasSuccessor ∧ t = { k s with pc := (k s).pc + 4#32 } := by
  unfold simdOp
  split
  · rename_i h
    simp only [Bool.or_eq_true, Bool.not_eq_true'] at h
    constructor
    · intro hn; exact absurd hn (raise_ne_next _ _)
    · rintro ⟨h1, h2, -, -⟩
      rcases h with h | h <;> simp_all
  · rename_i h
    simp only [Bool.or_eq_true, Bool.not_eq_true', not_or, Bool.not_eq_true, Bool.not_eq_false] at h
    rw [advance_next]
    simp [h.1, h.2]

/-- An instruction that is not UNDEFINED, with the unit accessible, completes with its effect. -/
theorem simdOp_eq {undef : Bool} {k : State → State} {s : State} (hu : undef = false) (hk : (k s).pc = s.pc)
    (h : s.SimdReady) : simdOp undef k s = .next { k s with pc := s.pc + 4#32 } := by
  have h2 : (k s).HasSuccessor := by unfold State.HasSuccessor; rw [hk]; exact h.2
  rw [← hk]
  exact simdOp_next.mpr ⟨hu, h.1, h2, rfl⟩

/-- An UNDEFINED instruction faults. -/
theorem simdOp_undefined {undef : Bool} (k : State → State) (s : State) (hu : undef = true) :
    simdOp undef k s = .fault .undefinedInstruction := by simp [simdOp, hu, raise]

/-- A disabled unit makes every Advanced SIMD instruction fault. -/
theorem simdOp_disabled (undef : Bool) (k : State → State) (s : State) (h : s.simdEnabled = false) :
    simdOp undef k s = .fault .undefinedInstruction := by simp [simdOp, h, raise]

/-- A lane sets no flag but those of `A`. -/
def Lane.Within (A : Flags) {e : Nat} (l : Lane e) : Prop := l.2 &&& ~~~A = 0#32

/-- Flags of two sets within `A` are together. -/
theorem within_or {A x y : Flags} (hx : x &&& ~~~A = 0#32) (hy : y &&& ~~~A = 0#32) : (x ||| y) &&& ~~~A = 0#32 := by
  apply BitVec.eq_of_getLsbD_eq
  intro i hi
  have h1 := congrArg (fun v : BitVec 32 => v.getLsbD i) hx
  have h2 := congrArg (fun v : BitVec 32 => v.getLsbD i) hy
  simp [hi] at h1 h2 ⊢
  intro h
  rcases h with h | h
  · exact h1 h
  · exact h2 h

/-- Conditional flags. -/
theorem within_flagIf {A f : Flags} (c : Bool) (h : f &&& ~~~A = 0#32) : flagIf c f &&& ~~~A = 0#32 := by
  cases c <;> simp [flagIf, h]

/-- A plain lane sets no flag. -/
theorem plain_within (A : Flags) {e : Nat} (x : BitVec e) : (plain x).Within A := by simp [Lane.Within, plain]

/-- The flags of a result are those of its lanes. -/
theorem laneFlags_within (A : Flags) {e : Nat} (xs : List (Lane e)) (h : ∀ x ∈ xs, Lane.Within A x) :
    laneFlags xs &&& ~~~A = 0#32 := by
  induction xs with
  | nil => simp [laneFlags]
  | cons x rest ih =>
    have h1 := h x (by simp)
    have h2 := ih (fun y hy => h y (by simp [hy]))
    exact within_or h1 h2

/-- Saturation sets at most QC. -/
theorem saturate_within (e : Nat) (unsigned : Bool) (i : Int) : (saturate e unsigned i).Within flagQC := by
  have hq : flagQC &&& ~~~flagQC = 0#32 := by decide
  unfold saturate
  split
  · exact hq
  · split
    · exact hq
    · exact plain_within _ _

/-- The frame of a result written to vector registers. -/
theorem putLanes_frame (A : Flags) (s : State) {e : Nat} (first count : Nat) (xs : List (Lane e))
    (h : ∀ x ∈ xs, Lane.Within A x) :
    VectorFrame A (Regs first count) s { s.putLanes first count xs with pc := s.pc + 4#32 } := by
  refine ⟨rfl, ⟨?_, ?_, ?_, ?_⟩, ⟨?_, ?_, ?_, ?_⟩, ?_, ?_, ?_, ?_, ⟨laneFlags xs, laneFlags_within A xs h, ?_⟩, ?_⟩
  all_goals first
    | (intro k hk; exact State.readD_putLanes_other s first count k xs (by unfold Regs at hk; omega))
    | (intro a; simp [State.byte])
    | simp

/-- The frame of an operation on one operand. -/
theorem unary_frame (A : Flags) {a o : Nat} (op : BitVec a → Lane o) (d dCount m mCount : Nat) (s : State)
    (h : ∀ x, (op x).Within A) :
    VectorFrame A (Regs d dCount) s { unary op d dCount m mCount s with pc := s.pc + 4#32 } := by
  apply putLanes_frame
  intro x hx
  obtain ⟨y, -, rfl⟩ := List.mem_map.mp hx
  exact h y

/-- Every member of a zipped list comes from the operation. -/
theorem zipWith_within (A : Flags) {α β : Type} {o : Nat} (op : α → β → Lane o) (h : ∀ x y, (op x y).Within A)
    (xs : List α) (ys : List β) : ∀ z ∈ List.zipWith op xs ys, Lane.Within A z := by
  induction xs generalizing ys with
  | nil => simp
  | cons x xs ih =>
    cases ys with
    | nil => simp
    | cons y ys =>
      intro z hz
      simp only [List.zipWith_cons_cons, List.mem_cons] at hz
      rcases hz with rfl | hz
      · exact h x y
      · exact ih ys z hz

/-- The frame of an operation on two operands. -/
theorem binary_frame (A : Flags) {a b o : Nat} (op : BitVec a → BitVec b → Lane o) (d dCount n nCount m mCount : Nat)
    (s : State) (h : ∀ x y, (op x y).Within A) :
    VectorFrame A (Regs d dCount) s { binary op d dCount n nCount m mCount s with pc := s.pc + 4#32 } :=
  putLanes_frame A s d dCount _ (zipWith_within A op h _ _)

/-- The frame of an operation on the destination and one operand. -/
theorem accumulateOne_frame (A : Flags) {a o : Nat} (op : BitVec o → BitVec a → Lane o) (d dCount m mCount : Nat)
    (s : State) (h : ∀ x y, (op x y).Within A) :
    VectorFrame A (Regs d dCount) s { accumulateOne op d dCount m mCount s with pc := s.pc + 4#32 } :=
  putLanes_frame A s d dCount _ (zipWith_within A op h _ _)

/-- The frame of an operation on the destination and two operands. -/
theorem accumulate_frame (A : Flags) {a b o : Nat} (op : BitVec o → BitVec a → BitVec b → Lane o)
    (d dCount n nCount m mCount : Nat) (s : State) (h : ∀ x y z, (op x y z).Within A) :
    VectorFrame A (Regs d dCount) s { accumulate op d dCount n nCount m mCount s with pc := s.pc + 4#32 } :=
  putLanes_frame A s d dCount _ (zipWith_within A (fun acc (ab : BitVec a × BitVec b) => op acc ab.1 ab.2) (fun x y => h x y.1 y.2) _ _)

/-- The pc that the shared effects leave. -/
@[simp] theorem unary_pc {a o : Nat} (op : BitVec a → Lane o) (d dCount m mCount : Nat) (s : State) :
    (unary op d dCount m mCount s).pc = s.pc := by simp [unary]
@[simp] theorem binary_pc {a b o : Nat} (op : BitVec a → BitVec b → Lane o) (d dCount n nCount m mCount : Nat)
    (s : State) : (binary op d dCount n nCount m mCount s).pc = s.pc := by simp [binary]
@[simp] theorem accumulateOne_pc {a o : Nat} (op : BitVec o → BitVec a → Lane o) (d dCount m mCount : Nat)
    (s : State) : (accumulateOne op d dCount m mCount s).pc = s.pc := by simp [accumulateOne]
@[simp] theorem accumulate_pc {a b o : Nat} (op : BitVec o → BitVec a → BitVec b → Lane o)
    (d dCount n nCount m mCount : Nat) (s : State) : (accumulate op d dCount n nCount m mCount s).pc = s.pc := by
  simp [accumulate]

/-- An operand that is even where Q = 1 ends inside the register file. -/
theorem even_fits (Q : BitVec 1) (hi : BitVec 1) (lo : BitVec 4) (h : oddQuad Q (vreg hi lo) = false) :
    vreg hi lo + regCount Q ≤ 32 := by
  have := vreg_lt hi lo
  unfold regCount
  by_cases hq : Q = 1#1
  · simp [oddQuad, odd, hq] at h; simp [hq]; omega
  · simp [hq]; omega

/-- `EvenFor` is the check that the meanings make. -/
theorem oddQuad_false_iff (Q : BitVec 1) (a : Nat) : oddQuad Q a = false ↔ EvenFor Q [a] := by
  unfold oddQuad EvenFor odd
  by_cases hq : Q = 1#1 <;> simp [hq]

end Sys2Proof.Machine
end

