-- ==== Sys2Proof/Laws/Floating.lean ====
section
/-! SUPPORT. Which FPSCR flags the lane operations can set: the saturating ones QC, the floating-point ones the
cumulative exception flags. -/

namespace Sys2Proof.Machine

set_option Elab.async false

theorem ioc_within : flagIOC &&& ~~~fpFlags = 0#32 := by decide
theorem dzc_within : flagDZC &&& ~~~fpFlags = 0#32 := by decide
theorem ofc_within : flagOFC &&& ~~~fpFlags = 0#32 := by decide
theorem ufc_within : flagUFC &&& ~~~fpFlags = 0#32 := by decide
theorem ixc_within : flagIXC &&& ~~~fpFlags = 0#32 := by decide
theorem idc_within : flagIDC &&& ~~~fpFlags = 0#32 := by decide

/-- Further flags on a lane. -/
theorem also_within {A : Flags} {e : Nat} {l : Lane e} {fl : Flags} (h : l.Within A) (hf : fl &&& ~~~A = 0#32) :
    (l.also fl).Within A := within_or h hf

/-- A choice between two lanes. -/
theorem within_ite {A : Flags} {e : Nat} {c : Prop} [Decidable c] {l r : Lane e} (hl : l.Within A) (hr : r.Within A) :
    (if c then l else r).Within A := by split <;> assumption

/-- Taking a lane apart sets at most IDC. -/
theorem fpUnpack_within {e : Nat} (fmt : FpFormat) (v : BitVec e) : (fpUnpack fmt v).2 &&& ~~~fpFlags = 0#32 := by
  unfold fpUnpack
  dsimp only
  split
  · split
    · simp
    · split
      · exact within_flagIf _ idc_within
      · simp
  · split
    · split
      · simp
      · split <;> simp
    · simp

/-- Rounding sets at most the cumulative flags. -/
theorem fpRound_within (e : Nat) (fmt : FpFormat) (sign : Bool) (m : Nat) (x : Int) :
    (fpRound e fmt sign m x).Within fpFlags := by
  unfold fpRound
  apply within_ite
  · exact ufc_within
  · apply within_ite
    · apply within_ite
      · exact ioc_within
      · exact within_or (within_flagIf _ ufc_within) (within_flagIf _ ixc_within)
    · apply within_ite
      · exact within_or ofc_within ixc_within
      · exact within_or (within_flagIf _ ufc_within) (within_flagIf _ ixc_within)

theorem fpSum_within (e halve : Nat) (a b : FpNumber) : (fpSum e halve a b).Within fpFlags := by
  unfold fpSum
  exact within_ite (plain_within _ _) (fpRound_within _ _ _ _ _)

theorem fpNaNResult_within (e : Nat) (vs : List FpNumber) : (fpNaNResult e vs).Within fpFlags :=
  within_flagIf _ ioc_within

theorem fpAddNumbers_within (e halve : Nat) (a b : FpNumber) : (fpAddNumbers e halve a b).Within fpFlags := by
  unfold fpAddNumbers
  exact within_ite (fpNaNResult_within _ _) (within_ite ioc_within (within_ite (plain_within _ _)
    (within_ite (plain_within _ _) (within_ite (plain_within _ _) (fpSum_within _ _ _ _)))))

theorem fpAdd_within {e : Nat} (a b : BitVec e) : (fpAdd a b).Within fpFlags :=
  also_within (fpAddNumbers_within _ _ _ _) (within_or (fpUnpack_within _ _) (fpUnpack_within _ _))

theorem fpSub_within {e : Nat} (a b : BitVec e) : (fpSub a b).Within fpFlags :=
  also_within (fpAddNumbers_within _ _ _ _) (within_or (fpUnpack_within _ _) (fpUnpack_within _ _))

theorem fpHalvedSub_within {e : Nat} (a b : BitVec e) : (fpHalvedSub a b).Within fpFlags :=
  also_within (fpAddNumbers_within _ _ _ _) (within_or (fpUnpack_within _ _) (fpUnpack_within _ _))

theorem fpMul_within {e : Nat} (a b : BitVec e) : (fpMul a b).Within fpFlags := by
  unfold fpMul
  refine also_within ?_ (within_or (fpUnpack_within _ _) (fpUnpack_within _ _))
  exact within_ite (fpNaNResult_within _ _) (within_ite ioc_within (within_ite (plain_within _ _)
    (within_ite (plain_within _ _) (fpRound_within _ _ _ _ _))))

theorem fpMulAdd_within {e : Nat} (acc a b : BitVec e) : (fpMulAdd acc a b).Within fpFlags := by
  unfold fpMulAdd
  refine also_within ?_ (within_or (within_or (fpUnpack_within _ _) (fpUnpack_within _ _)) (fpUnpack_within _ _))
  exact within_ite ioc_within (within_ite (fpNaNResult_within _ _) (within_ite ioc_within (within_ite ioc_within
    (within_ite (plain_within _ _) (within_ite (plain_within _ _) (within_ite (plain_within _ _)
      (fpSum_within _ _ _ _)))))))

theorem fpMulSub_within {e : Nat} (acc a b : BitVec e) : (fpMulSub acc a b).Within fpFlags := fpMulAdd_within _ _ _

theorem fpMulThenAdd_within {e : Nat} (subtract : Bool) (acc a b : BitVec e) :
    (fpMulThenAdd subtract acc a b).Within fpFlags := also_within (fpAdd_within _ _) (fpMul_within _ _)

theorem fpAbsDiff_within {e : Nat} (a b : BitVec e) : (fpAbsDiff a b).Within fpFlags := fpSub_within a b

theorem fpCompare_within {e : Nat} (rel : FpRelation) (a b : BitVec e) : (fpCompare rel a b).Within fpFlags := by
  unfold fpCompare
  refine also_within ?_ (within_or (fpUnpack_within _ _) (fpUnpack_within _ _))
  split
  · exact within_flagIf _ ioc_within
  · split <;> exact plain_within _ _

theorem fpRepack_within (e : Nat) (v : FpNumber) : (fpRepack e v).Within fpFlags := by
  unfold fpRepack
  split
  all_goals first
    | exact plain_within _ _
    | exact fpRound_within _ _ _ _ _

theorem fpMaxMin_within {e : Nat} (least : Bool) (a b : BitVec e) : (fpMaxMin least a b).Within fpFlags := by
  unfold fpMaxMin
  refine also_within ?_ (within_or (fpUnpack_within _ _) (fpUnpack_within _ _))
  exact within_ite (fpNaNResult_within _ _) (within_ite (plain_within _ _) (fpRepack_within _ _))

theorem fpMaxMinNum_within {e : Nat} (least : Bool) (a b : BitVec e) : (fpMaxMinNum least a b).Within fpFlags := by
  unfold fpMaxMinNum
  exact within_ite (fpMaxMin_within _ _ _) (within_ite (fpMaxMin_within _ _ _) (fpMaxMin_within _ _ _))

theorem fpStep_within {e : Nat} (sqrt : Bool) (a b : BitVec e) : (fpStep sqrt a b).Within fpFlags := by
  unfold fpStep
  apply within_ite
  · exact also_within (fpNaNResult_within _ _) (within_or (fpUnpack_within _ _) (fpUnpack_within _ _))
  · refine also_within (within_ite (fpHalvedSub_within _ _) (fpSub_within _ _)) ?_
    exact within_ite (A := fpFlags) (l := (fpZero e false, _))
      (within_or (fpUnpack_within _ _) (fpUnpack_within _ _)) (fpMul_within _ _)

theorem fpRoundInt_within {e : Nat} (rounding : FpRounding) (exact : Bool) (a : BitVec e) :
    (fpRoundInt rounding exact a).Within fpFlags := by
  unfold fpRoundInt
  refine also_within ?_ (fpUnpack_within _ _)
  split
  · exact plain_within _ _
  · exact plain_within _ _
  · exact also_within (within_ite (plain_within _ _) (fpRound_within _ _ _ _ _)) (within_flagIf _ ixc_within)
  · exact fpNaNResult_within _ _

theorem fpToFixed_within {e : Nat} (rounding : FpRounding) (unsigned : Bool) (fbits : Nat) (a : BitVec e) :
    (fpToFixed rounding unsigned fbits a).Within fpFlags := by
  unfold fpToFixed
  refine also_within ?_ (fpUnpack_within _ _)
  split
  · exact plain_within _ _
  · exact ioc_within
  · apply within_ite
    · exact ioc_within
    · apply within_ite
      · exact ioc_within
      · exact within_flagIf _ ixc_within
  · exact ioc_within

theorem fpFromFixed_within {e : Nat} (unsigned : Bool) (fbits : Nat) (a : BitVec e) :
    (fpFromFixed unsigned fbits a).Within fpFlags := by
  unfold fpFromFixed
  exact within_ite (plain_within _ _) (fpRound_within _ _ _ _ _)

theorem fpToHalf_within (ahp : Bool) (a : BitVec 32) : (fpToHalf ahp a).Within fpFlags := by
  unfold fpToHalf
  refine also_within ?_ (fpUnpack_within _ _)
  split
  · exact plain_within _ _
  · split
    · exact ioc_within
    · exact plain_within _ _
  · exact fpRound_within _ _ _ _ _
  · exact within_flagIf _ ioc_within

theorem fpFromHalf_within (ahp : Bool) (a : BitVec 16) : (fpFromHalf ahp a).Within fpFlags := by
  unfold fpFromHalf
  dsimp only
  split
  · exact plain_within _ _
  · exact plain_within _ _
  · exact fpRound_within _ _ _ _ _
  · exact fpNaNResult_within _ _

theorem fpRecipEstimate_within {e : Nat} (a : BitVec e) : (fpRecipEstimate a).Within fpFlags := by
  unfold fpRecipEstimate
  refine also_within ?_ (fpUnpack_within _ _)
  split
  · exact dzc_within
  · exact plain_within _ _
  · split
    · exact ufc_within
    · exact plain_within _ _
  · exact fpNaNResult_within _ _

theorem fpRecipSqrtEstimate_within {e : Nat} (a : BitVec e) : (fpRecipSqrtEstimate a).Within fpFlags := by
  unfold fpRecipSqrtEstimate
  refine also_within ?_ (fpUnpack_within _ _)
  split
  · exact dzc_within
  · exact fpNaNResult_within _ _
  · exact fpNaNResult_within _ _
  · split
    · exact ioc_within
    · split
      · exact plain_within _ _
      · exact plain_within _ _

theorem satAdd_within {e : Nat} (u : Bool) (a b : BitVec e) : (satAdd u a b).Within flagQC := saturate_within _ _ _
theorem satSub_within {e : Nat} (u : Bool) (a b : BitVec e) : (satSub u a b).Within flagQC := saturate_within _ _ _
theorem satShiftReg_within {e : Nat} (u r : Bool) (n m : BitVec e) : (satShiftReg u r n m).Within flagQC :=
  saturate_within _ _ _
theorem satDoubleMulHigh_within {e : Nat} (r : Bool) (a b : BitVec e) : (satDoubleMulHigh r a b).Within flagQC :=
  saturate_within _ _ _
theorem satRoundDoubleMulAccHigh_within {e : Nat} (sub : Bool) (d a b : BitVec e) :
    (satRoundDoubleMulAccHigh sub d a b).Within flagQC := saturate_within _ _ _
theorem satDoubleMul_within {e : Nat} (o : Nat) (a b : BitVec e) : (satDoubleMul o a b).Within flagQC :=
  saturate_within _ _ _
theorem satDoubleMulAcc_within {e o : Nat} (sub : Bool) (d : BitVec o) (a b : BitVec e) :
    (satDoubleMulAcc sub d a b).Within flagQC := within_or (saturate_within _ _ _) (saturate_within _ _ _)

end Sys2Proof.Machine
end

