-- ==== Sys2Proof/Laws/LoadStore.lean ====
section
/-! SUPPORT. Whole quadwords, exchanged vectors, and the loads and stores: everything each can answer and what it leaves
alone. -/

namespace Sys2Proof.Machine

set_option Elab.async false

/-! ## Quadwords and several registers -/

/-- Reading a doubleword after writing a quadword. -/
theorem State.readD_writeQ (s : State) (n k : Nat) (v : QWord) :
    (s.writeQ n v).readD k =
      if k = n + 1 ∧ n + 1 < 32 then v.extractLsb' 64 64
      else if k = n ∧ n < 32 then v.extractLsb' 0 64 else s.readD k := by
  simp only [State.writeQ, State.readD_writeD]

/-- Reading a quadword just written. -/
theorem State.readQ_writeQ (s : State) (n : Nat) (v : QWord) (h : n + 1 < 32) : (s.writeQ n v).readQ n = v := by
  have h1 : n < 32 := by omega
  simp only [State.readQ, State.readD_writeQ]
  simp [h, h1]
  apply BitVec.eq_of_getLsbD_eq
  intro i hi
  rw [BitVec.getLsbD_append, BitVec.getLsbD_extractLsb', BitVec.getLsbD_extractLsb']
  by_cases h64 : i < 64
  · simp [h64]
  · have h3 : i - 64 < 64 := by omega
    have h4 : 64 + (i - 64) = i := by omega
    simp [h64, h3, h4]

/-- The frame of a quadword result. -/
theorem writeQ_frame (A : Flags) (s : State) (n : Nat) (v : QWord) :
    VectorFrame A (Regs n 2) s { s.writeQ n v with pc := s.pc + 4#32 } := by
  refine ⟨rfl, ⟨?_, ?_, ?_, ?_⟩, ⟨?_, ?_, ?_, ?_⟩, ?_, ?_, ?_, ?_, ⟨0#32, ?_, ?_⟩, ?_⟩
  all_goals first
    | (intro k hk
       unfold Regs at hk
       rw [State.readD_setPc, State.readD_writeQ, if_neg (by omega), if_neg (by omega)])
    | (intro a; simp [State.byte])
    | simp

/-- Reading after writing several registers. -/
theorem State.readD_putD (s : State) (first count k : Nat) (g : Nat → DWord) :
    (s.putD first g count).readD k =
      if first ≤ k ∧ k < first + count ∧ k < 32 then g (k - first) else s.readD k := by
  induction count with
  | zero => simp [State.putD]; intro h1 h2; omega
  | succ n ih =>
    rw [State.putD, State.readD_writeD, ih]
    by_cases hk : k = first + n
    · subst hk
      by_cases h32 : first + n < 32
      · simp [h32]
      · simp [h32]
    · simp only [hk, false_and, if_false]
      by_cases hin : first ≤ k ∧ k < first + n ∧ k < 32
      · rw [if_pos hin, if_pos (by omega)]
      · rw [if_neg hin, if_neg (by omega)]

/-- Registers that get free values. -/
theorem State.readD_putFree (s : State) (first count k : Nat) :
    (s.putFree first count).readD k =
      if first ≤ k ∧ k < first + count ∧ k < 32 then s.free (k - first) else s.readD k :=
  State.readD_putD s first count k (fun k => s.free k)

/-- Everything `exchange` does to two different vectors that do not overlap: the first list, the second list, and no
other register. -/
theorem readD_exchange_other {e : Nat} (g : List (BitVec e) → List (BitVec e) → List (BitVec e) × List (BitVec e))
    (d m count k : Nat) (s : State) (hk : ¬Regs d count k) (hk' : ¬Regs m count k) :
    (exchange e g d m count s).readD k = s.readD k := by
  unfold exchange Regs at *
  split
  · rw [State.readD_putFree, if_neg (by omega)]
  · simp only
    rw [State.readD_writeLanes, if_neg (by omega), State.readD_writeLanes, if_neg (by omega)]

/-- The lanes of the two vectors that `exchange` gives. -/
theorem laneAt_exchange {e : Nat} (he : LaneWidth e)
    (g : List (BitVec e) → List (BitVec e) → List (BitVec e) × List (BitVec e)) (d m count : Nat) (s : State)
    (hd : d + count ≤ 32) (hm : m + count ≤ 32) (hne : d + count ≤ m ∨ m + count ≤ d) (hc : 0 < count) (j : Nat)
    (hj : j < count * (64 / e)) :
    (exchange e g d m count s).laneAt e d j = (g (s.readLanes e d count) (s.readLanes e m count)).1.getD j 0 ∧
      (exchange e g d m count s).laneAt e m j = (g (s.readLanes e d count) (s.readLanes e m count)).2.getD j 0 := by
  have h : ¬d = m := by omega
  have hw := he.some
  have h1 : j / (64 / e) < count := (Nat.div_lt_iff_lt_mul hw).mpr hj
  rw [exchange, if_neg h]
  refine ⟨?_, State.laneAt_writeLanes _ _ _ _ he _ _ hj hm⟩
  rw [← State.laneAt_writeLanes s e d count he _ j hj hd]
  unfold State.laneAt
  generalize j / (64 / e) = q at *
  rw [State.readD_writeLanes (k := d + q) (first := m), if_neg (by omega)]

/-! ## Loads and stores -/

/-- Everything a load or store can answer with a next state. -/
theorem loadStore_next {L : BitVec 1} {Rn Rm : BitVec 4} {tr : Option Transfer} {s t : State} :
    loadStore L Rn Rm tr s = .next t ↔
      ∃ x, tr = some x ∧ Rn ≠ 15#4 ∧ s.simdEnabled = true ∧ (s.readReg Rn).toNat % x.required s = 0 ∧
        s.permitsBytes (s.readReg Rn) x.bytes = true ∧ advance (transferEffect L Rn Rm x s) = .next t := by
  cases tr with
  | none => simp [loadStore, raise]
  | some x =>
    constructor
    · intro h
      simp only [loadStore] at h
      split at h
      · exact absurd h (raise_ne_next _ _)
      · split at h
        · exact absurd h (raise_ne_next _ _)
        · split at h
          · exact absurd h (raise_ne_next _ _)
          · split at h
            · exact absurd h (raise_ne_next _ _)
            · exact ⟨x, rfl, by assumption, by simp_all, by simp_all, by simp_all, h⟩
    · rintro ⟨y, hy, h1, h2, h3, h4, h⟩
      cases hy
      simpa [loadStore, h1, h2, h3, h4] using h

/-- The pc that a load or store leaves before it goes on. -/
@[simp] theorem transferEffect_pc (L : BitVec 1) (Rn Rm : BitVec 4) (x : Transfer) (s : State) :
    (transferEffect L Rn Rm x s).pc = s.pc := by
  unfold transferEffect; simp only; split <;> simp

/-- A load or store that may run completes with its effect. -/
theorem loadStore_eq {L : BitVec 1} {Rn Rm : BitVec 4} {x : Transfer} {s : State} (h15 : Rn ≠ 15#4)
    (hr : s.SimdReady) (ha : (s.readReg Rn).toNat % x.required s = 0)
    (hp : s.permitsBytes (s.readReg Rn) x.bytes = true) :
    loadStore L Rn Rm (some x) s = .next { transferEffect L Rn Rm x s with pc := s.pc + 4#32 } := by
  refine loadStore_next.mpr ⟨x, rfl, h15, hr.1, ha, hp, ?_⟩
  rw [advance_next]
  refine ⟨?_, by rw [transferEffect_pc]⟩
  unfold State.HasSuccessor
  rw [transferEffect_pc]
  exact hr.2

/-- What the registers hold after the free values of the numbers past D31: a register keeps its value but where the list
names it plus 32. -/
theorem State.readD_freePastD31 (s : State) (x : Transfer) (n k : Nat) (hn : n ≤ 32) :
    (s.freePastD31 x n).readD k = if k < n ∧ x.names (32 + k) = true then s.free k else s.readD k := by
  induction n with
  | zero => simp [State.freePastD31]
  | succ n ih =>
    have ih := ih (by omega)
    simp only [State.freePastD31]
    by_cases hk : k = n
    · subst hk
      have h32 : k < 32 := by omega
      split <;> simp_all [State.readD_writeD]
    · have h1 : k < n + 1 ↔ k < n := by omega
      split <;> simp_all [State.readD_writeD]

/-- A list that stays inside the register file uses no free value. -/
theorem State.freePastD31_eq_self (s : State) (x : Transfer) (n : Nat) (h : x.pastD31 = false) :
    s.freePastD31 x n = s := by
  induction n with
  | zero => rfl
  | succ n ih =>
    have hn : x.names (32 + n) = false := by
      simp only [Transfer.names, Transfer.pastD31, List.any_eq_false] at h ⊢
      intro ts hts
      have := h ts hts
      simp only [List.any_eq_true, decide_eq_true_eq, not_exists, not_and, beq_iff_eq] at this ⊢
      intro u hu hc
      exact this u hu (by omega)
    simp [State.freePastD31, hn, ih]

/-- A lane of a doubleword with one lane replaced. -/
theorem lane_setLane {e : Nat} (he : LaneWidth e) (x : DWord) (i j : Nat) (v : BitVec e) (hi : i < 64 / e)
    (hj : j < 64 / e) : lane e (setLane x i v) j = if j = i then v else lane e x j := by
  have hpos := he.pos
  have hf := he.fills
  have bound : ∀ a, a < 64 / e → (a + 1) * e ≤ 64 := fun a ha => hf ▸ Nat.mul_le_mul_right e ha
  have hbi := bound i hi
  have hbj := bound j hj
  rw [Nat.add_mul, Nat.one_mul] at hbi hbj
  apply BitVec.eq_of_getLsbD_eq
  intro b hb
  unfold lane setLane
  rw [BitVec.getLsbD_extractLsb']
  simp only [hb, decide_true, Bool.true_and, BitVec.getLsbD_or, BitVec.getLsbD_and, BitVec.getLsbD_not,
    BitVec.getLsbD_shiftLeft, BitVec.getLsbD_setWidth, BitVec.getLsbD_allOnes]
  have hlt : j * e + b < 64 := by omega
  by_cases hji : j = i
  · subst hji
    have h1 : ¬j * e + b < j * e := by omega
    have h2 : j * e + b - j * e = b := by omega
    have h3 : b < 64 := by omega
    simp [hlt, h1, h2, hb, h3]
  · rw [if_neg hji, BitVec.getLsbD_extractLsb']
    rcases Nat.lt_or_gt_of_ne hji with h | h
    · have : (j + 1) * e ≤ i * e := Nat.mul_le_mul_right e h
      rw [Nat.add_mul, Nat.one_mul] at this
      have h1 : j * e + b < i * e := by omega
      simp [hlt, h1, hb]
    · have : (i + 1) * e ≤ j * e := Nat.mul_le_mul_right e h
      rw [Nat.add_mul, Nat.one_mul] at this
      have h1 : ¬j * e + b < i * e := by omega
      have h2 : ¬j * e + b - i * e < e := by omega
      have h3 : v.getLsbD (j * e + b - i * e) = false := BitVec.getLsbD_of_ge _ _ (by omega)
      simp [hlt, h1, h2, h3, hb]

/-- A register that none of the lanes names keeps its value. -/
theorem State.readD_setLanes_other (s : State) {e : Nat} (v : BitVec e) (ts : List (Nat × Nat)) (k : Nat)
    (h : ∀ t ∈ ts, t.1 ≠ k) : (s.setLanes v ts).readD k = s.readD k := by
  induction ts generalizing s with
  | nil => rfl
  | cons t rest ih =>
    rw [State.setLanes, ih _ (fun u hu => h u (by simp [hu])), State.readD_writeD, if_neg]
    exact fun hk => h t (by simp) hk.1.symm

/-- A load leaves every register that it does not name alone. -/
theorem State.readD_loadElems_other (s : State) (e : Nat) (a : Word) (tss : List (List (Nat × Nat))) (k : Nat)
    (h : ∀ ts ∈ tss, ∀ t ∈ ts, t.1 ≠ k) : (s.loadElems e a tss).readD k = s.readD k := by
  induction tss generalizing s a with
  | nil => rfl
  | cons ts rest ih =>
    rw [State.loadElems, ih _ _ (fun u hu => h u (by simp [hu]))]
    exact State.readD_setLanes_other _ _ _ _ (h ts (by simp))

/-- The base-register update leaves the vector registers alone. -/
@[simp] theorem State.readD_updateBase (s : State) (Rn Rm : BitVec 4) (base index : Word) (moved k : Nat) :
    (s.updateBase Rn Rm base index moved).readD k = s.readD k := State.readD_congr (by simp) k

/-- A store leaves the vector registers alone. -/
@[simp] theorem State.readD_storeElems (s : State) (e : Nat) (a : Word) (tss : List (List (Nat × Nat))) (k : Nat) :
    (s.storeElems e a tss).readD k = s.readD k := State.readD_congr (by simp) k

/-! ## Permission of an access, and the mode -/

/-- A byte is accessible at EL0 exactly where no closed region holds it. -/
theorem State.accessibleAtEl0_iff (s : State) (a : Word) : s.accessibleAtEl0 a = true ↔ s.OpenToEl0 a := by
  simp [State.accessibleAtEl0, State.OpenToEl0, Region.contains]

/-- An access is permitted exactly where the privilege and PSTATE.PAN let every byte of it be. -/
theorem State.permitsBytes_iff (s : State) (a : Word) (n : Nat) : s.permitsBytes a n = true ↔ s.MayAccess a n := by
  simp only [State.permitsBytes, List.all_eq_true, List.mem_range, State.MayAccess, ← State.accessibleAtEl0_iff]
  refine forall₂_congr fun i _ => ?_
  unfold State.permits State.privilegedAccessNever
  cases s.unprivileged <;> cases s.cpsr.getLsbD 22 <;> simp

/-- The alignment that a transfer asks for. -/
theorem Transfer.required_eq (t : Transfer) (s : State) : t.required s = alignment s t.e t.align := rfl

/-- A mode field that rule R24 lists makes the machine act in its mode. -/
theorem actingMode_of_listed {m : BitVec 5} {o : Mode} (h : modeOf m = some o) : actingMode m = o := by
  rw [actingMode, h, Option.getD_some]

/-- The mode field that a CPSR with a new mode has. -/
@[simp] theorem extractLsb'_setCpsrMode (c : Word) (m : BitVec 5) : (setCpsrMode c m).extractLsb' 0 5 = m :=
  BitVec.extractLsb'_append_eq_right

end Sys2Proof.Machine
end

