-- ==== Sys2Proof/Laws/Families.lean ====
section
/-! SUPPORT. What the shared shapes of the vector instructions give: the lanes, the flags and the frame of an operation on
one, two or three operands, and the value of a saturated lane. -/

namespace Sys2Proof.Machine

set_option Elab.async false

/-- The bits of the flags of a result: set where some lane sets them. -/
theorem laneFlags_getLsbD {e : Nat} (xs : List (Lane e)) (b : Nat) :
    (laneFlags xs).getLsbD b = true ↔ ∃ j, j < xs.length ∧ (xs.getD j (0, 0#32)).2.getLsbD b = true := by
  induction xs with
  | nil => simp [laneFlags]
  | cons x rest ih =>
    have h : laneFlags (x :: rest) = x.2 ||| laneFlags rest := rfl
    rw [h, BitVec.getLsbD_or, Bool.or_eq_true, ih]
    constructor
    · rintro (h | ⟨j, hj, h⟩)
      · exact ⟨0, by simp, by simpa using h⟩
      · exact ⟨j + 1, by simpa using hj, by simpa using h⟩
    · rintro ⟨j, hj, h⟩
      cases j with
      | zero => exact .inl (by simpa using h)
      | succ j => exact .inr ⟨j, by simpa using hj, by simpa using h⟩

/-- An Advanced SIMD instruction that is not UNDEFINED completes with what its effect leaves. -/
theorem completes_simdOp {i : Instr} {s : State} {undef : Bool} {k : State → State} {P : State → Prop}
    (he : exec i s = simdOp undef k s) (hu : undef = false) (hk : (k s).pc = s.pc) (hr : s.SimdReady)
    (hP : P { k s with pc := s.pc + 4#32 }) : Completes i s P :=
  ⟨_, he.trans (simdOp_eq hu hk hr), hP⟩

/-- The flags that a result leaves in FPSCR. -/
theorem fpscr_putLanes (s : State) {e : Nat} (first count : Nat) (xs : List (Lane e)) :
    (s.putLanes first count xs).fpscr = s.fpscr ||| laneFlags xs := by simp [State.putLanes, State.setFlags]

/-- A result written lane by lane. -/
theorem putLanes_flagged {i : Instr} {s : State} {undef : Bool} {e : Nat} {A : Flags} {d count : Nat}
    {g : State → List (Lane e)} {r : Nat → Lane e} (ho : LaneWidth e)
    (he : exec i s = simdOp undef (fun s => s.putLanes d count (g s)) s) (hu : undef = false) (hr : s.SimdReady)
    (h32 : d + count ≤ 32) (hl : (g s).length = count * (64 / e))
    (hg : ∀ j, j < count * (64 / e) → (g s).getD j (0, 0#32) = r j) (hw : ∀ x ∈ g s, Lane.Within A x) :
    GivesFlaggedLanes i s A e d count r := by
  refine completes_simdOp he hu (by simp) hr ⟨putLanes_frame A s d count _ hw, ?_, ?_⟩
  · intro j hj
    exact (State.laneAt_putLanes s d count ho _ j hj h32).trans (by rw [hg j hj])
  · intro b _
    show (s.putLanes d count (g s)).fpscr.getLsbD b = true ↔ _
    rw [fpscr_putLanes, BitVec.getLsbD_or, Bool.or_eq_true, laneFlags_getLsbD, hl]
    refine or_congr_right (exists_congr fun j => and_congr_right fun hj => ?_)
    rw [hg j hj]

/-- An operation on one operand. -/
theorem unary_flagged {i : Instr} {s : State} {undef : Bool} {a o : Nat} {A : Flags} {op : BitVec a → Lane o}
    {d dCount m mCount : Nat} (ho : LaneWidth o) (he : exec i s = simdOp undef (unary op d dCount m mCount) s)
    (hu : undef = false) (hr : s.SimdReady) (h32 : d + dCount ≤ 32) (hm : mCount * (64 / a) = dCount * (64 / o))
    (hw : ∀ x, (op x).Within A) :
    GivesFlaggedLanes i s A o d dCount (fun j => op (s.laneAt a m j)) := by
  refine putLanes_flagged ho he hu hr h32 (by simp [hm]) ?_ ?_
  · intro j hj
    rw [List.getD_eq_getElem?_getD, List.getElem?_map, State.readLanes_getElem? _ _ _ _ _ (hm ▸ hj)]
    rfl
  · intro x hx
    obtain ⟨y, -, rfl⟩ := List.mem_map.mp hx
    exact hw y

/-- An operation on two operands. -/
theorem binary_flagged {i : Instr} {s : State} {undef : Bool} {a b o : Nat} {A : Flags}
    {op : BitVec a → BitVec b → Lane o} {d dCount n nCount m mCount : Nat} (ho : LaneWidth o)
    (he : exec i s = simdOp undef (binary op d dCount n nCount m mCount) s) (hu : undef = false) (hr : s.SimdReady)
    (h32 : d + dCount ≤ 32) (hn : nCount * (64 / a) = dCount * (64 / o)) (hm : mCount * (64 / b) = dCount * (64 / o))
    (hw : ∀ x y, (op x y).Within A) :
    GivesFlaggedLanes i s A o d dCount (fun j => op (s.laneAt a n j) (s.laneAt b m j)) := by
  refine putLanes_flagged ho he hu hr h32 (by simp [hn, hm]) ?_ (zipWith_within A op hw _ _)
  intro j hj
  rw [List.getD_eq_getElem?_getD, List.getElem?_zipWith, State.readLanes_getElem? _ _ _ _ _ (hn ▸ hj),
    State.readLanes_getElem? _ _ _ _ _ (hm ▸ hj)]
  rfl

/-- An operation on the destination and one operand. -/
theorem accumulateOne_flagged {i : Instr} {s : State} {undef : Bool} {a o : Nat} {A : Flags}
    {op : BitVec o → BitVec a → Lane o} {d dCount m mCount : Nat} (ho : LaneWidth o)
    (he : exec i s = simdOp undef (accumulateOne op d dCount m mCount) s) (hu : undef = false) (hr : s.SimdReady)
    (h32 : d + dCount ≤ 32) (hm : mCount * (64 / a) = dCount * (64 / o)) (hw : ∀ x y, (op x y).Within A) :
    GivesFlaggedLanes i s A o d dCount (fun j => op (s.laneAt o d j) (s.laneAt a m j)) := by
  refine putLanes_flagged ho he hu hr h32 (by simp [hm]) ?_ (zipWith_within A op hw _ _)
  intro j hj
  rw [List.getD_eq_getElem?_getD, List.getElem?_zipWith, State.readLanes_getElem? _ _ _ _ _ hj,
    State.readLanes_getElem? _ _ _ _ _ (hm ▸ hj)]
  rfl

/-- An operation on the destination and two operands. -/
theorem accumulate_flagged {i : Instr} {s : State} {undef : Bool} {a b o : Nat} {A : Flags}
    {op : BitVec o → BitVec a → BitVec b → Lane o} {d dCount n nCount m mCount : Nat} (ho : LaneWidth o)
    (he : exec i s = simdOp undef (accumulate op d dCount n nCount m mCount) s) (hu : undef = false)
    (hr : s.SimdReady) (h32 : d + dCount ≤ 32) (hn : nCount * (64 / a) = dCount * (64 / o))
    (hm : mCount * (64 / b) = dCount * (64 / o)) (hw : ∀ x y z, (op x y z).Within A) :
    GivesFlaggedLanes i s A o d dCount (fun j => op (s.laneAt o d j) (s.laneAt a n j) (s.laneAt b m j)) := by
  refine putLanes_flagged ho he hu hr h32 (by simp [hn, hm]) ?_
    (zipWith_within A (fun acc (ab : BitVec a × BitVec b) => op acc ab.1 ab.2) (fun x y => hw x y.1 y.2) _ _)
  intro j hj
  rw [List.getD_eq_getElem?_getD, List.getElem?_zipWith, State.readLanes_getElem? _ _ _ _ _ hj,
    (List.getElem?_zip_eq_some (z := (s.laneAt a n j, s.laneAt b m j))).mpr
      ⟨State.readLanes_getElem? s a n nCount j (hn ▸ hj), State.readLanes_getElem? s b m mCount j (hm ▸ hj)⟩]
  rfl

/-- Lanes that set no flag. -/
theorem GivesFlaggedLanes.plainLanes {i : Instr} {s : State} {e d count : Nat} {r : Nat → Lane e} {x : Nat → BitVec e}
    (h : GivesFlaggedLanes i s 0#32 e d count r) (hx : ∀ j, (r j).1 = x j) : GivesLanes i s e d count x := by
  obtain ⟨t, ht, hf, hl, -⟩ := h
  exact ⟨t, ht, hf, fun j hj => (hl j hj).trans (hx j)⟩

/-- A lane of `e` bits has twice as many values as its lower half. -/
theorem two_pow_lane {e : Nat} (he : 0 < e) : (2 : Int) ^ e = 2 * 2 ^ (e - 1) := by
  obtain ⟨k, rfl⟩ : ∃ k, e = k + 1 := ⟨e - 1, by omega⟩
  rw [Int.pow_succ, Int.mul_comm]; rfl

/-- An integer inside the range of a lane reads back as it was. -/
theorem laneInt_wrapInt {e : Nat} (he : 0 < e) (u : Bool) (v : Int) (h1 : satMin e u ≤ v) (h2 : v ≤ satMax e u) :
    laneInt u (wrapInt e v) = v := by
  have hp : (2 : Int) ^ e = 2 * 2 ^ (e - 1) := two_pow_lane he
  have hn : ((2 ^ e : Nat) : Int) = (2 : Int) ^ e := by norm_cast
  unfold laneInt wrapInt
  cases u with
  | true =>
    simp only [satMin, satMax, if_true] at h1 h2 ⊢
    rw [BitVec.toNat_ofInt]
    have hpos : (0 : Int) < 2 ^ e := Int.pow_pos (by decide)
    rw [Int.toNat_of_nonneg (by rw [hn]; exact Int.emod_nonneg _ (Int.ne_of_gt hpos)), hn, Int.emod_eq_of_lt h1 (by omega)]
  | false =>
    simp only [satMin, satMax, Bool.false_eq_true, if_false] at h1 h2 ⊢
    rw [BitVec.toInt_ofInt]
    apply Int.bmod_eq_of_le_mul_two <;> (rw [hn]; omega)

/-- A saturated lane read as an integer is the integer brought into range. -/
theorem laneInt_saturate {e : Nat} (he : 0 < e) (u : Bool) (v : Int) :
    laneInt u (saturate e u v).1 = clamp e u v := by
  have hle : satMin e u ≤ satMax e u := by
    have h1 : (0 : Int) < 2 ^ (e - 1) := Int.pow_pos (by decide)
    have h2 : (0 : Int) < 2 ^ e := Int.pow_pos (by decide)
    cases u <;> simp [satMin, satMax] <;> omega
  unfold saturate clamp
  split
  · rename_i h
    show laneInt u (wrapInt e (satMin e u)) = _
    rw [laneInt_wrapInt he u _ (Int.le_refl _) hle]; omega
  · split
    · show laneInt u (wrapInt e (satMax e u)) = _
      rw [laneInt_wrapInt he u _ hle (Int.le_refl _)]; omega
    · show laneInt u (wrapInt e v) = _
      rw [laneInt_wrapInt he u _ (by omega) (by omega)]; omega

/-- The flag of a saturated lane. -/
theorem saturate_flag (e : Nat) (u : Bool) (v : Int) :
    (saturate e u v).2.getLsbD 27 = true ↔ OutOfRange e u v := by
  have hq : flagQC.getLsbD 27 = true := by decide
  unfold saturate OutOfRange
  split
  · rename_i h; simp [h, hq]
  · rename_i h
    split
    · rename_i h'; simp [h', hq]
    · rename_i h'; simp [plain, h, h']

/-- Lanes whose values and saturation are known. -/
theorem GivesFlaggedLanes.saturatedLanes {i : Instr} {s : State} {e d count : Nat} {r : Nat → Lane e} {u : Bool}
    {x : Nat → Int} {sat : Nat → Prop} (h : GivesFlaggedLanes i s flagQC e d count r)
    (hx : ∀ j, laneInt u (r j).1 = x j) (hs : ∀ j, (r j).2.getLsbD 27 = true ↔ sat j) :
    GivesSaturated i s e d count u x sat := by
  obtain ⟨t, ht, hf, hl, hb⟩ := h
  refine ⟨t, ht, hf, fun j hj => by rw [hl j hj, hx], ?_⟩
  rw [hb 27 (by omega)]
  exact or_congr_right (exists_congr fun j => and_congr_right fun _ => hs j)

/-- Lanes that one saturation gives. -/
theorem GivesFlaggedLanes.saturatedOnce {i : Instr} {s : State} {e d count : Nat} {r : Nat → Lane e} {u : Bool}
    {v : Nat → Int} (he : 0 < e) (h : GivesFlaggedLanes i s flagQC e d count r) (hr : ∀ j, r j = saturate e u (v j)) :
    GivesSaturated i s e d count u (fun j => clamp e u (v j)) (fun j => OutOfRange e u (v j)) :=
  h.saturatedLanes (fun j => by rw [hr, laneInt_saturate he]) (fun j => by rw [hr, saturate_flag])

/-- No flag is within every set. -/
theorem noFlag_within (A : Flags) {e : Nat} {l : Lane e} (h : l.2 = 0#32) : l.Within A := by
  simp [Lane.Within, h]

/-- Operands that are even where Q = 1 are no odd quadwords. -/
theorem oddQuad_of_even {Q : BitVec 1} {regs : List Nat} (h : EvenFor Q regs) {a : Nat} (ha : a ∈ regs) :
    oddQuad Q a = false := (oddQuad_false_iff Q a).mpr fun hq b hb => by
  rw [List.mem_singleton] at hb; subst hb; exact h hq _ ha

/-- An operand that is even where Q = 1 lies inside the register file. -/
theorem fits_of_even {Q hi : BitVec 1} {lo : BitVec 4} {regs : List Nat} (h : EvenFor Q regs)
    (ha : vreg hi lo ∈ regs) : vreg hi lo + regCount Q ≤ 32 := even_fits Q hi lo (oddQuad_of_even h ha)

/-- An even register number begins a quadword inside the register file. -/
theorem quad_fits {hi : BitVec 1} {lo : BitVec 4} (h : vreg hi lo % 2 = 0) : vreg hi lo + 2 ≤ 32 := by
  have := vreg_lt hi lo; omega

/-! ## The shapes of each table -/

/-- Every operand of the vector rows lies inside the register file. -/
theorem threeSame_fits {f : FThreeSame} (h : EvenFor f.Q [f.d, f.n, f.m]) :
    threeSameOdd f = false ∧ f.d + regCount f.Q ≤ 32 := by
  refine ⟨?_, fits_of_even (hi := f.D) (lo := f.Vd) h (by simp [FThreeSame.d])⟩
  unfold threeSameOdd
  rw [oddQuad_of_even h (by simp), oddQuad_of_even h (by simp), oddQuad_of_even h (by simp)]
  rfl

/-- The row shape `threeSameInt`. -/
theorem threeSameInt_flagged {i : Instr} {s : State} {A : Flags} {f : FThreeSame} {undef : Bool}
    {op : (e : Nat) → BitVec e → BitVec e → Lane e} (he : exec i s = threeSameInt f undef op s) (hu : undef = false)
    (hr : s.SimdReady) (hv : EvenFor f.Q [f.d, f.n, f.m]) (hw : ∀ e (x y : BitVec e), (op e x y).Within A) :
    GivesFlaggedLanes i s A (esize f.size) f.d (regCount f.Q)
      (fun j => op _ (s.laneAt (esize f.size) f.n j) (s.laneAt (esize f.size) f.m j)) :=
  binary_flagged (laneWidth_esize _) he (by simp [(threeSame_fits hv).1, hu]) hr (threeSame_fits hv).2 rfl rfl (hw _)

/-- The row shape `threeSameAcc`. -/
theorem threeSameAcc_flagged {i : Instr} {s : State} {A : Flags} {f : FThreeSame} {undef : Bool}
    {op : (e : Nat) → BitVec e → BitVec e → BitVec e → Lane e} (he : exec i s = threeSameAcc f undef op s)
    (hu : undef = false) (hr : s.SimdReady) (hv : EvenFor f.Q [f.d, f.n, f.m])
    (hw : ∀ e (x y z : BitVec e), (op e x y z).Within A) :
    GivesFlaggedLanes i s A (esize f.size) f.d (regCount f.Q)
      (fun j => op _ (s.laneAt (esize f.size) f.d j) (s.laneAt (esize f.size) f.n j) (s.laneAt (esize f.size) f.m j)) :=
  accumulate_flagged (laneWidth_esize _) he (by simp [(threeSame_fits hv).1, hu]) hr (threeSame_fits hv).2 rfl rfl
    (hw _)

/-- The lane widths of the floating-point rows. -/
theorem laneWidth_fpSize (half : Bool) : LaneWidth (fpSize half) := by
  cases half <;> simp [fpSize, LaneWidth]

/-- The row shape `threeSameFp`. -/
theorem threeSameFp_flagged {i : Instr} {s : State} {f : FThreeSame}
    {op : (e : Nat) → BitVec e → BitVec e → Lane e} (he : exec i s = threeSameFp f op s)
    (hu : noHalf f.half s = false) (hr : s.SimdReady) (hv : EvenFor f.Q [f.d, f.n, f.m])
    (hw : ∀ e (x y : BitVec e), (op e x y).Within fpFlags) :
    GivesFlaggedLanes i s fpFlags (fpSize f.half) f.d (regCount f.Q)
      (fun j => op _ (s.laneAt (fpSize f.half) f.n j) (s.laneAt (fpSize f.half) f.m j)) :=
  binary_flagged (laneWidth_fpSize _) he (by simp [(threeSame_fits hv).1, hu]) hr (threeSame_fits hv).2 rfl rfl (hw _)

/-- The row shape `threeSameFpAcc`. -/
theorem threeSameFpAcc_flagged {i : Instr} {s : State} {f : FThreeSame}
    {op : (e : Nat) → BitVec e → BitVec e → BitVec e → Lane e} (he : exec i s = threeSameFpAcc f op s)
    (hu : noHalf f.half s = false) (hr : s.SimdReady) (hv : EvenFor f.Q [f.d, f.n, f.m])
    (hw : ∀ e (x y z : BitVec e), (op e x y z).Within fpFlags) :
    GivesFlaggedLanes i s fpFlags (fpSize f.half) f.d (regCount f.Q)
      (fun j => op _ (s.laneAt (fpSize f.half) f.d j) (s.laneAt (fpSize f.half) f.n j)
        (s.laneAt (fpSize f.half) f.m j)) :=
  accumulate_flagged (laneWidth_fpSize _) he (by simp [(threeSame_fits hv).1, hu]) hr (threeSame_fits hv).2 rfl rfl
    (hw _)

/-- The adjacent pairs of a list. -/
theorem pairs_getElem? {α : Type} (xs : List α) (j : Nat) (x y : α) (hx : xs[2 * j]? = some x)
    (hy : xs[2 * j + 1]? = some y) : (pairs xs)[j]? = some (x, y) := by
  induction j generalizing xs with
  | zero =>
    match xs, hx, hy with
    | a :: b :: rest, hx, hy => simp_all [pairs]
    | [a], hx, hy => simp at hy
    | [], hx, hy => simp at hx
  | succ j ih =>
    match xs, hx, hy with
    | a :: b :: rest, hx, hy =>
      rw [pairs, List.getElem?_cons_succ]
      exact ih rest (by simpa [Nat.mul_add] using hx) (by simpa [Nat.mul_add] using hy)
    | [a], hx, hy => simp [Nat.mul_add] at hx
    | [], hx, hy => simp at hx

/-- How many adjacent pairs a list has. -/
theorem pairs_length {α : Type} : ∀ xs : List α, (pairs xs).length = xs.length / 2
  | [] => by simp [pairs]
  | [_] => by simp [pairs]
  | _ :: _ :: rest => by
    rw [pairs, List.length_cons, pairs_length rest, List.length_cons, List.length_cons]; omega

/-- Lane `j` of two doublewords of lanes. -/
theorem readPair_getElem? (s : State) {e : Nat} (n m j : Nat) (hj : j < 2 * (64 / e)) :
    (s.readLanes e n 1 ++ s.readLanes e m 1)[j]? = some (pairSource s e n m j) := by
  rw [List.getElem?_append, State.readLanes_length, Nat.one_mul]
  unfold pairSource
  split
  · exact State.readLanes_getElem? _ _ _ _ _ (by omega)
  · exact State.readLanes_getElem? _ _ _ _ _ (by omega)

/-- The pairwise row shape. -/
theorem pairs_flagged {i : Instr} {s : State} {A : Flags} {undef : Bool} {e d n m : Nat}
    {op : BitVec e → BitVec e → Lane e} (ho : LaneWidth e)
    (he : exec i s = simdOp undef (pairwiseEffect op d n m) s) (hu : undef = false) (hr : s.SimdReady) (hd : d < 32)
    (hw : ∀ x y, (op x y).Within A) :
    GivesFlaggedLanes i s A e d 1
      (fun j => op (pairSource s e n m (2 * j)) (pairSource s e n m (2 * j + 1))) := by
  refine putLanes_flagged ho he hu hr (by omega) ?_ ?_ ?_
  · rw [List.length_map, pairs_length, List.length_append, State.readLanes_length, State.readLanes_length]; omega
  · intro j hj
    rw [List.getD_eq_getElem?_getD, List.getElem?_map,
      pairs_getElem? _ j _ _ (readPair_getElem? s n m (2 * j) (by omega)) (readPair_getElem? s n m (2 * j + 1) (by omega))]
    rfl
  · intro x hx
    obtain ⟨y, -, rfl⟩ := List.mem_map.mp hx
    exact hw _ _

/-- The row shape `twoRegInt`. -/
theorem twoRegInt_flagged {i : Instr} {s : State} {A : Flags} {f : FTwoRegMisc} {undef : Bool}
    {op : (e : Nat) → BitVec e → Lane e} (he : exec i s = twoRegInt f undef op s) (hu : undef = false)
    (hr : s.SimdReady) (hv : EvenFor f.Q [f.d, f.m]) (hw : ∀ e (x : BitVec e), (op e x).Within A) :
    GivesFlaggedLanes i s A (esize f.size) f.d (regCount f.Q) (fun j => op _ (s.laneAt (esize f.size) f.m j)) :=
  unary_flagged (laneWidth_esize _) he
    (by rw [hu, Bool.or_false]; unfold twoRegOdd; rw [oddQuad_of_even hv (by simp), oddQuad_of_even hv (by simp)]; rfl)
    hr (fits_of_even (hi := f.D) (lo := f.Vd) hv (by simp [FTwoRegMisc.d])) rfl (hw _)

/-- The lane widths that have lanes twice as wide. -/
theorem laneWidth_double {size : BitVec 2} (h : size ≠ 0b11#2) : LaneWidth (2 * esize size) :=
  (laneWidth_esize size).double (by
    have hs : size = 0#2 ∨ size = 1#2 ∨ size = 2#2 ∨ size = 3#2 := by revert size; decide
    rcases hs with hs | hs | hs | hs <;> subst hs <;> first | (exact absurd rfl h) | decide)

/-- A quadword has as many wide lanes as a doubleword has narrow ones. -/
theorem wide_lanes {e : Nat} (h : LaneWidth (2 * e)) : 2 * (64 / (2 * e)) = 1 * (64 / e) := by
  have h' : e = 4 ∨ e = 8 ∨ e = 16 ∨ e = 32 := by unfold LaneWidth at h; omega
  rcases h' with h' | h' | h' | h' <;> subst h' <;> decide

/-- The narrowing row shape: a quadword gives a doubleword. -/
theorem narrow_flagged {i : Instr} {s : State} {A : Flags} {undef : Bool} {e d m : Nat}
    {op : BitVec (2 * e) → Lane e} (ho : LaneWidth e) (ho' : LaneWidth (2 * e))
    (he : exec i s = simdOp undef (unary op d 1 m 2) s) (hu : undef = false) (hr : s.SimdReady) (hd : d < 32)
    (hw : ∀ x, (op x).Within A) :
    GivesFlaggedLanes i s A e d 1 (fun j => op (s.laneAt (2 * e) m j)) :=
  unary_flagged ho he hu hr (by omega) (wide_lanes ho') hw

/-- The long row shape with one operand. -/
theorem long_unary_flagged {i : Instr} {s : State} {A : Flags} {undef : Bool} {e d m : Nat}
    {op : BitVec e → Lane (2 * e)} (ho' : LaneWidth (2 * e))
    (he : exec i s = simdOp undef (unary op d 2 m 1) s) (hu : undef = false) (hr : s.SimdReady) (hd : d + 2 ≤ 32)
    (hw : ∀ x, (op x).Within A) :
    GivesFlaggedLanes i s A (2 * e) d 2 (fun j => op (s.laneAt e m j)) :=
  unary_flagged ho' he hu hr hd (wide_lanes ho').symm hw

/-- The long row shape with two operands. -/
theorem long_binary_flagged {i : Instr} {s : State} {A : Flags} {undef : Bool} {e d n m : Nat}
    {op : BitVec e → BitVec e → Lane (2 * e)} (ho' : LaneWidth (2 * e))
    (he : exec i s = simdOp undef (binary op d 2 n 1 m 1) s) (hu : undef = false) (hr : s.SimdReady) (hd : d + 2 ≤ 32)
    (hw : ∀ x y, (op x y).Within A) :
    GivesFlaggedLanes i s A (2 * e) d 2 (fun j => op (s.laneAt e n j) (s.laneAt e m j)) :=
  binary_flagged ho' he hu hr hd (wide_lanes ho').symm (wide_lanes ho').symm hw

/-- The long row shape with an accumulator and two operands. -/
theorem long_accumulate_flagged {i : Instr} {s : State} {A : Flags} {undef : Bool} {e d n m : Nat}
    {op : BitVec (2 * e) → BitVec e → BitVec e → Lane (2 * e)} (ho' : LaneWidth (2 * e))
    (he : exec i s = simdOp undef (accumulate op d 2 n 1 m 1) s) (hu : undef = false) (hr : s.SimdReady)
    (hd : d + 2 ≤ 32) (hw : ∀ x y z, (op x y z).Within A) :
    GivesFlaggedLanes i s A (2 * e) d 2 (fun j => op (s.laneAt (2 * e) d j) (s.laneAt e n j) (s.laneAt e m j)) :=
  accumulate_flagged ho' he hu hr hd (wide_lanes ho').symm (wide_lanes ho').symm hw

/-- The long row shape with an accumulator and one operand. -/
theorem long_accumulateOne_flagged {i : Instr} {s : State} {A : Flags} {undef : Bool} {e d m : Nat}
    {op : BitVec (2 * e) → BitVec e → Lane (2 * e)} (ho' : LaneWidth (2 * e))
    (he : exec i s = simdOp undef (accumulateOne op d 2 m 1) s) (hu : undef = false) (hr : s.SimdReady)
    (hd : d + 2 ≤ 32) (hw : ∀ x y, (op x y).Within A) :
    GivesFlaggedLanes i s A (2 * e) d 2 (fun j => op (s.laneAt (2 * e) d j) (s.laneAt e m j)) :=
  accumulateOne_flagged ho' he hu hr hd (wide_lanes ho').symm hw

/-- The lane widths of the shift rows. -/
theorem laneWidth_shift (f : FTwoRegShift) : LaneWidth f.esize := by
  unfold FTwoRegShift.esize LaneWidth
  split
  · simp
  · split
    · simp
    · split <;> simp

/-- Where L = 0 the lane width has its double. -/
theorem laneWidth_shift_double {f : FTwoRegShift} (h : f.L = 0#1) : LaneWidth (2 * f.esize) := by
  unfold FTwoRegShift.esize LaneWidth
  rw [if_neg (by simp [h])]
  split
  · simp
  · split <;> simp

/-- The row shape `shiftRow`. -/
theorem shiftRow_flagged {i : Instr} {s : State} {A : Flags} {f : FTwoRegShift}
    {op : (e : Nat) → BitVec e → Lane e} (he : exec i s = shiftRow f op s) (hr : s.SimdReady)
    (hv : EvenFor f.Q [f.d, f.m]) (hw : ∀ e (x : BitVec e), (op e x).Within A) :
    GivesFlaggedLanes i s A f.esize f.d (regCount f.Q) (fun j => op _ (s.laneAt f.esize f.m j)) :=
  unary_flagged (laneWidth_shift f) he
    (by unfold shiftOdd; rw [oddQuad_of_even hv (by simp), oddQuad_of_even hv (by simp)]; rfl) hr
    (fits_of_even (hi := f.D) (lo := f.Vd) hv (by simp [FTwoRegShift.d])) rfl (hw _)

/-- The row shape `shiftRowAcc`. -/
theorem shiftRowAcc_flagged {i : Instr} {s : State} {A : Flags} {f : FTwoRegShift}
    {op : (e : Nat) → BitVec e → BitVec e → Lane e} (he : exec i s = shiftRowAcc f op s) (hr : s.SimdReady)
    (hv : EvenFor f.Q [f.d, f.m]) (hw : ∀ e (x y : BitVec e), (op e x y).Within A) :
    GivesFlaggedLanes i s A f.esize f.d (regCount f.Q)
      (fun j => op _ (s.laneAt f.esize f.d j) (s.laneAt f.esize f.m j)) :=
  accumulateOne_flagged (laneWidth_shift f) he
    (by unfold shiftOdd; rw [oddQuad_of_even hv (by simp), oddQuad_of_even hv (by simp)]; rfl) hr
    (fits_of_even (hi := f.D) (lo := f.Vd) hv (by simp [FTwoRegShift.d])) rfl (hw _)

/-- The row shape `byScalar`. -/
theorem byScalar_flagged {i : Instr} {s : State} {A : Flags} {f : FTwoRegScalar} {undef : Bool}
    {op : (e : Nat) → BitVec e → BitVec e → Lane e} (he : exec i s = byScalar f undef op s)
    (hu : undef = false) (hz : f.size ≠ 0b00#2) (hr : s.SimdReady) (hv : EvenFor f.Q [f.d, f.n])
    (hw : ∀ e (x y : BitVec e), (op e x y).Within A) :
    GivesFlaggedLanes i s A (esize f.size) f.d (regCount f.Q)
      (fun j => op _ (s.laneAt (esize f.size) f.n j) (scalarOf f (esize f.size) s)) :=
  unary_flagged (op := fun a => op (esize f.size) a (scalarOf f (esize f.size) s)) (laneWidth_esize _) he
    (by rw [hu, oddQuad_of_even hv (by simp), oddQuad_of_even hv (by simp)]; simp [hz]) hr
    (fits_of_even (hi := f.D) (lo := f.Vd) hv (by simp [FTwoRegScalar.d])) rfl (fun x => hw _ x _)

/-- The row shape `byScalarAcc`. -/
theorem byScalarAcc_flagged {i : Instr} {s : State} {A : Flags} {f : FTwoRegScalar} {undef : Bool}
    {op : (e : Nat) → BitVec e → BitVec e → BitVec e → Lane e} (he : exec i s = byScalarAcc f undef op s)
    (hu : undef = false) (hz : f.size ≠ 0b00#2) (hr : s.SimdReady) (hv : EvenFor f.Q [f.d, f.n])
    (hw : ∀ e (x y z : BitVec e), (op e x y z).Within A) :
    GivesFlaggedLanes i s A (esize f.size) f.d (regCount f.Q)
      (fun j => op _ (s.laneAt (esize f.size) f.d j) (s.laneAt (esize f.size) f.n j) (scalarOf f (esize f.size) s)) :=
  accumulateOne_flagged (op := fun d a => op (esize f.size) d a (scalarOf f (esize f.size) s)) (laneWidth_esize _) he
    (by rw [hu, oddQuad_of_even hv (by simp), oddQuad_of_even hv (by simp)]; simp [hz]) hr
    (fits_of_even (hi := f.D) (lo := f.Vd) hv (by simp [FTwoRegScalar.d])) rfl (fun x y => hw _ x y _)

end Sys2Proof.Machine
end

