-- ==== Sys2Proof/Laws/PerInstr.lean ====
section
/-! SUPPORT. Statements made for each instruction: its encoding lies in the space of rule R1, w[31:27] = 11110. -/

namespace Sys2Proof.Laws

set_option Elab.async false

/-- The word of the instruction is in the space of rule R1. -/
def EncodeInSpace.Statement (i : Instr) : Prop := bits (encode i) 27 5 = 0b11110#5

theorem EncodeInSpace.unallocatedTop5 (f : FTop) : EncodeInSpace.Statement (.unallocatedTop5 f) := f.space
theorem EncodeInSpace.notInSourceTop (f : FTop) : EncodeInSpace.Statement (.notInSourceTop f) := f.space
theorem EncodeInSpace.unallocatedMisc1 (f : FMisc) : EncodeInSpace.Statement (.unallocatedMisc1 f) := f.space
theorem EncodeInSpace.unallocatedMisc3 (f : FMisc) : EncodeInSpace.Statement (.unallocatedMisc3 f) := f.space
theorem EncodeInSpace.unallocatedMisc4 (f : FMisc) : EncodeInSpace.Statement (.unallocatedMisc4 f) := f.space
theorem EncodeInSpace.unallocatedMisc5 (f : FMisc) : EncodeInSpace.Statement (.unallocatedMisc5 f) := f.space
theorem EncodeInSpace.setpan (f : FMisc) : EncodeInSpace.Statement (.setpan f) := f.space
theorem EncodeInSpace.unallocatedMisc7 (f : FMisc) : EncodeInSpace.Statement (.unallocatedMisc7 f) := f.space
theorem EncodeInSpace.constrainedUnpredictableMisc8 (f : FMisc) : EncodeInSpace.Statement (.constrainedUnpredictableMisc8 f) := f.space
theorem EncodeInSpace.unallocatedMisc9 (f : FMisc) : EncodeInSpace.Statement (.unallocatedMisc9 f) := f.space
theorem EncodeInSpace.unallocatedMisc10 (f : FMisc) : EncodeInSpace.Statement (.unallocatedMisc10 f) := f.space
theorem EncodeInSpace.unallocatedMisc11 (f : FMisc) : EncodeInSpace.Statement (.unallocatedMisc11 f) := f.space
theorem EncodeInSpace.unallocatedMisc12 (f : FMisc) : EncodeInSpace.Statement (.unallocatedMisc12 f) := f.space
theorem EncodeInSpace.unallocatedMisc13 (f : FMisc) : EncodeInSpace.Statement (.unallocatedMisc13 f) := f.space
theorem EncodeInSpace.unallocatedMisc14 (f : FMisc) : EncodeInSpace.Statement (.unallocatedMisc14 f) := f.space
theorem EncodeInSpace.unallocatedMisc15 (f : FMisc) : EncodeInSpace.Statement (.unallocatedMisc15 f) := f.space
theorem EncodeInSpace.setend (f : FCps) : EncodeInSpace.Statement (.setend f) := f.space
theorem EncodeInSpace.cps (f : FCps) : EncodeInSpace.Statement (.cps f) := f.space
theorem EncodeInSpace.unallocatedCps3 (f : FCps) : EncodeInSpace.Statement (.unallocatedCps3 f) := f.space
theorem EncodeInSpace.vfma (f : FThreeSame) : EncodeInSpace.Statement (.vfma f) := f.space
theorem EncodeInSpace.vaddFp (f : FThreeSame) : EncodeInSpace.Statement (.vaddFp f) := f.space
theorem EncodeInSpace.vmlaFp (f : FThreeSame) : EncodeInSpace.Statement (.vmlaFp f) := f.space
theorem EncodeInSpace.vceqRegA2 (f : FThreeSame) : EncodeInSpace.Statement (.vceqRegA2 f) := f.space
theorem EncodeInSpace.vmaxFp (f : FThreeSame) : EncodeInSpace.Statement (.vmaxFp f) := f.space
theorem EncodeInSpace.vrecps (f : FThreeSame) : EncodeInSpace.Statement (.vrecps f) := f.space
theorem EncodeInSpace.vhadd (f : FThreeSame) : EncodeInSpace.Statement (.vhadd f) := f.space
theorem EncodeInSpace.vandReg (f : FThreeSame) : EncodeInSpace.Statement (.vandReg f) := f.space
theorem EncodeInSpace.vqadd (f : FThreeSame) : EncodeInSpace.Statement (.vqadd f) := f.space
theorem EncodeInSpace.vrhadd (f : FThreeSame) : EncodeInSpace.Statement (.vrhadd f) := f.space
theorem EncodeInSpace.sha1c (f : FThreeSame) : EncodeInSpace.Statement (.sha1c f) := f.space
theorem EncodeInSpace.vhsub (f : FThreeSame) : EncodeInSpace.Statement (.vhsub f) := f.space
theorem EncodeInSpace.vbicReg (f : FThreeSame) : EncodeInSpace.Statement (.vbicReg f) := f.space
theorem EncodeInSpace.vqsub (f : FThreeSame) : EncodeInSpace.Statement (.vqsub f) := f.space
theorem EncodeInSpace.vcgtRegA1 (f : FThreeSame) : EncodeInSpace.Statement (.vcgtRegA1 f) := f.space
theorem EncodeInSpace.vcgeRegA1 (f : FThreeSame) : EncodeInSpace.Statement (.vcgeRegA1 f) := f.space
theorem EncodeInSpace.sha1p (f : FThreeSame) : EncodeInSpace.Statement (.sha1p f) := f.space
theorem EncodeInSpace.vfms (f : FThreeSame) : EncodeInSpace.Statement (.vfms f) := f.space
theorem EncodeInSpace.vsubFp (f : FThreeSame) : EncodeInSpace.Statement (.vsubFp f) := f.space
theorem EncodeInSpace.vmlsFp (f : FThreeSame) : EncodeInSpace.Statement (.vmlsFp f) := f.space
theorem EncodeInSpace.unallocatedThreeSame21 (f : FThreeSame) : EncodeInSpace.Statement (.unallocatedThreeSame21 f) := f.space
theorem EncodeInSpace.vminFp (f : FThreeSame) : EncodeInSpace.Statement (.vminFp f) := f.space
theorem EncodeInSpace.vrsqrts (f : FThreeSame) : EncodeInSpace.Statement (.vrsqrts f) := f.space
theorem EncodeInSpace.vshlReg (f : FThreeSame) : EncodeInSpace.Statement (.vshlReg f) := f.space
theorem EncodeInSpace.vaddInt (f : FThreeSame) : EncodeInSpace.Statement (.vaddInt f) := f.space
theorem EncodeInSpace.vorrReg (f : FThreeSame) : EncodeInSpace.Statement (.vorrReg f) := f.space
theorem EncodeInSpace.vtst (f : FThreeSame) : EncodeInSpace.Statement (.vtst f) := f.space
theorem EncodeInSpace.vqshlReg (f : FThreeSame) : EncodeInSpace.Statement (.vqshlReg f) := f.space
theorem EncodeInSpace.vmlaInt (f : FThreeSame) : EncodeInSpace.Statement (.vmlaInt f) := f.space
theorem EncodeInSpace.vrshl (f : FThreeSame) : EncodeInSpace.Statement (.vrshl f) := f.space
theorem EncodeInSpace.vqrshl (f : FThreeSame) : EncodeInSpace.Statement (.vqrshl f) := f.space
theorem EncodeInSpace.vqdmulh3same (f : FThreeSame) : EncodeInSpace.Statement (.vqdmulh3same f) := f.space
theorem EncodeInSpace.sha1m (f : FThreeSame) : EncodeInSpace.Statement (.sha1m f) := f.space
theorem EncodeInSpace.vpaddInt (f : FThreeSame) : EncodeInSpace.Statement (.vpaddInt f) := f.space
theorem EncodeInSpace.vmaxInt (f : FThreeSame) : EncodeInSpace.Statement (.vmaxInt f) := f.space
theorem EncodeInSpace.vornReg (f : FThreeSame) : EncodeInSpace.Statement (.vornReg f) := f.space
theorem EncodeInSpace.vminInt (f : FThreeSame) : EncodeInSpace.Statement (.vminInt f) := f.space
theorem EncodeInSpace.vabdInt (f : FThreeSame) : EncodeInSpace.Statement (.vabdInt f) := f.space
theorem EncodeInSpace.vaba (f : FThreeSame) : EncodeInSpace.Statement (.vaba f) := f.space
theorem EncodeInSpace.sha1su0 (f : FThreeSame) : EncodeInSpace.Statement (.sha1su0 f) := f.space
theorem EncodeInSpace.vpaddFp (f : FThreeSame) : EncodeInSpace.Statement (.vpaddFp f) := f.space
theorem EncodeInSpace.vmulFp (f : FThreeSame) : EncodeInSpace.Statement (.vmulFp f) := f.space
theorem EncodeInSpace.vcgeRegA2 (f : FThreeSame) : EncodeInSpace.Statement (.vcgeRegA2 f) := f.space
theorem EncodeInSpace.vacge (f : FThreeSame) : EncodeInSpace.Statement (.vacge f) := f.space
theorem EncodeInSpace.vpmaxFp (f : FThreeSame) : EncodeInSpace.Statement (.vpmaxFp f) := f.space
theorem EncodeInSpace.vmaxnm (f : FThreeSame) : EncodeInSpace.Statement (.vmaxnm f) := f.space
theorem EncodeInSpace.veor (f : FThreeSame) : EncodeInSpace.Statement (.veor f) := f.space
theorem EncodeInSpace.vmulIntPoly (f : FThreeSame) : EncodeInSpace.Statement (.vmulIntPoly f) := f.space
theorem EncodeInSpace.sha256h (f : FThreeSame) : EncodeInSpace.Statement (.sha256h f) := f.space
theorem EncodeInSpace.vpmaxInt (f : FThreeSame) : EncodeInSpace.Statement (.vpmaxInt f) := f.space
theorem EncodeInSpace.vbsl (f : FThreeSame) : EncodeInSpace.Statement (.vbsl f) := f.space
theorem EncodeInSpace.vpminInt (f : FThreeSame) : EncodeInSpace.Statement (.vpminInt f) := f.space
theorem EncodeInSpace.unallocatedThreeSame53 (f : FThreeSame) : EncodeInSpace.Statement (.unallocatedThreeSame53 f) := f.space
theorem EncodeInSpace.sha256h2 (f : FThreeSame) : EncodeInSpace.Statement (.sha256h2 f) := f.space
theorem EncodeInSpace.vabdFp (f : FThreeSame) : EncodeInSpace.Statement (.vabdFp f) := f.space
theorem EncodeInSpace.vcgtRegA2 (f : FThreeSame) : EncodeInSpace.Statement (.vcgtRegA2 f) := f.space
theorem EncodeInSpace.vacgt (f : FThreeSame) : EncodeInSpace.Statement (.vacgt f) := f.space
theorem EncodeInSpace.vpminFp (f : FThreeSame) : EncodeInSpace.Statement (.vpminFp f) := f.space
theorem EncodeInSpace.vminnm (f : FThreeSame) : EncodeInSpace.Statement (.vminnm f) := f.space
theorem EncodeInSpace.vsubInt (f : FThreeSame) : EncodeInSpace.Statement (.vsubInt f) := f.space
theorem EncodeInSpace.vbit (f : FThreeSame) : EncodeInSpace.Statement (.vbit f) := f.space
theorem EncodeInSpace.vceqRegA1 (f : FThreeSame) : EncodeInSpace.Statement (.vceqRegA1 f) := f.space
theorem EncodeInSpace.vmlsInt (f : FThreeSame) : EncodeInSpace.Statement (.vmlsInt f) := f.space
theorem EncodeInSpace.vqrdmulh3same (f : FThreeSame) : EncodeInSpace.Statement (.vqrdmulh3same f) := f.space
theorem EncodeInSpace.sha256su1 (f : FThreeSame) : EncodeInSpace.Statement (.sha256su1 f) := f.space
theorem EncodeInSpace.vqrdmlah3same (f : FThreeSame) : EncodeInSpace.Statement (.vqrdmlah3same f) := f.space
theorem EncodeInSpace.vbif (f : FThreeSame) : EncodeInSpace.Statement (.vbif f) := f.space
theorem EncodeInSpace.vqrdmlsh3same (f : FThreeSame) : EncodeInSpace.Statement (.vqrdmlsh3same f) := f.space
theorem EncodeInSpace.unallocatedThreeSame69 (f : FThreeSame) : EncodeInSpace.Statement (.unallocatedThreeSame69 f) := f.space
theorem EncodeInSpace.notInSourceThreeSame (f : FThreeSame) : EncodeInSpace.Statement (.notInSourceThreeSame f) := f.space
theorem EncodeInSpace.notInSourceTwoRegThreeDiff (f : FTwoRegThreeDiff) : EncodeInSpace.Statement (.notInSourceTwoRegThreeDiff f) := f.space
theorem EncodeInSpace.vrev64 (f : FTwoRegMisc) : EncodeInSpace.Statement (.vrev64 f) := f.space
theorem EncodeInSpace.vrev32 (f : FTwoRegMisc) : EncodeInSpace.Statement (.vrev32 f) := f.space
theorem EncodeInSpace.vrev16 (f : FTwoRegMisc) : EncodeInSpace.Statement (.vrev16 f) := f.space
theorem EncodeInSpace.unallocatedTwoRegMisc4 (f : FTwoRegMisc) : EncodeInSpace.Statement (.unallocatedTwoRegMisc4 f) := f.space
theorem EncodeInSpace.vpaddl (f : FTwoRegMisc) : EncodeInSpace.Statement (.vpaddl f) := f.space
theorem EncodeInSpace.aese (f : FTwoRegMisc) : EncodeInSpace.Statement (.aese f) := f.space
theorem EncodeInSpace.aesd (f : FTwoRegMisc) : EncodeInSpace.Statement (.aesd f) := f.space
theorem EncodeInSpace.aesmc (f : FTwoRegMisc) : EncodeInSpace.Statement (.aesmc f) := f.space
theorem EncodeInSpace.aesimc (f : FTwoRegMisc) : EncodeInSpace.Statement (.aesimc f) := f.space
theorem EncodeInSpace.vcls (f : FTwoRegMisc) : EncodeInSpace.Statement (.vcls f) := f.space
theorem EncodeInSpace.vswp (f : FTwoRegMisc) : EncodeInSpace.Statement (.vswp f) := f.space
theorem EncodeInSpace.vclz (f : FTwoRegMisc) : EncodeInSpace.Statement (.vclz f) := f.space
theorem EncodeInSpace.vcnt (f : FTwoRegMisc) : EncodeInSpace.Statement (.vcnt f) := f.space
theorem EncodeInSpace.vmvnReg (f : FTwoRegMisc) : EncodeInSpace.Statement (.vmvnReg f) := f.space
theorem EncodeInSpace.vpadal (f : FTwoRegMisc) : EncodeInSpace.Statement (.vpadal f) := f.space
theorem EncodeInSpace.vqabs (f : FTwoRegMisc) : EncodeInSpace.Statement (.vqabs f) := f.space
theorem EncodeInSpace.vqneg (f : FTwoRegMisc) : EncodeInSpace.Statement (.vqneg f) := f.space
theorem EncodeInSpace.vcgtImm0 (f : FTwoRegMisc) : EncodeInSpace.Statement (.vcgtImm0 f) := f.space
theorem EncodeInSpace.vcgeImm0 (f : FTwoRegMisc) : EncodeInSpace.Statement (.vcgeImm0 f) := f.space
theorem EncodeInSpace.vceqImm0 (f : FTwoRegMisc) : EncodeInSpace.Statement (.vceqImm0 f) := f.space
theorem EncodeInSpace.vcleImm0 (f : FTwoRegMisc) : EncodeInSpace.Statement (.vcleImm0 f) := f.space
theorem EncodeInSpace.vcltImm0 (f : FTwoRegMisc) : EncodeInSpace.Statement (.vcltImm0 f) := f.space
theorem EncodeInSpace.vabs (f : FTwoRegMisc) : EncodeInSpace.Statement (.vabs f) := f.space
theorem EncodeInSpace.vneg (f : FTwoRegMisc) : EncodeInSpace.Statement (.vneg f) := f.space
theorem EncodeInSpace.sha1h (f : FTwoRegMisc) : EncodeInSpace.Statement (.sha1h f) := f.space
theorem EncodeInSpace.vtrn (f : FTwoRegMisc) : EncodeInSpace.Statement (.vtrn f) := f.space
theorem EncodeInSpace.vuzp (f : FTwoRegMisc) : EncodeInSpace.Statement (.vuzp f) := f.space
theorem EncodeInSpace.vzip (f : FTwoRegMisc) : EncodeInSpace.Statement (.vzip f) := f.space
theorem EncodeInSpace.vmovn (f : FTwoRegMisc) : EncodeInSpace.Statement (.vmovn f) := f.space
theorem EncodeInSpace.vqmovun (f : FTwoRegMisc) : EncodeInSpace.Statement (.vqmovun f) := f.space
theorem EncodeInSpace.vqmovn (f : FTwoRegMisc) : EncodeInSpace.Statement (.vqmovn f) := f.space
theorem EncodeInSpace.vshllMisc (f : FTwoRegMisc) : EncodeInSpace.Statement (.vshllMisc f) := f.space
theorem EncodeInSpace.sha1su1 (f : FTwoRegMisc) : EncodeInSpace.Statement (.sha1su1 f) := f.space
theorem EncodeInSpace.sha256su0 (f : FTwoRegMisc) : EncodeInSpace.Statement (.sha256su0 f) := f.space
theorem EncodeInSpace.vrintnAsimd (f : FTwoRegMisc) : EncodeInSpace.Statement (.vrintnAsimd f) := f.space
theorem EncodeInSpace.vrintxAsimd (f : FTwoRegMisc) : EncodeInSpace.Statement (.vrintxAsimd f) := f.space
theorem EncodeInSpace.vrintaAsimd (f : FTwoRegMisc) : EncodeInSpace.Statement (.vrintaAsimd f) := f.space
theorem EncodeInSpace.vrintzAsimd (f : FTwoRegMisc) : EncodeInSpace.Statement (.vrintzAsimd f) := f.space
theorem EncodeInSpace.vcvtSpToHp (f : FTwoRegMisc) : EncodeInSpace.Statement (.vcvtSpToHp f) := f.space
theorem EncodeInSpace.unallocatedTwoRegMisc40 (f : FTwoRegMisc) : EncodeInSpace.Statement (.unallocatedTwoRegMisc40 f) := f.space
theorem EncodeInSpace.vrintmAsimd (f : FTwoRegMisc) : EncodeInSpace.Statement (.vrintmAsimd f) := f.space
theorem EncodeInSpace.vcvtHpToSp (f : FTwoRegMisc) : EncodeInSpace.Statement (.vcvtHpToSp f) := f.space
theorem EncodeInSpace.unallocatedTwoRegMisc43 (f : FTwoRegMisc) : EncodeInSpace.Statement (.unallocatedTwoRegMisc43 f) := f.space
theorem EncodeInSpace.vrintpAsimd (f : FTwoRegMisc) : EncodeInSpace.Statement (.vrintpAsimd f) := f.space
theorem EncodeInSpace.vcvtaAsimd (f : FTwoRegMisc) : EncodeInSpace.Statement (.vcvtaAsimd f) := f.space
theorem EncodeInSpace.vcvtnAsimd (f : FTwoRegMisc) : EncodeInSpace.Statement (.vcvtnAsimd f) := f.space
theorem EncodeInSpace.vcvtpAsimd (f : FTwoRegMisc) : EncodeInSpace.Statement (.vcvtpAsimd f) := f.space
theorem EncodeInSpace.vcvtmAsimd (f : FTwoRegMisc) : EncodeInSpace.Statement (.vcvtmAsimd f) := f.space
theorem EncodeInSpace.vrecpe (f : FTwoRegMisc) : EncodeInSpace.Statement (.vrecpe f) := f.space
theorem EncodeInSpace.vrsqrte (f : FTwoRegMisc) : EncodeInSpace.Statement (.vrsqrte f) := f.space
theorem EncodeInSpace.vcvtFpIntAsimd (f : FTwoRegMisc) : EncodeInSpace.Statement (.vcvtFpIntAsimd f) := f.space
theorem EncodeInSpace.notInSourceTwoRegMisc (f : FTwoRegMisc) : EncodeInSpace.Statement (.notInSourceTwoRegMisc f) := f.space
theorem EncodeInSpace.vdupScalar (f : FDup) : EncodeInSpace.Statement (.vdupScalar f) := f.space
theorem EncodeInSpace.unallocatedDup2 (f : FDup) : EncodeInSpace.Statement (.unallocatedDup2 f) := f.space
theorem EncodeInSpace.unallocatedDup3 (f : FDup) : EncodeInSpace.Statement (.unallocatedDup3 f) := f.space
theorem EncodeInSpace.unallocatedDup4 (f : FDup) : EncodeInSpace.Statement (.unallocatedDup4 f) := f.space
theorem EncodeInSpace.vaddl (f : FThreeDiff) : EncodeInSpace.Statement (.vaddl f) := f.space
theorem EncodeInSpace.vaddw (f : FThreeDiff) : EncodeInSpace.Statement (.vaddw f) := f.space
theorem EncodeInSpace.vsubl (f : FThreeDiff) : EncodeInSpace.Statement (.vsubl f) := f.space
theorem EncodeInSpace.vaddhn (f : FThreeDiff) : EncodeInSpace.Statement (.vaddhn f) := f.space
theorem EncodeInSpace.vsubw (f : FThreeDiff) : EncodeInSpace.Statement (.vsubw f) := f.space
theorem EncodeInSpace.vsubhn (f : FThreeDiff) : EncodeInSpace.Statement (.vsubhn f) := f.space
theorem EncodeInSpace.vqdmlal3diff (f : FThreeDiff) : EncodeInSpace.Statement (.vqdmlal3diff f) := f.space
theorem EncodeInSpace.vabal (f : FThreeDiff) : EncodeInSpace.Statement (.vabal f) := f.space
theorem EncodeInSpace.vqdmlsl3diff (f : FThreeDiff) : EncodeInSpace.Statement (.vqdmlsl3diff f) := f.space
theorem EncodeInSpace.vqdmull3diff (f : FThreeDiff) : EncodeInSpace.Statement (.vqdmull3diff f) := f.space
theorem EncodeInSpace.vabdlInt (f : FThreeDiff) : EncodeInSpace.Statement (.vabdlInt f) := f.space
theorem EncodeInSpace.vmlalInt (f : FThreeDiff) : EncodeInSpace.Statement (.vmlalInt f) := f.space
theorem EncodeInSpace.vmlslInt (f : FThreeDiff) : EncodeInSpace.Statement (.vmlslInt f) := f.space
theorem EncodeInSpace.vraddhn (f : FThreeDiff) : EncodeInSpace.Statement (.vraddhn f) := f.space
theorem EncodeInSpace.vrsubhn (f : FThreeDiff) : EncodeInSpace.Statement (.vrsubhn f) := f.space
theorem EncodeInSpace.vmullIntPoly (f : FThreeDiff) : EncodeInSpace.Statement (.vmullIntPoly f) := f.space
theorem EncodeInSpace.unallocatedThreeDiff17 (f : FThreeDiff) : EncodeInSpace.Statement (.unallocatedThreeDiff17 f) := f.space
theorem EncodeInSpace.unallocatedThreeDiff18 (f : FThreeDiff) : EncodeInSpace.Statement (.unallocatedThreeDiff18 f) := f.space
theorem EncodeInSpace.unallocatedThreeDiff19 (f : FThreeDiff) : EncodeInSpace.Statement (.unallocatedThreeDiff19 f) := f.space
theorem EncodeInSpace.unallocatedThreeDiff20 (f : FThreeDiff) : EncodeInSpace.Statement (.unallocatedThreeDiff20 f) := f.space
theorem EncodeInSpace.vmlaScalar (f : FTwoRegScalar) : EncodeInSpace.Statement (.vmlaScalar f) := f.space
theorem EncodeInSpace.vqdmlalScalar (f : FTwoRegScalar) : EncodeInSpace.Statement (.vqdmlalScalar f) := f.space
theorem EncodeInSpace.vmlalScalar (f : FTwoRegScalar) : EncodeInSpace.Statement (.vmlalScalar f) := f.space
theorem EncodeInSpace.vqdmlslScalar (f : FTwoRegScalar) : EncodeInSpace.Statement (.vqdmlslScalar f) := f.space
theorem EncodeInSpace.vmlsScalar (f : FTwoRegScalar) : EncodeInSpace.Statement (.vmlsScalar f) := f.space
theorem EncodeInSpace.vqdmullScalar (f : FTwoRegScalar) : EncodeInSpace.Statement (.vqdmullScalar f) := f.space
theorem EncodeInSpace.vmlslScalar (f : FTwoRegScalar) : EncodeInSpace.Statement (.vmlslScalar f) := f.space
theorem EncodeInSpace.vmulScalar (f : FTwoRegScalar) : EncodeInSpace.Statement (.vmulScalar f) := f.space
theorem EncodeInSpace.unallocatedTwoRegScalar9 (f : FTwoRegScalar) : EncodeInSpace.Statement (.unallocatedTwoRegScalar9 f) := f.space
theorem EncodeInSpace.vmullScalar (f : FTwoRegScalar) : EncodeInSpace.Statement (.vmullScalar f) := f.space
theorem EncodeInSpace.unallocatedTwoRegScalar11 (f : FTwoRegScalar) : EncodeInSpace.Statement (.unallocatedTwoRegScalar11 f) := f.space
theorem EncodeInSpace.vqdmulhScalar (f : FTwoRegScalar) : EncodeInSpace.Statement (.vqdmulhScalar f) := f.space
theorem EncodeInSpace.vqrdmulhScalar (f : FTwoRegScalar) : EncodeInSpace.Statement (.vqrdmulhScalar f) := f.space
theorem EncodeInSpace.unallocatedTwoRegScalar14 (f : FTwoRegScalar) : EncodeInSpace.Statement (.unallocatedTwoRegScalar14 f) := f.space
theorem EncodeInSpace.vqrdmlahScalar (f : FTwoRegScalar) : EncodeInSpace.Statement (.vqrdmlahScalar f) := f.space
theorem EncodeInSpace.vqrdmlshScalar (f : FTwoRegScalar) : EncodeInSpace.Statement (.vqrdmlshScalar f) := f.space
theorem EncodeInSpace.vmovImmA1 (f : FOneRegImm) : EncodeInSpace.Statement (.vmovImmA1 f) := f.space
theorem EncodeInSpace.vmvnImmA1 (f : FOneRegImm) : EncodeInSpace.Statement (.vmvnImmA1 f) := f.space
theorem EncodeInSpace.vorrImmA1 (f : FOneRegImm) : EncodeInSpace.Statement (.vorrImmA1 f) := f.space
theorem EncodeInSpace.vbicImmA1 (f : FOneRegImm) : EncodeInSpace.Statement (.vbicImmA1 f) := f.space
theorem EncodeInSpace.vmovImmA3 (f : FOneRegImm) : EncodeInSpace.Statement (.vmovImmA3 f) := f.space
theorem EncodeInSpace.vmvnImmA2 (f : FOneRegImm) : EncodeInSpace.Statement (.vmvnImmA2 f) := f.space
theorem EncodeInSpace.vorrImmA2 (f : FOneRegImm) : EncodeInSpace.Statement (.vorrImmA2 f) := f.space
theorem EncodeInSpace.vbicImmA2 (f : FOneRegImm) : EncodeInSpace.Statement (.vbicImmA2 f) := f.space
theorem EncodeInSpace.vmovImmA4 (f : FOneRegImm) : EncodeInSpace.Statement (.vmovImmA4 f) := f.space
theorem EncodeInSpace.vmvnImmA3 (f : FOneRegImm) : EncodeInSpace.Statement (.vmvnImmA3 f) := f.space
theorem EncodeInSpace.vmovImmA5 (f : FOneRegImm) : EncodeInSpace.Statement (.vmovImmA5 f) := f.space
theorem EncodeInSpace.unallocatedOneRegImm12 (f : FOneRegImm) : EncodeInSpace.Statement (.unallocatedOneRegImm12 f) := f.space
theorem EncodeInSpace.vshr (f : FTwoRegShift) : EncodeInSpace.Statement (.vshr f) := f.space
theorem EncodeInSpace.vsra (f : FTwoRegShift) : EncodeInSpace.Statement (.vsra f) := f.space
theorem EncodeInSpace.vmovl (f : FTwoRegShift) : EncodeInSpace.Statement (.vmovl f) := f.space
theorem EncodeInSpace.vrshr (f : FTwoRegShift) : EncodeInSpace.Statement (.vrshr f) := f.space
theorem EncodeInSpace.vrsra (f : FTwoRegShift) : EncodeInSpace.Statement (.vrsra f) := f.space
theorem EncodeInSpace.vqshlImm (f : FTwoRegShift) : EncodeInSpace.Statement (.vqshlImm f) := f.space
theorem EncodeInSpace.vqshrn (f : FTwoRegShift) : EncodeInSpace.Statement (.vqshrn f) := f.space
theorem EncodeInSpace.vqrshrn (f : FTwoRegShift) : EncodeInSpace.Statement (.vqrshrn f) := f.space
theorem EncodeInSpace.vshllImm (f : FTwoRegShift) : EncodeInSpace.Statement (.vshllImm f) := f.space
theorem EncodeInSpace.vcvtFpFixedAsimd (f : FTwoRegShift) : EncodeInSpace.Statement (.vcvtFpFixedAsimd f) := f.space
theorem EncodeInSpace.vshlImm (f : FTwoRegShift) : EncodeInSpace.Statement (.vshlImm f) := f.space
theorem EncodeInSpace.vshrn (f : FTwoRegShift) : EncodeInSpace.Statement (.vshrn f) := f.space
theorem EncodeInSpace.vrshrn (f : FTwoRegShift) : EncodeInSpace.Statement (.vrshrn f) := f.space
theorem EncodeInSpace.vsri (f : FTwoRegShift) : EncodeInSpace.Statement (.vsri f) := f.space
theorem EncodeInSpace.vsli (f : FTwoRegShift) : EncodeInSpace.Statement (.vsli f) := f.space
theorem EncodeInSpace.vqshluImm (f : FTwoRegShift) : EncodeInSpace.Statement (.vqshluImm f) := f.space
theorem EncodeInSpace.vqshrun (f : FTwoRegShift) : EncodeInSpace.Statement (.vqshrun f) := f.space
theorem EncodeInSpace.vqrshrun (f : FTwoRegShift) : EncodeInSpace.Statement (.vqrshrun f) := f.space
theorem EncodeInSpace.notInSourceTwoRegShift (f : FTwoRegShift) : EncodeInSpace.Statement (.notInSourceTwoRegShift f) := f.space
theorem EncodeInSpace.constrainedUnpredictableMemHint1 (f : FMemHint) : EncodeInSpace.Statement (.constrainedUnpredictableMemHint1 f) := f.space
theorem EncodeInSpace.constrainedUnpredictableMemHint2 (f : FMemHint) : EncodeInSpace.Statement (.constrainedUnpredictableMemHint2 f) := f.space
theorem EncodeInSpace.constrainedUnpredictableMemHint4 (f : FMemHint) : EncodeInSpace.Statement (.constrainedUnpredictableMemHint4 f) := f.space
theorem EncodeInSpace.constrainedUnpredictableMemHint7 (f : FMemHint) : EncodeInSpace.Statement (.constrainedUnpredictableMemHint7 f) := f.space
theorem EncodeInSpace.unallocatedMemHint8 (f : FMemHint) : EncodeInSpace.Statement (.unallocatedMemHint8 f) := f.space
theorem EncodeInSpace.constrainedUnpredictableBarrier1 (f : FBarrier) : EncodeInSpace.Statement (.constrainedUnpredictableBarrier1 f) := f.space
theorem EncodeInSpace.clrex (f : FBarrier) : EncodeInSpace.Statement (.clrex f) := f.space
theorem EncodeInSpace.constrainedUnpredictableBarrier3 (f : FBarrier) : EncodeInSpace.Statement (.constrainedUnpredictableBarrier3 f) := f.space
theorem EncodeInSpace.dsb (f : FBarrier) : EncodeInSpace.Statement (.dsb f) := f.space
theorem EncodeInSpace.ssbb (f : FBarrier) : EncodeInSpace.Statement (.ssbb f) := f.space
theorem EncodeInSpace.pssbb (f : FBarrier) : EncodeInSpace.Statement (.pssbb f) := f.space
theorem EncodeInSpace.dmb (f : FBarrier) : EncodeInSpace.Statement (.dmb f) := f.space
theorem EncodeInSpace.isb (f : FBarrier) : EncodeInSpace.Statement (.isb f) := f.space
theorem EncodeInSpace.sb (f : FBarrier) : EncodeInSpace.Statement (.sb f) := f.space
theorem EncodeInSpace.constrainedUnpredictableBarrier10 (f : FBarrier) : EncodeInSpace.Statement (.constrainedUnpredictableBarrier10 f) := f.space
theorem EncodeInSpace.reservedHintNopPldImm (f : FPldImm) : EncodeInSpace.Statement (.reservedHintNopPldImm f) := f.space
theorem EncodeInSpace.pliImmLit (f : FPldImm) : EncodeInSpace.Statement (.pliImmLit f) := f.space
theorem EncodeInSpace.pldLit (f : FPldImm) : EncodeInSpace.Statement (.pldLit f) := f.space
theorem EncodeInSpace.pldwImm (f : FPldImm) : EncodeInSpace.Statement (.pldwImm f) := f.space
theorem EncodeInSpace.pldImm (f : FPldImm) : EncodeInSpace.Statement (.pldImm f) := f.space
theorem EncodeInSpace.reservedHintNopPldReg (f : FPldReg) : EncodeInSpace.Statement (.reservedHintNopPldReg f) := f.space
theorem EncodeInSpace.pliReg (f : FPldReg) : EncodeInSpace.Statement (.pliReg f) := f.space
theorem EncodeInSpace.pldwReg (f : FPldReg) : EncodeInSpace.Statement (.pldwReg f) := f.space
theorem EncodeInSpace.pldReg (f : FPldReg) : EncodeInSpace.Statement (.pldReg f) := f.space
theorem EncodeInSpace.asimdLdstMult (f : FLdStMult) : EncodeInSpace.Statement (.asimdLdstMult f) := f.space
theorem EncodeInSpace.asimdLdAll (f : FLdStAll) : EncodeInSpace.Statement (.asimdLdAll f) := f.space
theorem EncodeInSpace.asimdLdstOne (f : FLdStOne) : EncodeInSpace.Statement (.asimdLdstOne f) := f.space

end Sys2Proof.Laws
end

