-- ==== Sys2Proof/Tests/Slice0.lean ====
section
/-! SUPPORT. The model's own tests: the well-formedness checks, words of every row decoded, single steps, and for each
statement with hypotheses a state that meets them. -/

namespace Sys2Proof.Tests

open Sys2Proof Sys2Proof.Machine

set_option Elab.async false

/-- The next state, if any. -/
def nextOf (o : Out) : Option State := match o with | .next t => some t | _ => none

/-- The fault, if any. -/
def faultOf (o : Out) : Option Fault := match o with | .fault r => some r | _ => none

/-- The refusal, if any. -/
def refusalOf (o : Out) : Option Refusal := match o with | .refused r => some r | _ => none

/-- The launch state with a word at pc. -/
def holding (w : Word) : State := State.reset.withFetchWord 32 w.toNat

/-- The launch state at the last word of the address space. -/
def atTop : State := { State.reset with pc := 0xFFFFFFFC#32 }

/-- The launch state in User mode. -/
def inUser : State := { State.reset with cpsr := 0x000001D0#32 }

/-! ## Decoding

Words made from the masks, matches and field places of spec/opcode_table.json; the other fields have arbitrary values. -/

/-- Words of "FTop" rows decode to their instruction, with the fields at the places of its diagram. -/
theorem test_decode_top : ∀ p ∈ ([
    (0xF78B1325, .unallocatedTop5 (.ofWord 0xF78B1325)), (0xF5A6E55E, .notInSourceTop (.ofWord 0xF5A6E55E))] :
    List (Word × Instr)), decode p.1 = .instr p.2 := by
  decide +kernel

/-- Words of "FMisc" rows decode to their instruction, with the fields at the places of its diagram. -/
theorem test_decode_misc : ∀ p ∈ ([
    (0xF05A45F8, .unallocatedMisc1 (.ofWord 0xF05A45F8)), (0xF11BF987, .unallocatedMisc3 (.ofWord 0xF11BF987)),
    (0xF113ED42, .unallocatedMisc4 (.ofWord 0xF113ED42)), (0xF11C26DF, .unallocatedMisc5 (.ofWord 0xF11C26DF)),
    (0xF11BED09, .setpan (.ofWord 0xF11BED09)), (0xF116CF7F, .unallocatedMisc7 (.ofWord 0xF116CF7F)),
    (0xF12ECC7C, .constrainedUnpredictableMisc8 (.ofWord 0xF12ECC7C)),
    (0xF1377C7F, .unallocatedMisc9 (.ofWord 0xF1377C7F)), (0xF130E34D, .unallocatedMisc10 (.ofWord 0xF130E34D)),
    (0xF12A0A3E, .unallocatedMisc11 (.ofWord 0xF12A0A3E)), (0xF12C0E6D, .unallocatedMisc12 (.ofWord 0xF12C0E6D)),
    (0xF12351B7, .unallocatedMisc13 (.ofWord 0xF12351B7)), (0xF14A3EE2, .unallocatedMisc14 (.ofWord 0xF14A3EE2)),
    (0xF1F523A5, .unallocatedMisc15 (.ofWord 0xF1F523A5))] :
    List (Word × Instr)), decode p.1 = .instr p.2 := by
  decide +kernel

/-- Words of "FCps" rows decode to their instruction, with the fields at the places of its diagram. -/
theorem test_decode_cps : ∀ p ∈ ([
    (0xF1015A06, .setend ⟨0, 0, 1, 1, 0, 0, 0, 6⟩), (0xF1045301, .cps ⟨1, 0, 0, 1, 1, 0, 0, 1⟩),
    (0xF10B3AD7, .unallocatedCps3 ⟨2, 1, 1, 1, 0, 1, 1, 23⟩)] :
    List (Word × Instr)), decode p.1 = .instr p.2 := by
  decide +kernel

/-- Words of "FThreeSame" rows decode to their instruction, with the fields at the places of its diagram. -/
theorem test_decode_threeSame : ∀ p ∈ ([
    (0xF203BCB1, .vfma ⟨0, 0, 0, 3, 11, 12, 1, 0, 1, 1, 1⟩),
    (0xF24FBD80, .vaddFp ⟨0, 1, 0, 15, 11, 13, 1, 0, 0, 0, 0⟩),
    (0xF24EADBD, .vmlaFp ⟨0, 1, 0, 14, 10, 13, 1, 0, 1, 1, 13⟩),
    (0xF248AE01, .vceqRegA2 ⟨0, 1, 0, 8, 10, 14, 0, 0, 0, 0, 1⟩),
    (0xF2144FC1, .vmaxFp ⟨0, 0, 1, 4, 4, 15, 1, 1, 0, 0, 1⟩),
    (0xF20E2F36, .vrecps ⟨0, 0, 0, 14, 2, 15, 0, 0, 1, 1, 6⟩),
    (0xF33630CD, .vhadd ⟨1, 0, 3, 6, 3, 0, 1, 1, 0, 0, 13⟩), (0xF20871D2, .vandReg ⟨0, 0, 0, 8, 7, 1, 1, 1, 0, 1, 2⟩),
    (0xF2509092, .vqadd ⟨0, 1, 1, 0, 9, 0, 1, 0, 0, 1, 2⟩), (0xF20B2161, .vrhadd ⟨0, 0, 0, 11, 2, 1, 0, 1, 1, 0, 1⟩),
    (0xF20D0C2D, .sha1c ⟨0, 0, 0, 13, 0, 12, 0, 0, 1, 0, 13⟩), (0xF20252E1, .vhsub ⟨0, 0, 0, 2, 5, 2, 1, 1, 1, 0, 1⟩),
    (0xF2513134, .vbicReg ⟨0, 1, 1, 1, 3, 1, 0, 0, 1, 1, 4⟩), (0xF370C2D4, .vqsub ⟨1, 1, 3, 0, 12, 2, 1, 1, 0, 1, 4⟩),
    (0xF375F388, .vcgtRegA1 ⟨1, 1, 3, 5, 15, 3, 1, 0, 0, 0, 8⟩),
    (0xF322F3B6, .vcgeRegA1 ⟨1, 0, 2, 2, 15, 3, 1, 0, 1, 1, 6⟩),
    (0xF259FCAD, .sha1p ⟨0, 1, 1, 9, 15, 12, 1, 0, 1, 0, 13⟩), (0xF2234C38, .vfms ⟨0, 0, 2, 3, 4, 12, 0, 0, 1, 1, 8⟩),
    (0xF2634D26, .vsubFp ⟨0, 1, 2, 3, 4, 13, 0, 0, 1, 0, 6⟩),
    (0xF234CD1A, .vmlsFp ⟨0, 0, 3, 4, 12, 13, 0, 0, 0, 1, 10⟩),
    (0xF230AE49, .unallocatedThreeSame21 ⟨0, 0, 3, 0, 10, 14, 0, 1, 0, 0, 9⟩),
    (0xF2623FE9, .vminFp ⟨0, 1, 2, 2, 3, 15, 1, 1, 1, 0, 9⟩),
    (0xF22DCFF4, .vrsqrts ⟨0, 0, 2, 13, 12, 15, 1, 1, 1, 1, 4⟩),
    (0xF349A4C4, .vshlReg ⟨1, 1, 0, 9, 10, 4, 1, 1, 0, 0, 4⟩),
    (0xF2784820, .vaddInt ⟨0, 1, 3, 8, 4, 8, 0, 0, 1, 0, 0⟩),
    (0xF26851D0, .vorrReg ⟨0, 1, 2, 8, 5, 1, 1, 1, 0, 1, 0⟩), (0xF25898F0, .vtst ⟨0, 1, 1, 8, 9, 8, 1, 1, 1, 1, 0⟩),
    (0xF32E94B4, .vqshlReg ⟨1, 0, 2, 14, 9, 4, 1, 0, 1, 1, 4⟩),
    (0xF25D89A0, .vmlaInt ⟨0, 1, 1, 13, 8, 9, 1, 0, 1, 0, 0⟩),
    (0xF26CD54B, .vrshl ⟨0, 1, 2, 12, 13, 5, 0, 1, 0, 0, 11⟩),
    (0xF35FD5D6, .vqrshl ⟨1, 1, 1, 15, 13, 5, 1, 1, 0, 1, 6⟩),
    (0xF258EB65, .vqdmulh3same ⟨0, 1, 1, 8, 14, 11, 0, 1, 1, 0, 5⟩),
    (0xF22F0C0A, .sha1m ⟨0, 0, 2, 15, 0, 12, 0, 0, 0, 0, 10⟩),
    (0xF27D9B77, .vpaddInt ⟨0, 1, 3, 13, 9, 11, 0, 1, 1, 1, 7⟩),
    (0xF22D5644, .vmaxInt ⟨0, 0, 2, 13, 5, 6, 0, 1, 0, 0, 4⟩),
    (0xF27AD1DB, .vornReg ⟨0, 1, 3, 10, 13, 1, 1, 1, 0, 1, 11⟩),
    (0xF37B463F, .vminInt ⟨1, 1, 3, 11, 4, 6, 0, 0, 1, 1, 15⟩),
    (0xF320174C, .vabdInt ⟨1, 0, 2, 0, 1, 7, 0, 1, 0, 0, 12⟩), (0xF318B776, .vaba ⟨1, 0, 1, 8, 11, 7, 0, 1, 1, 1, 6⟩),
    (0xF27A5C0C, .sha1su0 ⟨0, 1, 3, 10, 5, 12, 0, 0, 0, 0, 12⟩),
    (0xF346CD05, .vpaddFp ⟨1, 1, 0, 6, 12, 13, 0, 0, 0, 0, 5⟩),
    (0xF3507D3A, .vmulFp ⟨1, 1, 1, 0, 7, 13, 0, 0, 1, 1, 10⟩),
    (0xF3416E20, .vcgeRegA2 ⟨1, 1, 0, 1, 6, 14, 0, 0, 1, 0, 0⟩),
    (0xF348BE74, .vacge ⟨1, 1, 0, 8, 11, 14, 0, 1, 1, 1, 4⟩),
    (0xF30ACFA5, .vpmaxFp ⟨1, 0, 0, 10, 12, 15, 1, 0, 1, 0, 5⟩),
    (0xF3508F7B, .vmaxnm ⟨1, 1, 1, 0, 8, 15, 0, 1, 1, 1, 11⟩), (0xF34351B6, .veor ⟨1, 1, 0, 3, 5, 1, 1, 0, 1, 1, 6⟩),
    (0xF208195F, .vmulIntPoly ⟨0, 0, 0, 8, 1, 9, 0, 1, 0, 1, 15⟩),
    (0xF34CFC26, .sha256h ⟨1, 1, 0, 12, 15, 12, 0, 0, 1, 0, 6⟩),
    (0xF37DCAAD, .vpmaxInt ⟨1, 1, 3, 13, 12, 10, 1, 0, 1, 0, 13⟩),
    (0xF35991FA, .vbsl ⟨1, 1, 1, 9, 9, 1, 1, 1, 1, 1, 10⟩),
    (0xF2427A99, .vpminInt ⟨0, 1, 0, 2, 7, 10, 1, 0, 0, 1, 9⟩),
    (0xF22D4AEF, .unallocatedThreeSame53 ⟨0, 0, 2, 13, 4, 10, 1, 1, 1, 0, 15⟩),
    (0xF355EC68, .sha256h2 ⟨1, 1, 1, 5, 14, 12, 0, 1, 1, 0, 8⟩),
    (0xF33B8DA8, .vabdFp ⟨1, 0, 3, 11, 8, 13, 1, 0, 1, 0, 8⟩),
    (0xF33ECEA6, .vcgtRegA2 ⟨1, 0, 3, 14, 12, 14, 1, 0, 1, 0, 6⟩),
    (0xF32BCE96, .vacgt ⟨1, 0, 2, 11, 12, 14, 1, 0, 0, 1, 6⟩),
    (0xF3764F20, .vpminFp ⟨1, 1, 3, 6, 4, 15, 0, 0, 1, 0, 0⟩),
    (0xF363DFB5, .vminnm ⟨1, 1, 2, 3, 13, 15, 1, 0, 1, 1, 5⟩),
    (0xF372880B, .vsubInt ⟨1, 1, 3, 2, 8, 8, 0, 0, 0, 0, 11⟩),
    (0xF32AE11E, .vbit ⟨1, 0, 2, 10, 14, 1, 0, 0, 0, 1, 14⟩),
    (0xF34AF83A, .vceqRegA1 ⟨1, 1, 0, 10, 15, 8, 0, 0, 1, 1, 10⟩),
    (0xF33DA90C, .vmlsInt ⟨1, 0, 3, 13, 10, 9, 0, 0, 0, 0, 12⟩),
    (0xF338ABA5, .vqrdmulh3same ⟨1, 0, 3, 8, 10, 11, 1, 0, 1, 0, 5⟩),
    (0xF3673C81, .sha256su1 ⟨1, 1, 2, 7, 3, 12, 1, 0, 0, 0, 1⟩),
    (0xF3056B5F, .vqrdmlah3same ⟨1, 0, 0, 5, 6, 11, 0, 1, 0, 1, 15⟩),
    (0xF3745155, .vbif ⟨1, 1, 3, 4, 5, 1, 0, 1, 0, 1, 5⟩),
    (0xF3673CF0, .vqrdmlsh3same ⟨1, 1, 2, 7, 3, 12, 1, 1, 1, 1, 0⟩),
    (0xF350CFE0, .unallocatedThreeSame69 ⟨1, 1, 1, 0, 12, 15, 1, 1, 1, 0, 0⟩),
    (0xF37D4C0E, .notInSourceThreeSame ⟨1, 1, 3, 13, 4, 12, 0, 0, 0, 0, 14⟩),
    (0xF200FEBE, .notInSourceThreeSame ⟨0, 0, 0, 0, 15, 14, 1, 0, 1, 1, 14⟩),
    (0xF3677DB7, .notInSourceThreeSame ⟨1, 1, 2, 7, 7, 13, 1, 0, 1, 1, 7⟩)] :
    List (Word × Instr)), decode p.1 = .instr p.2 := by
  decide +kernel

/-- Words of "FTwoRegThreeDiff" rows decode to their instruction, with the fields at the places of its diagram. -/
theorem test_decode_twoRegThreeDiff : ∀ p ∈ ([
    (0xF2FBF365, .notInSourceTwoRegThreeDiff (.ofWord 0xF2FBF365)),
    (0xF3F2E909, .notInSourceTwoRegThreeDiff (.ofWord 0xF3F2E909))] :
    List (Word × Instr)), decode p.1 = .instr p.2 := by
  decide +kernel

/-- Words of "FTwoRegMisc" rows decode to their instruction, with the fields at the places of its diagram. -/
theorem test_decode_twoRegMisc : ∀ p ∈ ([
    (0xF3B8402A, .vrev64 ⟨0, 2, 0, 4, 0, 0, 1, 10⟩), (0xF3BCD0CF, .vrev32 ⟨0, 3, 0, 13, 1, 1, 0, 15⟩),
    (0xF3F8F16F, .vrev16 ⟨1, 2, 0, 15, 2, 1, 1, 15⟩), (0xF3F4C1A3, .unallocatedTwoRegMisc4 ⟨1, 1, 0, 12, 3, 0, 1, 3⟩),
    (0xF3B8B205, .vpaddl ⟨0, 2, 0, 11, 4, 0, 0, 5⟩), (0xF3B00321, .aese ⟨0, 0, 0, 0, 6, 0, 1, 1⟩),
    (0xF3F8F367, .aesd ⟨1, 2, 0, 15, 6, 1, 1, 7⟩), (0xF3F05385, .aesmc ⟨1, 0, 0, 5, 7, 0, 0, 5⟩),
    (0xF3B833E9, .aesimc ⟨0, 2, 0, 3, 7, 1, 1, 9⟩), (0xF3F0140D, .vcls ⟨1, 0, 0, 1, 8, 0, 0, 13⟩),
    (0xF3B22021, .vswp ⟨0, 0, 2, 2, 0, 0, 1, 1⟩), (0xF3B8C4CA, .vclz ⟨0, 2, 0, 12, 9, 1, 0, 10⟩),
    (0xF3F4C526, .vcnt ⟨1, 1, 0, 12, 10, 0, 1, 6⟩), (0xF3F095E0, .vmvnReg ⟨1, 0, 0, 9, 11, 1, 1, 0⟩),
    (0xF3B0D6A9, .vpadal ⟨0, 0, 0, 13, 13, 0, 1, 9⟩), (0xF3B8470D, .vqabs ⟨0, 2, 0, 4, 14, 0, 0, 13⟩),
    (0xF3F8F7A1, .vqneg ⟨1, 2, 0, 15, 15, 0, 1, 1⟩), (0xF3B5744C, .vcgtImm0 ⟨0, 1, 1, 7, 8, 1, 0, 12⟩),
    (0xF3F5B0E3, .vcgeImm0 ⟨1, 1, 1, 11, 1, 1, 1, 3⟩), (0xF3B91546, .vceqImm0 ⟨0, 2, 1, 1, 10, 1, 0, 6⟩),
    (0xF3B9C1C6, .vcleImm0 ⟨0, 2, 1, 12, 3, 1, 0, 6⟩), (0xF3F5F20E, .vcltImm0 ⟨1, 1, 1, 15, 4, 0, 0, 14⟩),
    (0xF3FD2302, .vabs ⟨1, 3, 1, 2, 6, 0, 0, 2⟩), (0xF3F5B38E, .vneg ⟨1, 1, 1, 11, 7, 0, 0, 14⟩),
    (0xF3FDC2CD, .sha1h ⟨1, 3, 1, 12, 5, 1, 0, 13⟩), (0xF3B210E1, .vtrn ⟨0, 0, 2, 1, 1, 1, 1, 1⟩),
    (0xF3FEE16B, .vuzp ⟨1, 3, 2, 14, 2, 1, 1, 11⟩), (0xF3BE5184, .vzip ⟨0, 3, 2, 5, 3, 0, 0, 4⟩),
    (0xF3FA9200, .vmovn ⟨1, 2, 2, 9, 4, 0, 0, 0⟩), (0xF3BE7269, .vqmovun ⟨0, 3, 2, 7, 4, 1, 1, 9⟩),
    (0xF3F622E0, .vqmovn ⟨1, 1, 2, 2, 5, 1, 1, 0⟩), (0xF3F23309, .vshllMisc ⟨1, 0, 2, 3, 6, 0, 0, 9⟩),
    (0xF3F2B3A4, .sha1su1 ⟨1, 0, 2, 11, 7, 0, 1, 4⟩), (0xF3BAA3C4, .sha256su0 ⟨0, 2, 2, 10, 7, 1, 0, 4⟩),
    (0xF3FA9441, .vrintnAsimd ⟨1, 2, 2, 9, 8, 1, 0, 1⟩), (0xF3B2E485, .vrintxAsimd ⟨0, 0, 2, 14, 9, 0, 0, 5⟩),
    (0xF3BE2505, .vrintaAsimd ⟨0, 3, 2, 2, 10, 0, 0, 5⟩), (0xF3B2D5C2, .vrintzAsimd ⟨0, 0, 2, 13, 11, 1, 0, 2⟩),
    (0xF3FE4601, .vcvtSpToHp ⟨1, 3, 2, 4, 12, 0, 0, 1⟩),
    (0xF3BAF647, .unallocatedTwoRegMisc40 ⟨0, 2, 2, 15, 12, 1, 0, 7⟩),
    (0xF3F6F6CC, .vrintmAsimd ⟨1, 1, 2, 15, 13, 1, 0, 12⟩), (0xF3FA4704, .vcvtHpToSp ⟨1, 2, 2, 4, 14, 0, 0, 4⟩),
    (0xF3F26766, .unallocatedTwoRegMisc43 ⟨1, 0, 2, 6, 14, 1, 1, 6⟩),
    (0xF3BAC784, .vrintpAsimd ⟨0, 2, 2, 12, 15, 0, 0, 4⟩), (0xF3B77060, .vcvtaAsimd ⟨0, 1, 3, 7, 0, 1, 1, 0⟩),
    (0xF3BB1124, .vcvtnAsimd ⟨0, 2, 3, 1, 2, 0, 1, 4⟩), (0xF3BFA203, .vcvtpAsimd ⟨0, 3, 3, 10, 4, 0, 0, 3⟩),
    (0xF3F7A32E, .vcvtmAsimd ⟨1, 1, 3, 10, 6, 0, 1, 14⟩), (0xF3F39563, .vrecpe ⟨1, 0, 3, 9, 10, 1, 1, 3⟩),
    (0xF3F3D5AD, .vrsqrte ⟨1, 0, 3, 13, 11, 0, 1, 13⟩), (0xF3B3E788, .vcvtFpIntAsimd ⟨0, 0, 3, 14, 15, 0, 0, 8⟩),
    (0xF3B14280, .notInSourceTwoRegMisc ⟨0, 0, 1, 4, 5, 0, 0, 0⟩),
    (0xF3B946AA, .notInSourceTwoRegMisc ⟨0, 2, 1, 4, 13, 0, 1, 10⟩),
    (0xF3B6F02B, .notInSourceTwoRegMisc ⟨0, 1, 2, 15, 0, 0, 1, 11⟩),
    (0xF3BA6009, .notInSourceTwoRegMisc ⟨0, 2, 2, 6, 0, 0, 0, 9⟩),
    (0xF3FE4341, .notInSourceTwoRegMisc ⟨1, 3, 2, 4, 6, 1, 0, 1⟩)] :
    List (Word × Instr)), decode p.1 = .instr p.2 := by
  decide +kernel

/-- Words of "FDup" rows decode to their instruction, with the fields at the places of its diagram. -/
theorem test_decode_dup : ∀ p ∈ ([
    (0xF3BF0C21, .vdupScalar ⟨0, 15, 0, 0, 0, 1, 1⟩), (0xF3F30CC2, .unallocatedDup2 ⟨1, 3, 0, 1, 1, 0, 2⟩),
    (0xF3FD4D2E, .unallocatedDup3 ⟨1, 13, 4, 2, 0, 1, 14⟩), (0xF3F32E6B, .unallocatedDup4 ⟨1, 3, 2, 4, 1, 1, 11⟩)] :
    List (Word × Instr)), decode p.1 = .instr p.2 := by
  decide +kernel

/-- Words of "FThreeDiff" rows decode to their instruction, with the fields at the places of its diagram. -/
theorem test_decode_threeDiff : ∀ p ∈ ([
    (0xF286E0AC, .vaddl ⟨0, 0, 0, 6, 14, 0, 1, 1, 12⟩), (0xF3D581AB, .vaddw ⟨1, 1, 1, 5, 8, 1, 1, 1, 11⟩),
    (0xF2ADE28B, .vsubl ⟨0, 0, 2, 13, 14, 2, 1, 0, 11⟩), (0xF2E94424, .vaddhn ⟨0, 1, 2, 9, 4, 4, 0, 1, 4⟩),
    (0xF2E0238D, .vsubw ⟨0, 1, 2, 0, 2, 3, 1, 0, 13⟩), (0xF293D62E, .vsubhn ⟨0, 0, 1, 3, 13, 6, 0, 1, 14⟩),
    (0xF2AD8986, .vqdmlal3diff ⟨0, 0, 2, 13, 8, 9, 1, 0, 6⟩), (0xF38D150A, .vabal ⟨1, 0, 0, 13, 1, 5, 0, 0, 10⟩),
    (0xF2DA1B8B, .vqdmlsl3diff ⟨0, 1, 1, 10, 1, 11, 1, 0, 11⟩),
    (0xF2E25D84, .vqdmull3diff ⟨0, 1, 2, 2, 5, 13, 1, 0, 4⟩), (0xF3A27701, .vabdlInt ⟨1, 0, 2, 2, 7, 7, 0, 0, 1⟩),
    (0xF2DBD802, .vmlalInt ⟨0, 1, 1, 11, 13, 8, 0, 0, 2⟩), (0xF3A22A23, .vmlslInt ⟨1, 0, 2, 2, 2, 10, 0, 1, 3⟩),
    (0xF3E7A48B, .vraddhn ⟨1, 1, 2, 7, 10, 4, 1, 0, 11⟩), (0xF38E060D, .vrsubhn ⟨1, 0, 0, 14, 0, 6, 0, 0, 13⟩),
    (0xF2CCDE0E, .vmullIntPoly ⟨0, 1, 0, 12, 13, 14, 0, 0, 14⟩),
    (0xF39609AB, .unallocatedThreeDiff17 ⟨1, 0, 1, 6, 0, 9, 1, 1, 11⟩),
    (0xF3C11B83, .unallocatedThreeDiff18 ⟨1, 1, 0, 1, 1, 11, 1, 0, 3⟩),
    (0xF390DD0A, .unallocatedThreeDiff19 ⟨1, 0, 1, 0, 13, 13, 0, 0, 10⟩),
    (0xF3E5CF25, .unallocatedThreeDiff20 ⟨1, 1, 2, 5, 12, 15, 0, 1, 5⟩)] :
    List (Word × Instr)), decode p.1 = .instr p.2 := by
  decide +kernel

/-- Words of "FTwoRegScalar" rows decode to their instruction, with the fields at the places of its diagram. -/
theorem test_decode_twoRegScalar : ∀ p ∈ ([
    (0xF38620EC, .vmlaScalar ⟨1, 0, 0, 6, 2, 0, 1, 1, 12⟩),
    (0xF2AA4342, .vqdmlalScalar ⟨0, 0, 2, 10, 4, 3, 0, 0, 2⟩),
    (0xF3E1D26F, .vmlalScalar ⟨1, 1, 2, 1, 13, 2, 0, 1, 15⟩),
    (0xF2CB476F, .vqdmlslScalar ⟨0, 1, 0, 11, 4, 7, 0, 1, 15⟩),
    (0xF3EF954B, .vmlsScalar ⟨1, 1, 2, 15, 9, 5, 0, 0, 11⟩),
    (0xF2A05B6F, .vqdmullScalar ⟨0, 0, 2, 0, 5, 11, 0, 1, 15⟩),
    (0xF2E836C2, .vmlslScalar ⟨0, 1, 2, 8, 3, 6, 1, 0, 2⟩), (0xF298A84E, .vmulScalar ⟨0, 0, 1, 8, 10, 8, 0, 0, 14⟩),
    (0xF3D5F3EA, .unallocatedTwoRegScalar9 ⟨1, 1, 1, 5, 15, 3, 1, 1, 10⟩),
    (0xF29CEAE6, .vmullScalar ⟨0, 0, 1, 12, 14, 10, 1, 1, 6⟩),
    (0xF39167E4, .unallocatedTwoRegScalar11 ⟨1, 0, 1, 1, 6, 7, 1, 1, 4⟩),
    (0xF3A67CEF, .vqdmulhScalar ⟨1, 0, 2, 6, 7, 12, 1, 1, 15⟩),
    (0xF29FEDCD, .vqrdmulhScalar ⟨0, 0, 1, 15, 14, 13, 1, 0, 13⟩),
    (0xF382ABC9, .unallocatedTwoRegScalar14 ⟨1, 0, 0, 2, 10, 11, 1, 0, 9⟩),
    (0xF2A24E67, .vqrdmlahScalar ⟨0, 0, 2, 2, 4, 14, 0, 1, 7⟩),
    (0xF3E6CF46, .vqrdmlshScalar ⟨1, 1, 2, 6, 12, 15, 0, 0, 6⟩)] :
    List (Word × Instr)), decode p.1 = .instr p.2 := by
  decide +kernel

/-- Words of "FOneRegImm" rows decode to their instruction, with the fields at the places of its diagram. -/
theorem test_decode_oneRegImm : ∀ p ∈ ([
    (0xF3C05416, .vmovImmA1 ⟨1, 1, 0, 5, 4, 0, 0, 6⟩), (0xF2C73475, .vmvnImmA1 ⟨0, 1, 7, 3, 4, 1, 1, 5⟩),
    (0xF3C54316, .vorrImmA1 ⟨1, 1, 5, 4, 3, 0, 0, 6⟩), (0xF2C2057D, .vbicImmA1 ⟨0, 1, 2, 0, 5, 1, 1, 13⟩),
    (0xF380B810, .vmovImmA3 ⟨1, 0, 0, 11, 8, 0, 0, 0⟩), (0xF3C37831, .vmvnImmA2 ⟨1, 1, 3, 7, 8, 0, 1, 1⟩),
    (0xF2C0095A, .vorrImmA2 ⟨0, 1, 0, 0, 9, 1, 0, 10⟩), (0xF287BB7E, .vbicImmA2 ⟨0, 0, 7, 11, 11, 1, 1, 14⟩),
    (0xF3876C1F, .vmovImmA4 ⟨1, 0, 7, 6, 12, 0, 0, 15⟩), (0xF3C7EC7C, .vmvnImmA3 ⟨1, 1, 7, 14, 12, 1, 1, 12⟩),
    (0xF2824E3C, .vmovImmA5 ⟨0, 0, 2, 4, 14, 0, 1, 12⟩),
    (0xF382FF78, .unallocatedOneRegImm12 ⟨1, 0, 2, 15, 15, 1, 1, 8⟩)] :
    List (Word × Instr)), decode p.1 = .instr p.2 := by
  decide +kernel

/-- Words of "FTwoRegShift" rows decode to their instruction, with the fields at the places of its diagram. -/
theorem test_decode_twoRegShift : ∀ p ∈ ([
    (0xF3AB80BE, .vshr ⟨1, 0, 5, 3, 8, 0, 1, 0, 1, 14⟩), (0xF296719A, .vsra ⟨0, 0, 2, 6, 7, 1, 1, 0, 0, 10⟩),
    (0xF3A0AA9C, .vmovl ⟨1, 0, 4, 0, 10, 10, 1, 0, 0, 12⟩), (0xF2AE623F, .vrshr ⟨0, 0, 5, 6, 6, 2, 0, 0, 1, 15⟩),
    (0xF2ECF3D2, .vrsra ⟨0, 1, 5, 4, 15, 3, 1, 1, 0, 2⟩), (0xF39EC710, .vqshlImm ⟨1, 0, 3, 6, 12, 7, 0, 0, 0, 0⟩),
    (0xF3F3F9B7, .vqshrn ⟨1, 1, 6, 3, 15, 9, 1, 0, 1, 7⟩), (0xF2C959D3, .vqrshrn ⟨0, 1, 1, 1, 5, 9, 1, 1, 0, 3⟩),
    (0xF2A69A90, .vshllImm ⟨0, 0, 4, 6, 9, 10, 1, 0, 0, 0⟩),
    (0xF3C8EC19, .vcvtFpFixedAsimd ⟨1, 1, 1, 0, 14, 12, 0, 0, 0, 9⟩),
    (0xF2D5C53A, .vshlImm ⟨0, 1, 2, 5, 12, 5, 0, 0, 1, 10⟩), (0xF2C5C892, .vshrn ⟨0, 1, 0, 5, 12, 8, 1, 0, 0, 2⟩),
    (0xF2BD087F, .vrshrn ⟨0, 0, 7, 5, 0, 8, 0, 1, 1, 15⟩), (0xF3DCD4F0, .vsri ⟨1, 1, 3, 4, 13, 4, 1, 1, 1, 0⟩),
    (0xF3CBB59D, .vsli ⟨1, 1, 1, 3, 11, 5, 1, 0, 0, 13⟩), (0xF3A756FF, .vqshluImm ⟨1, 0, 4, 7, 5, 6, 1, 1, 1, 15⟩),
    (0xF3DC6832, .vqshrun ⟨1, 1, 3, 4, 6, 8, 0, 0, 1, 2⟩), (0xF3D5185E, .vqrshrun ⟨1, 1, 2, 5, 1, 8, 0, 1, 0, 14⟩),
    (0xF29D94B7, .notInSourceTwoRegShift ⟨0, 0, 3, 5, 9, 4, 1, 0, 1, 7⟩),
    (0xF2F476BB, .notInSourceTwoRegShift ⟨0, 1, 6, 4, 7, 6, 1, 0, 1, 11⟩),
    (0xF3FF1AFE, .notInSourceTwoRegShift ⟨1, 1, 7, 7, 1, 10, 1, 1, 1, 14⟩),
    (0xF2EEBB95, .notInSourceTwoRegShift ⟨0, 1, 5, 6, 11, 11, 1, 0, 0, 5⟩)] :
    List (Word × Instr)), decode p.1 = .instr p.2 := by
  decide +kernel

/-- Words of "FMemHint" rows decode to their instruction, with the fields at the places of its diagram. -/
theorem test_decode_memHint : ∀ p ∈ ([
    (0xF4F8F6BD, .constrainedUnpredictableMemHint1 (.ofWord 0xF4F8F6BD)),
    (0xF53CE7FF, .constrainedUnpredictableMemHint2 (.ofWord 0xF53CE7FF)),
    (0xF5B78DEB, .constrainedUnpredictableMemHint4 (.ofWord 0xF5B78DEB)),
    (0xF674928E, .constrainedUnpredictableMemHint7 (.ofWord 0xF674928E)),
    (0xF73C5558, .unallocatedMemHint8 (.ofWord 0xF73C5558))] :
    List (Word × Instr)), decode p.1 = .instr p.2 := by
  decide +kernel

/-- Words of "FBarrier" rows decode to their instruction, with the fields at the places of its diagram. -/
theorem test_decode_barrier : ∀ p ∈ ([
    (0xF57DEE07, .constrainedUnpredictableBarrier1 ⟨0, 7⟩), (0xF57E9F18, .clrex ⟨1, 8⟩),
    (0xF5700539, .constrainedUnpredictableBarrier3 ⟨3, 9⟩), (0xF5774C41, .dsb ⟨4, 1⟩), (0xF57BF340, .ssbb ⟨4, 0⟩),
    (0xF5756A44, .pssbb ⟨4, 4⟩), (0xF577CF5A, .dmb ⟨5, 10⟩), (0xF579A461, .isb ⟨6, 1⟩), (0xF5749778, .sb ⟨7, 8⟩),
    (0xF57DAE9D, .constrainedUnpredictableBarrier10 ⟨9, 13⟩)] :
    List (Word × Instr)), decode p.1 = .instr p.2 := by
  decide +kernel

/-- Words of "FPldImm" rows decode to their instruction, with the fields at the places of its diagram. -/
theorem test_decode_pldImm : ∀ p ∈ ([
    (0xF410BBC0, .reservedHintNopPldImm ⟨0, 0, 0, 0, 3008⟩), (0xF4DCE515, .pliImmLit ⟨0, 1, 1, 12, 1301⟩),
    (0xF55F5A0E, .pldLit ⟨1, 0, 1, 15, 2574⟩), (0xF51AC655, .pldwImm ⟨1, 0, 0, 10, 1621⟩),
    (0xF5D407F6, .pldImm ⟨1, 1, 1, 4, 2038⟩)] :
    List (Word × Instr)), decode p.1 = .instr p.2 := by
  decide +kernel

/-- Words of "FPldReg" rows decode to their instruction, with the fields at the places of its diagram. -/
theorem test_decode_pldReg : ∀ p ∈ ([
    (0xF696B98C, .reservedHintNopPldReg ⟨0, 1, 0, 6, 19, 0, 12⟩), (0xF65A2829, .pliReg ⟨0, 0, 1, 10, 16, 1, 9⟩),
    (0xF7173FEE, .pldwReg ⟨1, 0, 0, 7, 31, 3, 14⟩), (0xF7D60A6F, .pldReg ⟨1, 1, 1, 6, 20, 3, 15⟩)] :
    List (Word × Instr)), decode p.1 = .instr p.2 := by
  decide +kernel

/-- Words of "FLdStMult" rows decode to their instruction, with the fields at the places of its diagram. -/
theorem test_decode_ldstMult : ∀ p ∈ ([
    (0xF40CFA08, .asimdLdstMult ⟨0, 0, 12, 15, 10, 0, 0, 8⟩)] :
    List (Word × Instr)), decode p.1 = .instr p.2 := by
  decide +kernel

/-- Words of "FLdStAll" rows decode to their instruction, with the fields at the places of its diagram. -/
theorem test_decode_ldAll : ∀ p ∈ ([
    (0xF4CCEF77, .asimdLdAll ⟨1, 0, 12, 14, 3, 1, 1, 1, 7⟩)] :
    List (Word × Instr)), decode p.1 = .instr p.2 := by
  decide +kernel

/-- Words of "FLdStOne" rows decode to their instruction, with the fields at the places of its diagram. -/
theorem test_decode_ldstOne : ∀ p ∈ ([
    (0xF4AF539F, .asimdLdstOne ⟨0, 1, 15, 5, 0, 3, 9, 15⟩)] :
    List (Word × Instr)), decode p.1 = .instr p.2 := by
  decide +kernel
/-! ## Well-formedness -/

/-- A "FTop" record that breaks one check of its row is refused. -/
theorem test_wellFormed_top : ∀ i ∈ ([
    .unallocatedTop5 (.ofWord 0xF5AB0C1E), .unallocatedTop5 (.ofWord 0xF7BB0C1E),
    .notInSourceTop (.ofWord 0xF10477BA), .notInSourceTop (.ofWord 0xF40477BA), .notInSourceTop (.ofWord 0xF51477BA)] :
    List Instr), i.WellFormed = false := by
  decide +kernel

/-- A "FMisc" record that breaks one check of its row is refused. -/
theorem test_wellFormed_misc : ∀ i ∈ ([
    .unallocatedMisc3 (.ofWord 0xF10DF281), .unallocatedMisc3 (.ofWord 0xF11DF291),
    .unallocatedMisc4 (.ofWord 0xF102E041), .unallocatedMisc4 (.ofWord 0xF112E001),
    .unallocatedMisc5 (.ofWord 0xF109529B), .unallocatedMisc5 (.ofWord 0xF119528B), .setpan (.ofWord 0xF104920D),
    .setpan (.ofWord 0xF114928D), .unallocatedMisc7 (.ofWord 0xF1046338),
    .constrainedUnpredictableMisc8 (.ofWord 0xF1307F7E), .constrainedUnpredictableMisc8 (.ofWord 0xF1207FFE),
    .unallocatedMisc9 (.ofWord 0xF1245273), .unallocatedMisc9 (.ofWord 0xF13452F3),
    .unallocatedMisc10 (.ofWord 0xF12D8DB2), .unallocatedMisc11 (.ofWord 0xF11C8678),
    .unallocatedMisc12 (.ofWord 0xF11D84E1), .unallocatedMisc13 (.ofWord 0xF11507CC)] :
    List Instr), i.WellFormed = false := by
  decide +kernel

/-- A "FCps" record that breaks one check of its row is refused. -/
theorem test_wellFormed_cps : ∀ i ∈ ([
    .setend (.ofWord 0xF1020ACA), .setend (.ofWord 0xF1030ADA), .cps (.ofWord 0xF1098B9F),
    .unallocatedCps3 (.ofWord 0xF10CC494), .unallocatedCps3 (.ofWord 0xF10DC484)] :
    List Instr), i.WellFormed = false := by
  decide +kernel

/-- A "FThreeSame" record that breaks one check of its row is refused. -/
theorem test_wellFormed_threeSame : ∀ i ∈ ([
    .vfma (.ofWord 0xF35BCC97), .vfma (.ofWord 0xF27BCC97), .vfma (.ofWord 0xF25BCD97), .vfma (.ofWord 0xF25BCC87),
    .vaddFp (.ofWord 0xF343DD82), .vaddFp (.ofWord 0xF263DD82), .vaddFp (.ofWord 0xF243D982),
    .vaddFp (.ofWord 0xF243DD92), .vmlaFp (.ofWord 0xF3546D18), .vmlaFp (.ofWord 0xF2746D18),
    .vmlaFp (.ofWord 0xF2546918), .vmlaFp (.ofWord 0xF2546D08), .vceqRegA2 (.ofWord 0xF3529E0E),
    .vceqRegA2 (.ofWord 0xF2729E0E), .vceqRegA2 (.ofWord 0xF2529F0E), .vceqRegA2 (.ofWord 0xF2529E1E),
    .vmaxFp (.ofWord 0xF3006F68), .vmaxFp (.ofWord 0xF2206F68), .vmaxFp (.ofWord 0xF2006D68),
    .vmaxFp (.ofWord 0xF2006F78), .vrecps (.ofWord 0xF3582FD6), .vrecps (.ofWord 0xF2782FD6),
    .vrecps (.ofWord 0xF2582DD6), .vrecps (.ofWord 0xF2582FC6), .vhadd (.ofWord 0xF336616D),
    .vhadd (.ofWord 0xF336607D), .vandReg (.ofWord 0xF301B19E), .vandReg (.ofWord 0xF221B19E),
    .vandReg (.ofWord 0xF201B99E), .vandReg (.ofWord 0xF201B18E), .vqadd (.ofWord 0xF324689B),
    .vqadd (.ofWord 0xF324608B), .vrhadd (.ofWord 0xF20D596D), .vrhadd (.ofWord 0xF20D517D),
    .sha1c (.ofWord 0xF34F2CED), .sha1c (.ofWord 0xF26F2CED), .sha1c (.ofWord 0xF24F2EED),
    .sha1c (.ofWord 0xF24F2CFD), .vhsub (.ofWord 0xF25500AD), .vhsub (.ofWord 0xF25502BD),
    .vbicReg (.ofWord 0xF31A115C), .vbicReg (.ofWord 0xF20A115C), .vbicReg (.ofWord 0xF21A105C),
    .vbicReg (.ofWord 0xF21A114C), .vqsub (.ofWord 0xF205C31C), .vqsub (.ofWord 0xF205C20C),
    .vcgtRegA1 (.ofWord 0xF27E82CE), .vcgtRegA1 (.ofWord 0xF27E83DE), .vcgeRegA1 (.ofWord 0xF27E87DD),
    .vcgeRegA1 (.ofWord 0xF27E83CD), .sha1p (.ofWord 0xF35B3C45), .sha1p (.ofWord 0xF24B3C45),
    .sha1p (.ofWord 0xF25B3845), .sha1p (.ofWord 0xF25B3C55), .vfms (.ofWord 0xF33BDCB9), .vfms (.ofWord 0xF21BDCB9),
    .vfms (.ofWord 0xF23BD8B9), .vfms (.ofWord 0xF23BDCA9), .vsubFp (.ofWord 0xF32B1DEB),
    .vsubFp (.ofWord 0xF20B1DEB), .vsubFp (.ofWord 0xF22B15EB), .vsubFp (.ofWord 0xF22B1DFB),
    .vmlsFp (.ofWord 0xF32EDD75), .vmlsFp (.ofWord 0xF20EDD75), .vmlsFp (.ofWord 0xF22ED975),
    .vmlsFp (.ofWord 0xF22EDD65), .unallocatedThreeSame21 (.ofWord 0xF37C1E29),
    .unallocatedThreeSame21 (.ofWord 0xF25C1E29), .unallocatedThreeSame21 (.ofWord 0xF27C1F29),
    .unallocatedThreeSame21 (.ofWord 0xF27C1E39), .vminFp (.ofWord 0xF3380F29), .vminFp (.ofWord 0xF2180F29),
    .vminFp (.ofWord 0xF2380E29), .vminFp (.ofWord 0xF2380F39), .vrsqrts (.ofWord 0xF3728FFC),
    .vrsqrts (.ofWord 0xF2528FFC), .vrsqrts (.ofWord 0xF2728EFC), .vrsqrts (.ofWord 0xF2728FEC),
    .vshlReg (.ofWord 0xF24B85EB), .vshlReg (.ofWord 0xF24B84FB), .vaddInt (.ofWord 0xF32C38E2),
    .vaddInt (.ofWord 0xF22C3CE2), .vaddInt (.ofWord 0xF22C38F2), .vorrReg (.ofWord 0xF360D138),
    .vorrReg (.ofWord 0xF240D138), .vorrReg (.ofWord 0xF260D038), .vorrReg (.ofWord 0xF260D128),
    .vtst (.ofWord 0xF33738B7), .vtst (.ofWord 0xF23739B7), .vtst (.ofWord 0xF23738A7),
    .vqshlReg (.ofWord 0xF3795CF0), .vqshlReg (.ofWord 0xF37954E0), .vmlaInt (.ofWord 0xF30BE90B),
    .vmlaInt (.ofWord 0xF20BE10B), .vmlaInt (.ofWord 0xF20BE91B), .vrshl (.ofWord 0xF24FF4CC),
    .vrshl (.ofWord 0xF24FF5DC), .vqrshl (.ofWord 0xF36DE73B), .vqrshl (.ofWord 0xF36DE52B),
    .vqdmulh3same (.ofWord 0xF30D1B0D), .vqdmulh3same (.ofWord 0xF20D1A0D), .vqdmulh3same (.ofWord 0xF20D1B1D),
    .sha1m (.ofWord 0xF36B0C69), .sha1m (.ofWord 0xF24B0C69), .sha1m (.ofWord 0xF26B0E69),
    .sha1m (.ofWord 0xF26B0C79), .vpaddInt (.ofWord 0xF36E8B3D), .vpaddInt (.ofWord 0xF26E893D),
    .vpaddInt (.ofWord 0xF26E8B2D), .vmaxInt (.ofWord 0xF22A126D), .vmaxInt (.ofWord 0xF22A167D),
    .vornReg (.ofWord 0xF376413E), .vornReg (.ofWord 0xF266413E), .vornReg (.ofWord 0xF276453E),
    .vornReg (.ofWord 0xF276412E), .vminInt (.ofWord 0xF27B82BF), .vminInt (.ofWord 0xF27B86AF),
    .vabdInt (.ofWord 0xF323AFC5), .vabdInt (.ofWord 0xF323A7D5), .vaba (.ofWord 0xF30D3FF3),
    .vaba (.ofWord 0xF30D37E3), .sha1su0 (.ofWord 0xF37BBCAA), .sha1su0 (.ofWord 0xF25BBCAA),
    .sha1su0 (.ofWord 0xF27BB4AA), .sha1su0 (.ofWord 0xF27BBCBA), .vpaddFp (.ofWord 0xF2499D68),
    .vpaddFp (.ofWord 0xF3699D68), .vpaddFp (.ofWord 0xF3499568), .vpaddFp (.ofWord 0xF3499D78),
    .vmulFp (.ofWord 0xF254EDDF), .vmulFp (.ofWord 0xF374EDDF), .vmulFp (.ofWord 0xF354E5DF),
    .vmulFp (.ofWord 0xF354EDCF), .vcgeRegA2 (.ofWord 0xF25E5E69), .vcgeRegA2 (.ofWord 0xF37E5E69),
    .vcgeRegA2 (.ofWord 0xF35E5A69), .vcgeRegA2 (.ofWord 0xF35E5E79), .vacge (.ofWord 0xF21CAEBB),
    .vacge (.ofWord 0xF33CAEBB), .vacge (.ofWord 0xF31CAFBB), .vacge (.ofWord 0xF31CAEAB),
    .vpmaxFp (.ofWord 0xF214BFA2), .vpmaxFp (.ofWord 0xF334BFA2), .vpmaxFp (.ofWord 0xF314BDA2),
    .vpmaxFp (.ofWord 0xF314BFE2), .vpmaxFp (.ofWord 0xF314BFB2), .vmaxnm (.ofWord 0xF255BFD5),
    .vmaxnm (.ofWord 0xF375BFD5), .vmaxnm (.ofWord 0xF355BBD5), .vmaxnm (.ofWord 0xF355BFC5),
    .veor (.ofWord 0xF2008155), .veor (.ofWord 0xF3208155), .veor (.ofWord 0xF3008555), .veor (.ofWord 0xF3008145),
    .vmulIntPoly (.ofWord 0xF27E4DD7), .vmulIntPoly (.ofWord 0xF27E49C7), .sha256h (.ofWord 0xF2038CA7),
    .sha256h (.ofWord 0xF3138CA7), .sha256h (.ofWord 0xF3038DA7), .sha256h (.ofWord 0xF3038CB7),
    .vpmaxInt (.ofWord 0xF2701B8F), .vpmaxInt (.ofWord 0xF2701ACF), .vpmaxInt (.ofWord 0xF2701A9F),
    .vbsl (.ofWord 0xF2177138), .vbsl (.ofWord 0xF3377138), .vbsl (.ofWord 0xF3177338), .vbsl (.ofWord 0xF3177128),
    .vpminInt (.ofWord 0xF23C9B15), .vpminInt (.ofWord 0xF23C9A55), .vpminInt (.ofWord 0xF23C9A05),
    .unallocatedThreeSame53 (.ofWord 0xF365CBCA), .unallocatedThreeSame53 (.ofWord 0xF365CA8A),
    .sha256h2 (.ofWord 0xF2540CCB), .sha256h2 (.ofWord 0xF3740CCB), .sha256h2 (.ofWord 0xF3540DCB),
    .sha256h2 (.ofWord 0xF3540CDB), .vabdFp (.ofWord 0xF22F5D83), .vabdFp (.ofWord 0xF30F5D83),
    .vabdFp (.ofWord 0xF32F5C83), .vabdFp (.ofWord 0xF32F5D93), .vcgtRegA2 (.ofWord 0xF23A7ECC),
    .vcgtRegA2 (.ofWord 0xF31A7ECC), .vcgtRegA2 (.ofWord 0xF33A7CCC), .vcgtRegA2 (.ofWord 0xF33A7EDC),
    .vacgt (.ofWord 0xF27CBE55), .vacgt (.ofWord 0xF35CBE55), .vacgt (.ofWord 0xF37CBC55),
    .vacgt (.ofWord 0xF37CBE45), .vpminFp (.ofWord 0xF26CFF2D), .vpminFp (.ofWord 0xF34CFF2D),
    .vpminFp (.ofWord 0xF36CFB2D), .vpminFp (.ofWord 0xF36CFF6D), .vpminFp (.ofWord 0xF36CFF3D),
    .vminnm (.ofWord 0xF2356FD3), .vminnm (.ofWord 0xF3156FD3), .vminnm (.ofWord 0xF3356DD3),
    .vminnm (.ofWord 0xF3356FC3), .vsubInt (.ofWord 0xF23B980D), .vsubInt (.ofWord 0xF33B900D),
    .vsubInt (.ofWord 0xF33B981D), .vbit (.ofWord 0xF263E1F4), .vbit (.ofWord 0xF373E1F4), .vbit (.ofWord 0xF363E3F4),
    .vbit (.ofWord 0xF363E1E4), .vceqRegA1 (.ofWord 0xF271B8F3), .vceqRegA1 (.ofWord 0xF371B9F3),
    .vceqRegA1 (.ofWord 0xF371B8E3), .vmlsInt (.ofWord 0xF239E9E5), .vmlsInt (.ofWord 0xF339E1E5),
    .vmlsInt (.ofWord 0xF339E9F5), .vqrdmulh3same (.ofWord 0xF2030BCC), .vqrdmulh3same (.ofWord 0xF3030FCC),
    .vqrdmulh3same (.ofWord 0xF3030BDC), .sha256su1 (.ofWord 0xF22BBCEC), .sha256su1 (.ofWord 0xF33BBCEC),
    .sha256su1 (.ofWord 0xF32BB4EC), .sha256su1 (.ofWord 0xF32BBCFC), .vqrdmlah3same (.ofWord 0xF20A1BD1),
    .vqrdmlah3same (.ofWord 0xF30A13D1), .vqrdmlah3same (.ofWord 0xF30A1BC1), .vbif (.ofWord 0xF275A1D5),
    .vbif (.ofWord 0xF365A1D5), .vbif (.ofWord 0xF375A3D5), .vbif (.ofWord 0xF375A1C5),
    .vqrdmlsh3same (.ofWord 0xF24D1CB3), .vqrdmlsh3same (.ofWord 0xF34D1EB3), .vqrdmlsh3same (.ofWord 0xF34D1CA3),
    .unallocatedThreeSame69 (.ofWord 0xF24DAF6E), .unallocatedThreeSame69 (.ofWord 0xF34DAB6E),
    .unallocatedThreeSame69 (.ofWord 0xF34DAF2E), .unallocatedThreeSame69 (.ofWord 0xF34DAF7E),
    .notInSourceThreeSame (.ofWord 0xF23BCC2A), .notInSourceThreeSame (.ofWord 0xF32BCC2A),
    .notInSourceThreeSame (.ofWord 0xF33BCD2A), .notInSourceThreeSame (.ofWord 0xF33BCC3A),
    .notInSourceThreeSame (.ofWord 0xF3089E9C), .notInSourceThreeSame (.ofWord 0xF2089F9C),
    .notInSourceThreeSame (.ofWord 0xF2089E8C), .notInSourceThreeSame (.ofWord 0xF2271D12),
    .notInSourceThreeSame (.ofWord 0xF3071D12), .notInSourceThreeSame (.ofWord 0xF3271912),
    .notInSourceThreeSame (.ofWord 0xF3271D02)] :
    List Instr), i.WellFormed = false := by
  decide +kernel

/-- A "FTwoRegThreeDiff" record that breaks one check of its row is refused. -/
theorem test_wellFormed_twoRegThreeDiff : ∀ i ∈ ([
    .notInSourceTwoRegThreeDiff (.ofWord 0xF3F7EC45), .notInSourceTwoRegThreeDiff (.ofWord 0xF2E7EC45),
    .notInSourceTwoRegThreeDiff (.ofWord 0xF3D34BAD), .notInSourceTwoRegThreeDiff (.ofWord 0xF3F343AD)] :
    List Instr), i.WellFormed = false := by
  decide +kernel

/-- A "FTwoRegMisc" record that breaks one check of its row is refused. -/
theorem test_wellFormed_twoRegMisc : ∀ i ∈ ([
    .vrev64 (.ofWord 0xF3B5E06C), .vrev64 (.ofWord 0xF3B4E46C), .vrev32 (.ofWord 0xF3BD00A9),
    .vrev32 (.ofWord 0xF3BC04A9), .vrev16 (.ofWord 0xF3BDD16E), .vrev16 (.ofWord 0xF3BCD56E),
    .unallocatedTwoRegMisc4 (.ofWord 0xF3F2E1A4), .unallocatedTwoRegMisc4 (.ofWord 0xF3F0E5A4),
    .vpaddl (.ofWord 0xF3F69282), .vpaddl (.ofWord 0xF3F49082), .aese (.ofWord 0xF3FAB32A),
    .aese (.ofWord 0xF3F8B12A), .aese (.ofWord 0xF3F8B36A), .aesd (.ofWord 0xF3B5C34E), .aesd (.ofWord 0xF3B4C24E),
    .aesd (.ofWord 0xF3B4C30E), .aesmc (.ofWord 0xF3FAF3AF), .aesmc (.ofWord 0xF3F8F2AF), .aesmc (.ofWord 0xF3F8F3EF),
    .aesimc (.ofWord 0xF3FDC3EB), .aesimc (.ofWord 0xF3FCC7EB), .aesimc (.ofWord 0xF3FCC3AB),
    .vcls (.ofWord 0xF3F24443), .vcls (.ofWord 0xF3F04043), .vswp (.ofWord 0xF3BA1029), .vswp (.ofWord 0xF3B31029),
    .vswp (.ofWord 0xF3B21429), .vclz (.ofWord 0xF3FE14AB), .vclz (.ofWord 0xF3FC10AB), .vcnt (.ofWord 0xF3F92560),
    .vcnt (.ofWord 0xF3F825E0), .vmvnReg (.ofWord 0xF3FE85A5), .vmvnReg (.ofWord 0xF3FC8525),
    .vpadal (.ofWord 0xF3B1F626), .vpadal (.ofWord 0xF3B0F226), .vqabs (.ofWord 0xF3BE870F),
    .vqabs (.ofWord 0xF3BC878F), .vqneg (.ofWord 0xF3B537AA), .vqneg (.ofWord 0xF3B433AA),
    .vcgtImm0 (.ofWord 0xF3FC9024), .vcgtImm0 (.ofWord 0xF3FD9124), .vcgeImm0 (.ofWord 0xF3F4D0A1),
    .vcgeImm0 (.ofWord 0xF3F5D1A1), .vceqImm0 (.ofWord 0xF3F84127), .vceqImm0 (.ofWord 0xF3F941A7),
    .vcleImm0 (.ofWord 0xF3B755E2), .vcleImm0 (.ofWord 0xF3B55562), .vcltImm0 (.ofWord 0xF3BFC644),
    .vcltImm0 (.ofWord 0xF3BDC6C4), .vabs (.ofWord 0xF3B0C342), .vabs (.ofWord 0xF3B1C242),
    .vneg (.ofWord 0xF3F0A3AE), .vneg (.ofWord 0xF3F1A1AE), .sha1h (.ofWord 0xF3F802CE), .sha1h (.ofWord 0xF3F906CE),
    .sha1h (.ofWord 0xF3F9028E), .vtrn (.ofWord 0xF3B42081), .vtrn (.ofWord 0xF3B62001), .vuzp (.ofWord 0xF3B4C120),
    .vuzp (.ofWord 0xF3B6C1A0), .vzip (.ofWord 0xF3FCD1A6), .vzip (.ofWord 0xF3FED126), .vmovn (.ofWord 0xF3BF320C),
    .vmovn (.ofWord 0xF3BE330C), .vmovn (.ofWord 0xF3BE324C), .vqmovun (.ofWord 0xF3BF626F),
    .vqmovun (.ofWord 0xF3BE636F), .vqmovun (.ofWord 0xF3BE622F), .vqmovn (.ofWord 0xF3BC92CB),
    .vqmovn (.ofWord 0xF3BE90CB), .vshllMisc (.ofWord 0xF3B80322), .vshllMisc (.ofWord 0xF3BA03A2),
    .vshllMisc (.ofWord 0xF3BA0362), .sha1su1 (.ofWord 0xF3FC6384), .sha1su1 (.ofWord 0xF3FE6284),
    .sha1su1 (.ofWord 0xF3FE63C4), .sha256su0 (.ofWord 0xF3FFC3E8), .sha256su0 (.ofWord 0xF3FEC368),
    .sha256su0 (.ofWord 0xF3FEC3A8), .vrintnAsimd (.ofWord 0xF3B4542A), .vrintnAsimd (.ofWord 0xF3B6502A),
    .vrintxAsimd (.ofWord 0xF3B064C8), .vrintxAsimd (.ofWord 0xF3B266C8), .vrintaAsimd (.ofWord 0xF3F72527),
    .vrintaAsimd (.ofWord 0xF3F625A7), .vrintzAsimd (.ofWord 0xF3B7D5A3), .vrintzAsimd (.ofWord 0xF3B6D4A3),
    .vcvtSpToHp (.ofWord 0xF3B3362C), .vcvtSpToHp (.ofWord 0xF3B2372C), .vcvtSpToHp (.ofWord 0xF3B2366C),
    .unallocatedTwoRegMisc40 (.ofWord 0xF3BF6648), .unallocatedTwoRegMisc40 (.ofWord 0xF3BE6748),
    .unallocatedTwoRegMisc40 (.ofWord 0xF3BE6608), .vrintmAsimd (.ofWord 0xF3B48685),
    .vrintmAsimd (.ofWord 0xF3B68605), .vcvtHpToSp (.ofWord 0xF3B36701), .vcvtHpToSp (.ofWord 0xF3B26781),
    .vcvtHpToSp (.ofWord 0xF3B26741), .unallocatedTwoRegMisc43 (.ofWord 0xF3F8E74D),
    .unallocatedTwoRegMisc43 (.ofWord 0xF3FAE34D), .unallocatedTwoRegMisc43 (.ofWord 0xF3FAE70D),
    .vrintpAsimd (.ofWord 0xF3F817C8), .vrintpAsimd (.ofWord 0xF3FA1748), .vcvtaAsimd (.ofWord 0xF3BE6066),
    .vcvtaAsimd (.ofWord 0xF3BF6266), .vcvtnAsimd (.ofWord 0xF3BAB1C5), .vcvtnAsimd (.ofWord 0xF3BBB3C5),
    .vcvtpAsimd (.ofWord 0xF3BDF2EE), .vcvtpAsimd (.ofWord 0xF3BFF3EE), .vcvtmAsimd (.ofWord 0xF3FDD38B),
    .vcvtmAsimd (.ofWord 0xF3FFD78B), .vrecpe (.ofWord 0xF3F29522), .vrecpe (.ofWord 0xF3F39122),
    .vrsqrte (.ofWord 0xF3FE9585), .vrsqrte (.ofWord 0xF3FF9785), .vcvtFpIntAsimd (.ofWord 0xF3F5D7E1),
    .vcvtFpIntAsimd (.ofWord 0xF3F7D5E1), .notInSourceTwoRegMisc (.ofWord 0xF3BB72AE),
    .notInSourceTwoRegMisc (.ofWord 0xF3B970AE), .notInSourceTwoRegMisc (.ofWord 0xF3B972EE),
    .notInSourceTwoRegMisc (.ofWord 0xF3F776CA), .notInSourceTwoRegMisc (.ofWord 0xF3F574CA),
    .notInSourceTwoRegMisc (.ofWord 0xF3F25063), .notInSourceTwoRegMisc (.ofWord 0xF3F75063),
    .notInSourceTwoRegMisc (.ofWord 0xF3F65263), .notInSourceTwoRegMisc (.ofWord 0xF3B2B02E),
    .notInSourceTwoRegMisc (.ofWord 0xF3BBB02E), .notInSourceTwoRegMisc (.ofWord 0xF3BAB0AE),
    .notInSourceTwoRegMisc (.ofWord 0xF3B4536F), .notInSourceTwoRegMisc (.ofWord 0xF3B6526F),
    .notInSourceTwoRegMisc (.ofWord 0xF3B6532F)] :
    List Instr), i.WellFormed = false := by
  decide +kernel

/-- A "FDup" record that breaks one check of its row is refused. -/
theorem test_wellFormed_dup : ∀ i ∈ ([
    .vdupScalar (.ofWord 0xF3F23D41), .unallocatedDup2 (.ofWord 0xF3F38DC4), .unallocatedDup3 (.ofWord 0xF3B59F6A),
    .unallocatedDup4 (.ofWord 0xF3B52C02)] :
    List Instr), i.WellFormed = false := by
  decide +kernel

/-- A "FThreeDiff" record that breaks one check of its row is refused. -/
theorem test_wellFormed_threeDiff : ∀ i ∈ ([
    .vaddl (.ofWord 0xF38D880B), .vaddl (.ofWord 0xF3B370A6), .vaddw (.ofWord 0xF3C259AF),
    .vaddw (.ofWord 0xF2B7F122), .vsubl (.ofWord 0xF28146A6), .vsubl (.ofWord 0xF3B67229),
    .vaddhn (.ofWord 0xF385C481), .vaddhn (.ofWord 0xF285C681), .vaddhn (.ofWord 0xF2B0F4AB),
    .vsubw (.ofWord 0xF2901B24), .vsubw (.ofWord 0xF3F43382), .vsubhn (.ofWord 0xF398268C),
    .vsubhn (.ofWord 0xF298248C), .vsubhn (.ofWord 0xF2B9D606), .vqdmlal3diff (.ofWord 0xF3C6C9A8),
    .vqdmlal3diff (.ofWord 0xF2C6CDA8), .vqdmlal3diff (.ofWord 0xF2F03984), .vabal (.ofWord 0xF3E82D08),
    .vabal (.ofWord 0xF2FB85AC), .vqdmlsl3diff (.ofWord 0xF3ED4B8C), .vqdmlsl3diff (.ofWord 0xF2ED498C),
    .vqdmlsl3diff (.ofWord 0xF2FC8B00), .vqdmull3diff (.ofWord 0xF39C3DAC), .vqdmull3diff (.ofWord 0xF29C3CAC),
    .vqdmull3diff (.ofWord 0xF2B2CD24), .vabdlInt (.ofWord 0xF2A17FAF), .vabdlInt (.ofWord 0xF3FCD781),
    .vmlalInt (.ofWord 0xF2CD9920), .vmlalInt (.ofWord 0xF3B9E882), .vmlslInt (.ofWord 0xF2D8B826),
    .vmlslInt (.ofWord 0xF2B1FAA3), .vraddhn (.ofWord 0xF2C58400), .vraddhn (.ofWord 0xF3C58500),
    .vraddhn (.ofWord 0xF3B484A1), .vrsubhn (.ofWord 0xF28FF6A2), .vrsubhn (.ofWord 0xF38FF2A2),
    .vrsubhn (.ofWord 0xF3B7D68C), .vmullIntPoly (.ofWord 0xF38F5DA7), .vmullIntPoly (.ofWord 0xF3F9CE86),
    .unallocatedThreeDiff17 (.ofWord 0xF2E7B920), .unallocatedThreeDiff17 (.ofWord 0xF3E7B120),
    .unallocatedThreeDiff17 (.ofWord 0xF3BF1989), .unallocatedThreeDiff18 (.ofWord 0xF2925B87),
    .unallocatedThreeDiff18 (.ofWord 0xF3925987), .unallocatedThreeDiff18 (.ofWord 0xF3F1CB0F),
    .unallocatedThreeDiff19 (.ofWord 0xF2824D20), .unallocatedThreeDiff19 (.ofWord 0xF3824520),
    .unallocatedThreeDiff19 (.ofWord 0xF3B61D22), .unallocatedThreeDiff20 (.ofWord 0xF286270C),
    .unallocatedThreeDiff20 (.ofWord 0xF3F9DFAA)] :
    List Instr), i.WellFormed = false := by
  decide +kernel

/-- A "FTwoRegScalar" record that breaks one check of its row is refused. -/
theorem test_wellFormed_twoRegScalar : ∀ i ∈ ([
    .vmlaScalar (.ofWord 0xF3C7B944), .vmlaScalar (.ofWord 0xF3FB11CA), .vqdmlalScalar (.ofWord 0xF383F367),
    .vqdmlalScalar (.ofWord 0xF283FB67), .vqdmlalScalar (.ofWord 0xF2BB1365), .vmlalScalar (.ofWord 0xF28056E0),
    .vmlalScalar (.ofWord 0xF2F212C5), .vqdmlslScalar (.ofWord 0xF38C1741), .vqdmlslScalar (.ofWord 0xF28C1641),
    .vqdmlslScalar (.ofWord 0xF2F5A7C5), .vmlsScalar (.ofWord 0xF289ED63), .vmlsScalar (.ofWord 0xF3B9C466),
    .vqdmullScalar (.ofWord 0xF3C48BC9), .vqdmullScalar (.ofWord 0xF2C48AC9), .vqdmullScalar (.ofWord 0xF2F06B6E),
    .vmlslScalar (.ofWord 0xF398474E), .vmlslScalar (.ofWord 0xF2F8B663), .vmulScalar (.ofWord 0xF2E310CB),
    .vmulScalar (.ofWord 0xF3FA88C2), .unallocatedTwoRegScalar9 (.ofWord 0xF2D54362),
    .unallocatedTwoRegScalar9 (.ofWord 0xF3D54162), .unallocatedTwoRegScalar9 (.ofWord 0xF3BD13EE),
    .vmullScalar (.ofWord 0xF3A83BEB), .vmullScalar (.ofWord 0xF3FB3A66),
    .unallocatedTwoRegScalar11 (.ofWord 0xF2E1D7C9), .unallocatedTwoRegScalar11 (.ofWord 0xF3E1D3C9),
    .unallocatedTwoRegScalar11 (.ofWord 0xF3B27763), .vqdmulhScalar (.ofWord 0xF2ECF46F),
    .vqdmulhScalar (.ofWord 0xF2B52C61), .vqrdmulhScalar (.ofWord 0xF2D8A546), .vqrdmulhScalar (.ofWord 0xF3FB6DC2),
    .unallocatedTwoRegScalar14 (.ofWord 0xF28FEB40), .unallocatedTwoRegScalar14 (.ofWord 0xF38FE940),
    .unallocatedTwoRegScalar14 (.ofWord 0xF3F14BCF), .vqrdmlahScalar (.ofWord 0xF3DB0C43),
    .vqrdmlahScalar (.ofWord 0xF2FDFEC0), .vqrdmlshScalar (.ofWord 0xF39CC7C8), .vqrdmlshScalar (.ofWord 0xF2BB8FC7)] :
    List Instr), i.WellFormed = false := by
  decide +kernel

/-- A "FOneRegImm" record that breaks one check of its row is refused. -/
theorem test_wellFormed_oneRegImm : ∀ i ∈ ([
    .vmovImmA1 (.ofWord 0xF2839C57), .vmovImmA1 (.ofWord 0xF2839477), .vmvnImmA1 (.ofWord 0xF385B53C),
    .vmvnImmA1 (.ofWord 0xF385B41C), .vorrImmA1 (.ofWord 0xF386B95B), .vorrImmA1 (.ofWord 0xF386B17B),
    .vbicImmA1 (.ofWord 0xF3857976), .vbicImmA1 (.ofWord 0xF3857156), .vmovImmA3 (.ofWord 0xF3C71213),
    .vmovImmA3 (.ofWord 0xF3C71A33), .vmvnImmA2 (.ofWord 0xF385D233), .vmvnImmA2 (.ofWord 0xF385DA13),
    .vorrImmA2 (.ofWord 0xF2C4FD1D), .vorrImmA2 (.ofWord 0xF2C4F93D), .vbicImmA2 (.ofWord 0xF286787B),
    .vbicImmA2 (.ofWord 0xF286795B), .vmovImmA4 (.ofWord 0xF3844714), .vmovImmA4 (.ofWord 0xF3844F34),
    .vmvnImmA3 (.ofWord 0xF2C4447E), .vmvnImmA3 (.ofWord 0xF2C44C5E), .vmovImmA5 (.ofWord 0xF3C78F70),
    .vmovImmA5 (.ofWord 0xF3C78E50), .unallocatedOneRegImm12 (.ofWord 0xF2839775),
    .unallocatedOneRegImm12 (.ofWord 0xF2839F55)] :
    List Instr), i.WellFormed = false := by
  decide +kernel

/-- A "FTwoRegShift" record that breaks one check of its row is refused. -/
theorem test_wellFormed_twoRegShift : ∀ i ∈ ([
    .vshr (.ofWord 0xF396E15C), .vshr (.ofWord 0xF3C4701A), .vsra (.ofWord 0xF2A0F012), .vsra (.ofWord 0xF285C139),
    .vmovl (.ofWord 0xF39C2A13), .vmovl (.ofWord 0xF3982B13), .vmovl (.ofWord 0xF3982A53),
    .vmovl (.ofWord 0xF2C07A11), .vrshr (.ofWord 0xF39D6610), .vrshr (.ofWord 0xF2803254),
    .vrsra (.ofWord 0xF3C8C15A), .vrsra (.ofWord 0xF385D31F), .vqshlImm (.ofWord 0xF2A7C6B1),
    .vqshlImm (.ofWord 0xF2835738), .vqshrn (.ofWord 0xF3B10B92), .vqshrn (.ofWord 0xF3B109D2),
    .vqshrn (.ofWord 0xF3C18911), .vqrshrn (.ofWord 0xF2E2D1D6), .vqrshrn (.ofWord 0xF2E2D996),
    .vqrshrn (.ofWord 0xF385B95A), .vshllImm (.ofWord 0xF2CFBE35), .vshllImm (.ofWord 0xF2CFBA75),
    .vshllImm (.ofWord 0xF3C5BA1D), .vshllImm (.ofWord 0xF3C09AB7), .vcvtFpFixedAsimd (.ofWord 0xF2CF041C),
    .vcvtFpFixedAsimd (.ofWord 0xF2833E17), .vshlImm (.ofWord 0xF3F1A536), .vshlImm (.ofWord 0xF2F1AD36),
    .vshlImm (.ofWord 0xF2C4651B), .vshrn (.ofWord 0xF3BC583F), .vshrn (.ofWord 0xF2BC5A3F),
    .vshrn (.ofWord 0xF2BC587F), .vshrn (.ofWord 0xF2C69817), .vrshrn (.ofWord 0xF3AB68D1),
    .vrshrn (.ofWord 0xF2AB60D1), .vrshrn (.ofWord 0xF2AB6891), .vrshrn (.ofWord 0xF2856859),
    .vsri (.ofWord 0xF29E1450), .vsri (.ofWord 0xF39E1050), .vsri (.ofWord 0xF381845C), .vsli (.ofWord 0xF2EEC5B7),
    .vsli (.ofWord 0xF3EEC4B7), .vsli (.ofWord 0xF3C6957C), .vqshluImm (.ofWord 0xF28386F1),
    .vqshluImm (.ofWord 0xF38382F1), .vqshluImm (.ofWord 0xF382E678), .vqshrun (.ofWord 0xF2E7089E),
    .vqshrun (.ofWord 0xF3E7009E), .vqshrun (.ofWord 0xF3E708DE), .vqshrun (.ofWord 0xF3C01812),
    .vqrshrun (.ofWord 0xF2B8E8D7), .vqrshrun (.ofWord 0xF3B8ECD7), .vqrshrun (.ofWord 0xF3B8E897),
    .vqrshrun (.ofWord 0xF383F875), .notInSourceTwoRegShift (.ofWord 0xF3F794BB),
    .notInSourceTwoRegShift (.ofWord 0xF2F795BB), .notInSourceTwoRegShift (.ofWord 0xF2C5641D),
    .notInSourceTwoRegShift (.ofWord 0xF39A0657), .notInSourceTwoRegShift (.ofWord 0xF29A0257),
    .notInSourceTwoRegShift (.ofWord 0xF2C3E67E), .notInSourceTwoRegShift (.ofWord 0xF2DF22FF),
    .notInSourceTwoRegShift (.ofWord 0xF2DF2ABF), .notInSourceTwoRegShift (.ofWord 0xF2875A7F),
    .notInSourceTwoRegShift (.ofWord 0xF3BD6915), .notInSourceTwoRegShift (.ofWord 0xF387CB56)] :
    List Instr), i.WellFormed = false := by
  decide +kernel

/-- A "FMemHint" record that breaks one check of its row is refused. -/
theorem test_wellFormed_memHint : ∀ i ∈ ([
    .constrainedUnpredictableMemHint1 (.ofWord 0xF673590C), .constrainedUnpredictableMemHint2 (.ofWord 0xF51B260A),
    .constrainedUnpredictableMemHint4 (.ofWord 0xF57287DC), .constrainedUnpredictableMemHint7 (.ofWord 0xF47D9387),
    .constrainedUnpredictableMemHint7 (.ofWord 0xF67D9397), .unallocatedMemHint8 (.ofWord 0xF579FA1C),
    .unallocatedMemHint8 (.ofWord 0xF779FA0C)] :
    List Instr), i.WellFormed = false := by
  decide +kernel

/-- A "FBarrier" record that breaks one check of its row is refused. -/
theorem test_wellFormed_barrier : ∀ i ∈ ([
    .constrainedUnpredictableBarrier1 (.ofWord 0xF57A411B), .clrex (.ofWord 0xF5713D3A),
    .constrainedUnpredictableBarrier3 (.ofWord 0xF57FD513), .dsb (.ofWord 0xF5793E6E), .dsb (.ofWord 0xF57B1840),
    .dsb (.ofWord 0xF5774344), .ssbb (.ofWord 0xF577D960), .ssbb (.ofWord 0xF577D948), .pssbb (.ofWord 0xF57FBE64),
    .pssbb (.ofWord 0xF57FBE46), .dmb (.ofWord 0xF57CF5DF), .isb (.ofWord 0xF5725149), .sb (.ofWord 0xF57F1353),
    .constrainedUnpredictableBarrier10 (.ofWord 0xF577A80A)] :
    List Instr), i.WellFormed = false := by
  decide +kernel

/-- A "FPldImm" record that breaks one check of its row is refused. -/
theorem test_wellFormed_pldImm : ∀ i ∈ ([
    .reservedHintNopPldImm (.ofWord 0xF51E67D0), .reservedHintNopPldImm (.ofWord 0xF45E67D0),
    .pliImmLit (.ofWord 0xF5D692F5), .pliImmLit (.ofWord 0xF49692F5), .pldLit (.ofWord 0xF41FDD15),
    .pldLit (.ofWord 0xF51EDD15), .pldwImm (.ofWord 0xF494059C), .pldwImm (.ofWord 0xF5D4059C),
    .pldwImm (.ofWord 0xF51F2651), .pldImm (.ofWord 0xF454BCED), .pldImm (.ofWord 0xF514BCED),
    .pldImm (.ofWord 0xF5DF6D91)] :
    List Instr), i.WellFormed = false := by
  decide +kernel

/-- A "FPldReg" record that breaks one check of its row is refused. -/
theorem test_wellFormed_pldReg : ∀ i ∈ ([
    .reservedHintNopPldReg (.ofWord 0xF79986C0), .reservedHintNopPldReg (.ofWord 0xF6D986C0),
    .pliReg (.ofWord 0xF755FD67), .pliReg (.ofWord 0xF615FD67), .pldwReg (.ofWord 0xF61FC1AE),
    .pldwReg (.ofWord 0xF75FC1AE), .pldReg (.ofWord 0xF6588A62), .pldReg (.ofWord 0xF7188A62)] :
    List Instr), i.WellFormed = false := by
  decide +kernel

/-- A "FLdStOne" record that breaks one check of its row is refused. -/
theorem test_wellFormed_ldstOne : ∀ i ∈ ([
    .asimdLdstOne (.ofWord 0xF4C86D57)] :
    List Instr), i.WellFormed = false := by
  decide +kernel
/-! ## One step

The expected results are calculated outside the model, by a program written from the rules' sentences and the published
definitions of the AES, SHA and floating-point operations. -/

/-- The inputs of the tests: D0 and D1 (destination), D2 and D3 (first operand), D4 and D5 (second operand). -/
inductive Input where
  | ints | singles | halves
deriving DecidableEq, Repr

/-- The registers of an input: integers with sign changes and wraps; 1.5, -3.25, 0.1, 1e30, ... in single precision, a
subnormal and a NaN among them; the like in half precision. -/
def Input.lanes : Input → List DWord
  | .ints =>
    [0x7F80FF01007F8000, 0x0123456789ABCDEF, 0x80000001FF7F0280,
      0xFEDCBA9876543210, 0x7FFF80010102FE03, 0x80000000FFFFFFFF]
  | .singles =>
    [0xC05000003FC00000, 0x7149F2CA3DCCCCCD, 0x40E00000C0200000,
      0x6904595100000001, 0xC0E000003F333333, 0x61821AB17FC00001]
  | .halves =>
    [0x56403400C0003E00, 0x4880AE6642003C00, 0x5CB03800C7804100,
      0x7BFFC3003C000001, 0x5CB04500C78034CD, 0x4000399A40007D01]

/-- The launch state with D0 to D5 of an input and a word at pc. -/
def simdState (w : Word) (x : Input) : State :=
  State.withFetchWord
    ((x.lanes.zipIdx).foldl (fun s p => s.writeD p.2 p.1) { State.reset with pc := 0x100#32 }) 32 w.toNat

/-- D0 to D5 and FPSCR after one step. -/
def after (w : Word) (x : Input) : Option (List DWord × Word) :=
  match step (simdState w x) with
  | .next t => some ((List.range 6).map t.readD, t.fpscr)
  | _ => none

/-- A word, its input, and D0, D1 and FPSCR after its step. -/
abbrev Case := Word × Input × DWord × DWord × Word

/-- The step of the case completes with those values, and D2 to D5 keep theirs. -/
abbrev Case.Passes (c : Case) : Prop :=
  after c.1 c.2.1 = some (c.2.2.1 :: c.2.2.2.1 :: c.2.1.lanes.drop 2, c.2.2.2.2)

/-- One step each of VFMA, VADD_fp, VMLA_fp, VCEQ_reg_A2, VMAX_fp, VRECPS, VFMS, VSUB_fp, VMLS_fp, VMIN_fp, VRSQRTS,
VPADD_fp, VMUL_fp, VCGE_reg_A2, VACGE, VPMAX_fp, VMAXNM, VABD_fp, VCGT_reg_A2, VACGT. -/
theorem test_step_threeSameFloating1 : ∀ c ∈ ([
    (0xF2120C14, .halves, 0x7C00418052C84080, 0x4880AE6642003C00, 0x00000014),
    (0xF2020C14, .singles, 0xC2510000BE7FFFFE, 0x7149F2CA3DCCCCCD, 0x00000000),
    (0xF2020D04, .singles, 0x00000000BFE66666, 0x7149F2CA3DCCCCCD, 0x00000010),
    (0xF2120D04, .halves, 0x60B04580CB80419A, 0x4880AE6642003C00, 0x00000010),
    (0xF2020D54, .singles, 0xC2510000BE800000, 0x7F8000007FC00000, 0x00000094),
    (0xF2120D54, .halves, 0x7C00418052C84080, 0x7C00C11A45007E00, 0x00000015),
    (0xF2020E04, .singles, 0x0000000000000000, 0x7149F2CA3DCCCCCD, 0x00000000),
    (0xF2120E04, .halves, 0xFFFF0000FFFF0000, 0x4880AE6642003C00, 0x00000000),
    (0xF2120F44, .halves, 0x5CB04500C7804100, 0x7BFF399A40007E00, 0x00000001),
    (0xF2020F44, .singles, 0x40E000003F333333, 0x690459517FC00000, 0x00000080),
    (0xF2020F14, .singles, 0x424C000040700000, 0x7149F2CA3DCCCCCD, 0x00000010),
    (0xF2120F54, .halves, 0xFC00B800D2C83D00, 0xFC00447400007E00, 0x00000015),
    (0xF2220C14, .singles, 0x4237000040500000, 0x7149F2CA3DCCCCCD, 0x00000010),
    (0xF2320C54, .halves, 0xFC00C080D3483A00, 0xFC0040B43C007E00, 0x00000015),
    (0xF2320D44, .halves, 0x0000C48000004066, 0x7BFFC433BC007E00, 0x00000011),
    (0xF2220D04, .singles, 0x41600000C04CCCCD, 0x7149F2CA3DCCCCCD, 0x00000010),
    (0xF2220D14, .singles, 0x4237000040500000, 0x7149F2CA3DCCCCCD, 0x00000010),
    (0xF2320D14, .halves, 0xFC00C080D3483A00, 0x4880AE6642003C00, 0x00000014),
    (0xF2320F44, .halves, 0x5CB03800C78034CD, 0x4000C3003C007E00, 0x00000001),
    (0xF2220F04, .singles, 0xC0E00000C0200000, 0x7149F2CA3DCCCCCD, 0x00000000),
    (0xF2320F54, .halves, 0xFC003400CEA83C80, 0xFC00417438007E00, 0x00000015),
    (0xF2220F14, .singles, 0x41D0000040180000, 0x7149F2CA3DCCCCCD, 0x00000010),
    (0xF3020D04, .singles, 0xC0C9999A40900000, 0x7149F2CA3DCCCCCD, 0x00000010),
    (0xF3120D04, .halves, 0x5CC4C7335CB2C500, 0x4880AE6642003C00, 0x00000010),
    (0xF3020D14, .singles, 0xC2440000BFE00000, 0x7149F2CA3DCCCCCD, 0x00000010),
    (0xF3120D54, .halves, 0x7C00410053083A00, 0x7C00C0E740007E00, 0x00000015),
    (0xF3120E44, .halves, 0xFFFF0000FFFFFFFF, 0xFFFF000000000000, 0x00000001),
    (0xF3020E04, .singles, 0xFFFFFFFF00000000, 0x7149F2CA3DCCCCCD, 0x00000000),
    (0xF3020E54, .singles, 0xFFFFFFFFFFFFFFFF, 0xFFFFFFFF00000000, 0x00000081),
    (0xF3120E14, .halves, 0xFFFF0000FFFFFFFF, 0x4880AE6642003C00, 0x00000000),
    (0xF3120F04, .halves, 0x5CB034CD5CB04100, 0x4880AE6642003C00, 0x00000000),
    (0xF3020F04, .singles, 0x3F33333340E00000, 0x7149F2CA3DCCCCCD, 0x00000000),
    (0xF3020F14, .singles, 0x40E000003F333333, 0x7149F2CA3DCCCCCD, 0x00000000),
    (0xF3120F14, .halves, 0x5CB04500C7804100, 0x4880AE6642003C00, 0x00000000),
    (0xF3220D44, .singles, 0x41600000404CCCCD, 0x6904584D7FC00000, 0x00000090),
    (0xF3320D44, .halves, 0x0000448000004066, 0x7BFF44333C007E00, 0x00000011),
    (0xF3220E44, .singles, 0xFFFFFFFF00000000, 0xFFFFFFFF00000000, 0x00000081),
    (0xF3320E04, .halves, 0x000000000000FFFF, 0x4880AE6642003C00, 0x00000000),
    (0xF3320E54, .halves, 0x000000000000FFFF, 0xFFFFFFFF00000000, 0x00000001),
    (0xF3220E14, .singles, 0x00000000FFFFFFFF, 0x7149F2CA3DCCCCCD, 0x00000000)] :
    List Case), c.Passes := by
  decide +kernel

/-- One step each of VPMIN_fp, VMINNM. -/
theorem test_step_threeSameFloating2 : ∀ c ∈ ([
    (0xF3320F04, .halves, 0x4500C7803800C780, 0x4880AE6642003C00, 0x00000000),
    (0xF3220F04, .singles, 0xC0E00000C0200000, 0x7149F2CA3DCCCCCD, 0x00000000),
    (0xF3220F54, .singles, 0xC0E00000C0200000, 0x61821AB100000000, 0x00000080),
    (0xF3320F14, .halves, 0x5CB03800C78034CD, 0x4880AE6642003C00, 0x00000000)] :
    List Case), c.Passes := by
  decide +kernel

/-- One step each of VHADD, VAND_reg, VQADD, VRHADD, SHA1C, VHSUB, VBIC_reg, VQSUB, VCGT_reg_A1, VCGE_reg_A1, SHA1P,
VSHL_reg, VADD_int, VORR_reg, VTST, VQSHL_reg, VMLA_int, VRSHL, VQRSHL, VQDMULH_3same, SHA1M, VPADD_int, VMAX_int,
VORN_reg, VMIN_int, VABD_int, VABA, SHA1SU0, VEOR, VMUL_int_poly, SHA256H, VPMAX_int, VBSL, VPMIN_int, SHA256H2,
VSUB_int, VBIT, VCEQ_reg_A1, VMLS_int. -/
theorem test_step_threeSame1 : ∀ c ∈ ([
    (0xF3020004, .ints, 0x7F7F400180408041, 0x0123456789ABCDEF, 0x00000000),
    (0xF2020154, .ints, 0x0000000101020200, 0x8000000076543210, 0x00000000),
    (0xF3220014, .ints, 0xFFFF8002FFFFFFFF, 0x0123456789ABCDEF, 0x08000000),
    (0xF3120144, .ints, 0x8000400180418042, 0xBF6E5D4CBB2A9908, 0x00000000),
    (0xF2020C44, .ints, 0x873BD337CBE216CA, 0x8685737A936F3426, 0x00000000),
    (0xF2120244, .ints, 0x80004000FF3E023E, 0x3F6EDD4C3B2A1908, 0x00000000),
    (0xF2120114, .ints, 0x80000000FE7D0080, 0x0123456789ABCDEF, 0x00000000),
    (0xF2220214, .ints, 0x80000000FE7C047D, 0x0123456789ABCDEF, 0x08000000),
    (0xF3020344, .ints, 0xFF000000FFFF00FF, 0xFFFFFFFF00000000, 0x00000000),
    (0xF2120314, .ints, 0x0000FFFF0000FFFF, 0x0123456789ABCDEF, 0x00000000),
    (0xF2120C44, .ints, 0xB6F898A2065A9B2A, 0x01DE9E03D1A98E45, 0x00000000),
    (0xF3320404, .ints, 0x0000000000000000, 0x0123456789ABCDEF, 0x00000000),
    (0xF2220804, .ints, 0xFFFF800200820083, 0x0123456789ABCDEF, 0x00000000),
    (0xF2220154, .ints, 0xFFFF8001FF7FFE83, 0xFEDCBA98FFFFFFFF, 0x00000000),
    (0xF2020814, .ints, 0x000000FFFFFFFF00, 0x0123456789ABCDEF, 0x00000000),
    (0xF2020454, .ints, 0x00FF8002007FF800, 0xE000000080808080, 0x08000000),
    (0xF2220904, .ints, 0x7F807F0288778780, 0x0123456789ABCDEF, 0x00000000),
    (0xF2020544, .ints, 0x00FF80020100F800, 0xE000000000000000, 0x00000000),
    (0xF2120554, .ints, 0x7FFF80007FFF0000, 0x0000000080008000, 0x08000000),
    (0xF2120B44, .ints, 0x8001FFFFFFFEFFF6, 0x01240000FFFFFFFF, 0x00000000),
    (0xF2220C44, .ints, 0x5CC3C927FCE6D515, 0x8685737AF372041A, 0x00000000),
    (0xF2120B14, .ints, 0x0000FF05800101FF, 0x0123456789ABCDEF, 0x00000000),
    (0xF3220604, .ints, 0x80000001FF7F0280, 0x0123456789ABCDEF, 0x00000000),
    (0xF2320154, .ints, 0x80007FFFFFFF03FC, 0xFFFFFFFF76543210, 0x00000000),
    (0xF2120654, .ints, 0x80008001FF7FFE03, 0x8000BA98FFFFFFFF, 0x00000000),
    (0xF2220744, .ints, 0xFFFF80000183FB83, 0x7EDCBA9876543211, 0x00000000),
    (0xF3120754, .ints, 0x7F817F01FEFC7B83, 0x7FFFFFFF13569BDE, 0x00000000),
    (0xF2320C44, .ints, 0x015C3A6788D6B3EC, 0x01234566892B3090, 0x00000000),
    (0xF3020154, .ints, 0xFFFF8000FE7DFC83, 0x7EDCBA9889ABCDEF, 0x00000000),
    (0xF2120914, .ints, 0x800080017DFE0780, 0x0123456789ABCDEF, 0x00000000),
    (0xF2220954, .ints, 0xFFFF800187F80780, 0x0000000089ABCDF0, 0x00000000),
    (0xF3020C44, .ints, 0xB5F2C491E222A9C4, 0x740EED3E412667D9, 0x00000000),
    (0xF2220A04, .ints, 0x7FFF8001FF7F0280, 0x0123456789ABCDEF, 0x00000000),
    (0xF3120154, .ints, 0x007F0001017F7E03, 0x8000000076543210, 0x00000000),
    (0xF2020A14, .ints, 0xFF8001FE8000FF80, 0x0123456789ABCDEF, 0x00000000),
    (0xF3120C44, .ints, 0x146E9EFD6ABE7D47, 0xCA45BDE1CF93F0A5, 0x00000000),
    (0xF3220844, .ints, 0x00008000FE7C047D, 0x7EDCBA9876543211, 0x00000000),
    (0xF3220114, .ints, 0x00007F01017F0200, 0x0123456789ABCDEF, 0x00000000),
    (0xF3020814, .ints, 0x000000FF00000000, 0x0123456789ABCDEF, 0x00000000),
    (0xF3220944, .ints, 0x7F817F0078877880, 0x01234567FFFFFFFF, 0x00000000)] :
    List Case), c.Passes := by
  decide +kernel

/-- One step each of VQRDMULH_3same, SHA256SU1, VQRDMLAH_3same, VBIF, VQRDMLSH_3same. -/
theorem test_step_threeSame2 : ∀ c ∈ ([
    (0xF3120B04, .ints, 0x8001FFFFFFFFFFF6, 0x0123456789ABCDEF, 0x00000000),
    (0xF3220C44, .ints, 0xF5F5811180BF8000, 0x72BDFC8EB8A9082F, 0x00000000),
    (0xF3120B14, .ints, 0xFF81FF00007E8000, 0x0123456789ABCDEF, 0x08000000),
    (0xF3320114, .ints, 0xFF808001FE7F8080, 0x0123456789ABCDEF, 0x00000000),
    (0xF3120C54, .ints, 0x7FFFFF020080800A, 0xFFFF456789ACCDEF, 0x08000000)] :
    List Case), c.Passes := by
  decide +kernel

/-- One step each of VREV64, VREV32, VREV16, VPADDL, AESE, AESD, AESMC, AESIMC, VCLS, VCLZ, VCNT, VMVN_reg, VPADAL,
VQABS, VQNEG, VCGT_imm0, VCLT_imm0, VABS, VNEG, SHA1H, VMOVN, VQMOVUN, VQMOVN, VSHLL_misc, SHA1SU1, SHA256SU0. -/
theorem test_step_twoRegMisc : ∀ c ∈ ([
    (0xF3B80044, .ints, 0x0102FE037FFF8001, 0xFFFFFFFF80000000, 0x00000000),
    (0xF3B40084, .ints, 0x80017FFFFE030102, 0x0123456789ABCDEF, 0x00000000),
    (0xF3B00104, .ints, 0xFF7F0180020103FE, 0x0123456789ABCDEF, 0x00000000),
    (0xF3B40284, .ints, 0x000100000000FF05, 0x0123456789ABCDEF, 0x00000000),
    (0xF3B00304, .ints, 0x7C2623630C20D27B, 0x38D2F38563FF6ECA, 0x00000000),
    (0xF3B00344, .ints, 0x0F328A5252FD68D5, 0x096BA10A91136B7C, 0x00000000),
    (0xF3B00384, .ints, 0x82E57F19FBFAE31C, 0x1B9B8080FFFFFFFF, 0x00000000),
    (0xF3B003C4, .ints, 0x5B38A6C49B4F83A9, 0x41F7DAECFFFFFFFF, 0x00000000),
    (0xF3B80444, .ints, 0x0000000000000006, 0x000000000000001F, 0x00000000),
    (0xF3B00484, .ints, 0x0100000707060006, 0x0123456789ABCDEF, 0x00000000),
    (0xF3B00504, .ints, 0x0708010101010702, 0x0123456789ABCDEF, 0x00000000),
    (0xF3B005C4, .ints, 0x80007FFEFEFD01FC, 0x7FFFFFFF00000000, 0x00000000),
    (0xF3B80644, .ints, 0x7F80FF018181FE04, 0x0123456709ABCDEE, 0x00000000),
    (0xF3B00704, .ints, 0x7F017F0101020203, 0x0123456789ABCDEF, 0x08000000),
    (0xF3B007C4, .ints, 0x81017FFFFFFE02FD, 0x7F00000001010101, 0x08000000),
    (0xF3B90004, .ints, 0xFFFFFFFFFFFFFFFF, 0x0123456789ABCDEF, 0x00000000),
    (0xF3B10204, .ints, 0x00FFFF000000FF00, 0x0123456789ABCDEF, 0x00000000),
    (0xF3B10304, .ints, 0x7F01800101020203, 0x0123456789ABCDEF, 0x00000000),
    (0xF3B90384, .ints, 0x80007FFFFEFD01FD, 0x0123456789ABCDEF, 0x00000000),
    (0xF3B902C4, .ints, 0x00000000C040BF80, 0x0000000000000000, 0x00000000),
    (0xF3B20204, .ints, 0x0000FFFFFF010203, 0x0123456789ABCDEF, 0x00000000),
    (0xF3B60244, .ints, 0x00000000FFFFFFFF, 0x0123456789ABCDEF, 0x08000000),
    (0xF3B20284, .ints, 0x8000FFFF7F807F80, 0x0123456789ABCDEF, 0x08000000),
    (0xF3B20304, .ints, 0x01000200FE000300, 0x7F00FF0080000100, 0x00000000),
    (0xF3BA0384, .ints, 0x00FE01FDFF000002, 0xFC468ACB13579BDE, 0x00000000),
    (0xF3BA03C4, .ints, 0xBCDECB4D334EC1FE, 0xBAC5DFE3A92BBC5D, 0x00000000)] :
    List Case), c.Passes := by
  decide +kernel

/-- One step each of VCGT_imm0, VCGE_imm0, VCEQ_imm0, VCLE_imm0, VABS, VRINTN_asimd, VRINTX_asimd, VRINTA_asimd,
VRINTZ_asimd, VCVT_sp_to_hp, VRINTM_asimd, VCVT_hp_to_sp, VRINTP_asimd, VCVTA_asimd, VCVTN_asimd, VCVTP_asimd,
VCVTM_asimd, VRECPE, VRSQRTE, VCVT_fp_int_asimd. -/
theorem test_step_twoRegMiscFloating : ∀ c ∈ ([
    (0xF3B90444, .singles, 0x00000000FFFFFFFF, 0xFFFFFFFF00000000, 0x00000001),
    (0xF3B504C4, .halves, 0xFFFFFFFF0000FFFF, 0xFFFFFFFFFFFF0000, 0x00000001),
    (0xF3B90544, .singles, 0x0000000000000000, 0x0000000000000000, 0x00000000),
    (0xF3B90584, .singles, 0xFFFFFFFF00000000, 0x7149F2CA3DCCCCCD, 0x00000000),
    (0xF3B50744, .halves, 0x5CB04500478034CD, 0x4000399A40007D01, 0x00000000),
    (0xF3B60444, .halves, 0x5CB04500C8000000, 0x40003C0040007E00, 0x00000001),
    (0xF3BA0444, .singles, 0xC0E000003F800000, 0x61821AB17FC00000, 0x00000000),
    (0xF3B604C4, .halves, 0x5CB04500C8000000, 0x40003C0040007E00, 0x00000011),
    (0xF3BA0484, .singles, 0xC0E000003F800000, 0x7149F2CA3DCCCCCD, 0x00000010),
    (0xF3BA0544, .singles, 0xC0E000003F800000, 0x61821AB17FC00000, 0x00000000),
    (0xF3B60504, .halves, 0x5CB04500C8000000, 0x4880AE6642003C00, 0x00000000),
    (0xF3BA0584, .singles, 0xC0E0000000000000, 0x7149F2CA3DCCCCCD, 0x00000000),
    (0xF3B60584, .halves, 0x5CB04500C7000000, 0x4880AE6642003C00, 0x00000000),
    (0xF3B60604, .halves, 0x400240047C00FC00, 0x4880AE6642003C00, 0x00000014),
    (0xF3B606C4, .halves, 0x5CB04500C8000000, 0x4000000040007E00, 0x00000001),
    (0xF3BA06C4, .singles, 0xC0E0000000000000, 0x61821AB17FC00000, 0x00000000),
    (0xF3B60704, .halves, 0xC0F000003E99A000, 0x4396000040A00000, 0x00000000),
    (0xF3B60784, .halves, 0x5CB04500C7003C00, 0x4880AE6642003C00, 0x00000000),
    (0xF3BA07C4, .singles, 0xC0E000003F800000, 0x61821AB17FC00000, 0x00000000),
    (0xF3B70004, .halves, 0x012C0005FFF80000, 0x4880AE6642003C00, 0x00000010),
    (0xF3BB00C4, .singles, 0x0000000000000001, 0xFFFFFFFF00000000, 0x00000011),
    (0xF3B70144, .halves, 0x012C0005FFF80000, 0x0002000100020000, 0x00000011),
    (0xF3BB01C4, .singles, 0x0000000000000001, 0xFFFFFFFF00000000, 0x00000011),
    (0xF3B70284, .halves, 0x012C000500000001, 0x4880AE6642003C00, 0x00000011),
    (0xF3BB0284, .singles, 0x0000000000000001, 0x7149F2CA3DCCCCCD, 0x00000011),
    (0xF3BB0344, .singles, 0xFFFFFFF900000000, 0x7FFFFFFF00000000, 0x00000011),
    (0xF3B70384, .halves, 0x012C000500000000, 0x4880AE6642003C00, 0x00000011),
    (0xF3B70504, .halves, 0x1AD03264B04442A8, 0x4880AE6642003C00, 0x00000000),
    (0xF3BB0504, .singles, 0xBE1200003FB70000, 0x7149F2CA3DCCCCCD, 0x00000000),
    (0xF3B705C4, .halves, 0x2B6037247E003F50, 0x39A43CC839A47E00, 0x00000001),
    (0xF3BB0484, .singles, 0x93800000FFFFFFFF, 0x7149F2CA3DCCCCCD, 0x00000000),
    (0xF3B70784, .halves, 0x012C000500000000, 0x4880AE6642003C00, 0x00000011),
    (0xF3BB0744, .singles, 0xFFFFFFF900000000, 0x7FFFFFFF00000000, 0x00000011)] :
    List Case), c.Passes := by
  decide +kernel

/-- One step each of VDUP_scalar. -/
theorem test_step_dup : ∀ c ∈ ([
    (0xF3BD0C44, .ints, 0xFFFFFFFFFFFFFFFF, 0xFFFFFFFFFFFFFFFF, 0x00000000)] :
    List Case), c.Passes := by
  decide +kernel

/-- One step each of VADDL, VADDW, VSUBL, VADDHN, VSUBW, VSUBHN, VQDMLAL_3diff, VABAL, VQDMLSL_3diff, VQDMULL_3diff,
VABDL_int, VMLAL_int, VMLSL_int, VRADDHN, VRSUBHN, VMULL_int_poly, and the polynomial form with 32-bit lanes. -/
theorem test_step_threeDiff : ∀ c ∈ ([
    (0xF2A20E04, .ints, 0x00FED47D2F020780, 0x3FFFC000FFFF8001, 0x00000000),
    (0xF2820004, .ints, 0x000000810000FF83, 0xFFFFFFFFFF800002, 0x00000000),
    (0xF3A20104, .ints, 0x8000000200820083, 0xFEDCBA98F653B211, 0x00000000),
    (0xF3920204, .ints, 0x0000FE7DFFFF047D, 0x00000001FFFF8000, 0x00000000),
    (0xF2920404, .ints, 0x7EDC7654FFFF0082, 0x0123456789ABCDEF, 0x00000000),
    (0xF2920304, .ints, 0x7FFFFEFFFF7F047D, 0xFEDC3A997654B20F, 0x00000000),
    (0xF2A20604, .ints, 0x7EDCBA9700008000, 0x0123456789ABCDEF, 0x00000000),
    (0xF2920904, .ints, 0x7F7FFAFD00758F00, 0x8124456789AACDF1, 0x00000000),
    (0xF3920504, .ints, 0x7F81FD7E00807B83, 0x0123456889AC4DEF, 0x00000000),
    (0xF2920B04, .ints, 0x7F82030500897100, 0x7FFFFFFF89ACCDED, 0x08000000),
    (0xF2A20D04, .ints, 0xFFFEFB010FF00F00, 0x80007FFFFFFF0002, 0x00000000),
    (0xF3920704, .ints, 0x0000FE7D0000FB83, 0x0000000100008000, 0x00000000),
    (0xF3920804, .ints, 0x80827CFF02FA8780, 0x4122C56789AC4DF0, 0x00000000),
    (0xF2920A04, .ints, 0x7F81810300847880, 0x4122C56789AC4DEE, 0x00000000),
    (0xF3A20404, .ints, 0x7EDCBA99FFFF8003, 0x0123456789ABCDEF, 0x00000000),
    (0xF3820604, .ints, 0x7FBB76320080FE04, 0x0123456789ABCDEF, 0x00000000),
    (0xF3820C04, .ints, 0x00FF00FE01FC0180, 0x3F80000000000001, 0x00000000),
    (0xF3A20C04, .ints, 0x01027B8387F80780, 0x3FFFC000FFFF8001, 0x00000000)] :
    List Case), c.Passes := by
  decide +kernel

/-- One step each of VMLA_scalar, VMLS_scalar, VMUL_scalar. -/
theorem test_step_twoRegScalarFloating : ∀ c ∈ ([
    (0xF3920144, .halves, 0x59F03666C4404080, 0x74CDBC99429A3C00, 0x00000010),
    (0xF2920544, .halves, 0x49002E6634003A00, 0x4880AE6642003C00, 0x00000010),
    (0xF3920944, .halves, 0x55A030CDC0803A00, 0x74CCBC3334CD0000, 0x00000010)] :
    List Case), c.Passes := by
  decide +kernel

/-- One step each of VQDMLAL_scalar, VMLAL_scalar, VQDMLSL_scalar, VQDMULL_scalar, VMLSL_scalar, VMULL_scalar,
VQDMULH_scalar, VQRDMULH_scalar, VQRDMLAH_scalar, VQRDMLSH_scalar. -/
theorem test_step_twoRegScalar : ∀ c ∈ ([
    (0xF2920344, .ints, 0x7F82FFFB00758F00, 0x0320456789ABC9F5, 0x00000000),
    (0xF2A20244, .ints, 0x7F807C8188778780, 0x00A1C6660AAECBF2, 0x00000000),
    (0xF2920744, .ints, 0x7F7EFE0700897100, 0xFF26456789ABD1E9, 0x00000000),
    (0xF2A20B44, .ints, 0xFFFEFB010FF00F00, 0xFEFD01FD0205FC06, 0x00000000),
    (0xF3920644, .ints, 0x81FDFE84FE047880, 0x8221C56789AACFEC, 0x00000000),
    (0xF3A20A44, .ints, 0x01027B8387F80780, 0x00817F018102FE03, 0x00000000),
    (0xF3A20C44, .ints, 0xFEFD01FDFFFEFB01, 0xFFFDB2A600EF6C86, 0x00000000),
    (0xF3A20D44, .ints, 0xFEFD01FDFFFEFB01, 0xFFFDB2A600EF6C87, 0x00000000),
    (0xF3920E44, .ints, 0x7FFFFF0100818000, 0x0128467B87D4CD28, 0x08000000),
    (0xF3A20F44, .ints, 0x7FFFFFFF008084FF, 0x012592C188BC6168, 0x08000000)] :
    List Case), c.Passes := by
  decide +kernel

/-- One step each of VMOV_imm_A1, VMVN_imm_A1, VORR_imm_A1, VBIC_imm_A1, VMOV_imm_A3, VMVN_imm_A2, VORR_imm_A2,
VBIC_imm_A2, VMOV_imm_A4, VMVN_imm_A3, VMOV_imm_A5. -/
theorem test_step_oneRegImm : ∀ c ∈ ([
    (0xF2810250, .ints, 0x0000100000001000, 0x0000100000001000, 0x00000000),
    (0xF3830077, .ints, 0xFFFFFF48FFFFFF48, 0xFFFFFF48FFFFFF48, 0x00000000),
    (0xF3850713, .ints, 0xFF80FF01D37F8000, 0x0123456789ABCDEF, 0x00000000),
    (0xF283017F, .ints, 0x7F80FF00007F8000, 0x0123454089ABCDC0, 0x00000000),
    (0xF3830A53, .ints, 0xB300B300B300B300, 0xB300B300B300B300, 0x00000000),
    (0xF3860A77, .ints, 0x18FF18FF18FF18FF, 0x18FF18FF18FF18FF, 0x00000000),
    (0xF2850910, .ints, 0x7FD0FF51007F8050, 0x0123456789ABCDEF, 0x00000000),
    (0xF3830930, .ints, 0x7F00FF01004F8000, 0x0123456789ABCDEF, 0x00000000),
    (0xF3850E1F, .ints, 0xDFDFDFDFDFDFDFDF, 0x0123456789ABCDEF, 0x00000000),
    (0xF3860D33, .ints, 0xFF1C0000FF1C0000, 0x0123456789ABCDEF, 0x00000000),
    (0xF2820E79, .ints, 0x0000FF00FF0000FF, 0x0000FF00FF0000FF, 0x00000000)] :
    List Case), c.Passes := by
  decide +kernel

/-- One step each of VSHR, VSRA, VMOVL, VRSHR, VRSRA, VQSHL_imm, VQSHRN, VQRSHRN, VSHLL_imm, VSHL_imm, VSHRN, VRSHRN,
VSRI, VSLI, VQSHLU_imm, VQSHRUN, VQRSHRUN. -/
theorem test_step_twoRegShift : ∀ c ∈ ([
    (0xF2A10094, .ints, 0x00000000FFFF0002, 0x0123456789ABCDEF, 0x00000000),
    (0xF3AB0194, .ints, 0x7F810300FC7F8808, 0x0123456789ABCDEF, 0x00000000),
    (0xF2B00A14, .ints, 0x00000102FE030000, 0x00007FFF80010000, 0x00000000),
    (0xF2BA0254, .ints, 0x01FFFE0000040BF8, 0xFE00000000000000, 0x00000000),
    (0xF2B603D4, .ints, 0x7FA0FEE100BFC0C0, 0x0103456789EBCDEF, 0x00000000),
    (0xF3A70754, .ints, 0xFFFFFFFF817F0180, 0xFFFFFFFFFFFFFFFF, 0x08000000),
    (0xF3B90914, .ints, 0xFFFFFFFFFFFFFFFF, 0x0123456789ABCDEF, 0x08000000),
    (0xF3930954, .ints, 0xFFFFFFFFFFFF0818, 0x0123456789ABCDEF, 0x08000000),
    (0xF3A50A14, .ints, 0x00000000205FC060, 0x0000000FFFF00020, 0x00000000),
    (0xF2B305D4, .ints, 0xF018000000000000, 0xFFF8000000000000, 0x00000000),
    (0xF2AC0814, .ints, 0x00000FFFF8001010, 0x0123456789ABCDEF, 0x00000000),
    (0xF2930854, .ints, 0x00000000FFFC0818, 0x0123456789ABCDEF, 0x00000000),
    (0xF3910414, .ints, 0x7F80FF01007E8001, 0x0123456789ABCDEF, 0x00000000),
    (0xF3B00514, .ints, 0x8001FF01FE038000, 0x0123456789ABCDEF, 0x00000000),
    (0xF3BA0614, .ints, 0xFFFFFFFFFFFFFFFF, 0x0123456789ABCDEF, 0x08000000),
    (0xF3880814, .ints, 0x000000007F000100, 0x0123456789ABCDEF, 0x08000000),
    (0xF3900854, .ints, 0x0000000080000103, 0x0123456789ABCDEF, 0x08000000)] :
    List Case), c.Passes := by
  decide +kernel

/-- One step each of VCVT_fp_fixed_asimd. -/
theorem test_step_twoRegShiftFloating : ∀ c ∈ ([
    (0xF3BB0F54, .singles, 0x0000000000000016, 0xFFFFFFFF00000000, 0x00000011)] :
    List Case), c.Passes := by
  decide +kernel

/-- VSWP, VTRN, VUZP and VZIP write both vectors. -/
theorem test_step_exchange :
    after 0xF3B20004 .ints = some ([0x7FFF80010102FE03, 0x0123456789ABCDEF, 0x80000001FF7F0280, 0xFEDCBA9876543210, 0x7F80FF01007F8000, 0x80000000FFFFFFFF],
      0#32) ∧
    after 0xF3BA0084 .ints = some ([0x0102FE03007F8000, 0x0123456789ABCDEF, 0x80000001FF7F0280, 0xFEDCBA9876543210, 0x7FFF80017F80FF01, 0x80000000FFFFFFFF],
      0#32) ∧
    after 0xF3B20144 .ints = some ([0x2367ABEF80017F00, 0x0000FFFFFF010203, 0x80000001FF7F0280, 0xFEDCBA9876543210, 0x014589CD7FFF0080, 0x8000FFFF7F8001FE],
      0#32) ∧
    after 0xF3BA01C4 .ints = some ([0x0102FE03007F8000, 0x7FFF80017F80FF01, 0x80000001FF7F0280, 0xFEDCBA9876543210, 0xFFFFFFFF89ABCDEF, 0x8000000001234567],
      0#32) := by
  decide +kernel

/-! ## Steps of the system instructions, hints and barriers -/

/-- The CPSR after one step on a word, from a CPSR, and nothing else but the pc changed. -/
def cpsrAfter (w cpsr : Word) : Option Word :=
  let s := { holding w with cpsr := cpsr }
  match step s with
  | .next t => if t = { s with pc := 4#32, cpsr := t.cpsr } then some t.cpsr else none
  | _ => none

/-- CPSID i, CPSIE if, CPS #16, and CPSID aif with mode 11111, from rule R24's places; in User mode nothing changes. -/
theorem test_step_cps :
    cpsrAfter 0xF10C0080 0x00000113 = some 0x00000193#32 ∧ cpsrAfter 0xF10800C0 0xF00001D3 = some 0xF0000113#32 ∧
      cpsrAfter 0xF1020010 0x000001D3 = some 0x000001D0#32 ∧ cpsrAfter 0xF10E01DF 0x00000013 = some 0x000001DF#32 ∧
      cpsrAfter 0xF10C0080 0x00000010 = some 0x00000010#32 := by decide +kernel

/-- CPS #0 and CPS #30, mode numbers that rule R24 does not list, write PSTATE.M too (rules R24, R106). -/
theorem test_step_cps_unlisted_mode :
    cpsrAfter 0xF1020000 0x000001D3 = some 0x000001C0#32 ∧ cpsrAfter 0xF102001E 0x000001D3 = some 0x000001DE#32 := by
  decide +kernel

/-- SETEND BE and LE write bit 9; SETPAN #1 and #0 write bit 22, but not in User mode (rules R24, R25, R110). -/
theorem test_step_setend_setpan :
    cpsrAfter 0xF1010200 0x000001D0 = some 0x000003D0#32 ∧ cpsrAfter 0xF1010000 0x000003D3 = some 0x000001D3#32 ∧
      cpsrAfter 0xF1100200 0x000001D3 = some 0x004001D3#32 ∧ cpsrAfter 0xF1100000 0x004001D3 = some 0x000001D3#32 ∧
      cpsrAfter 0xF1100200 0x000001D0 = some 0x000001D0#32 := by decide +kernel

/-- DSB SY, SSBB, PSSBB, DMB ISH, ISB, SB, PLI, PLD and PLDW in both forms, the literal PLD, and the two reserved hints
change only the pc. -/
theorem test_step_hints :
    ∀ w ∈ ([0xF57FF04F, 0xF57FF040, 0xF57FF044, 0xF57FF05B, 0xF57FF06F, 0xF57FF070, 0xF4D1F004, 0xF5DFF004, 0xF591F004,
      0xF5D1F004, 0xF491F004, 0xF6D1F002, 0xF791F002, 0xF7D1F002, 0xF691F002] : List Nat),
      cpsrAfter (BitVec.ofNat 32 w) 0x000001D3 = some 0x000001D3#32 := by decide +kernel

/-- CLREX clears a reservation. -/
theorem test_step_clrex :
    nextOf (step { holding 0xF57FF01F with reservation := some 8#32 }) =
      some { holding 0xF57FF01F with pc := 4#32, reservation := none } := by decide +kernel

/-! ## Where a step stops -/

/-- From reset with nothing placed there is no word at pc; a word outside the space, a misaligned pc and a pc without a
successor are outside the scope (rules R22, R441). -/
theorem test_stop_step :
    faultOf (step State.reset) = some .fetchFault ∧ refusalOf (step (holding 0xE1A00000)) = some .outsideScope ∧
      refusalOf (step { State.reset with pc := 2#32 }) = some .outsideScope ∧
      refusalOf (step (atTop.withFetchWord 32 0xF57FF01F)) = some .outsideScope := by decide +kernel

/-- The first UNALLOCATED row, a CONSTRAINED UNPREDICTABLE row, an encoding without a row, the two forms of CPS that are
not allowed, and should-be bits under P8 = Fault. -/
theorem test_stop_rows :
    faultOf (step (holding 0xF0000000)) = some .undefinedInstruction ∧
      faultOf (step (holding 0xF5B00000)) = some .constrainedUnpredictable ∧
      refusalOf (step (holding 0xF2900B10)) = some (.noRowInSource .twoRegShift) ∧
      faultOf (step (holding 0xF1000000)) = some .constrainedUnpredictable ∧
      faultOf (step (holding 0xF1040000)) = some .constrainedUnpredictable ∧
      faultOf (step { holding 0xF5700010 with params := { Config.launch with sbPolicy := .fault } }) = some .shouldBeBits := by
  decide +kernel

/-! ## Loads and stores -/

/-- D0 to D3 as given, R1 = 0x1000, R2 = 0x20 and the bytes 1 to 32 from 0x1000 up. -/
def memState (w cpsr : Word) : State :=
  let s := { holding w with cpsr := cpsr }
  let s := (s.writeReg 1 0x1000).writeReg 2 0x20
  let s := ((s.writeD 0 0x1122334455667788).writeD 1 0x99AABBCCDDEEFF00).writeD 2 0x0F1E2D3C4B5A6978
  (s.writeD 3 0xF0E1D2C3B4A59687).setBytes 0x1000 ((List.range 32).map fun i => BitVec.ofNat 8 (i + 1))

/-- D0 to D3 and R1 after a load. -/
def loaded (w cpsr : Word) : Option (List DWord × Word) :=
  match step (memState w cpsr) with
  | .next t => if t.mem = (memState w cpsr).mem then some ((List.range 4).map t.readD, t.readReg 1) else none
  | _ => none

/-- The bytes from 0x1000 up, as the digits of one number with the last byte first, and R1 after a store. -/
def stored (w cpsr : Word) : Option (DWord × Word) :=
  match step (memState w cpsr) with
  | .next t => if t.d = (memState w cpsr).d then some (joinBytes 64 (t.bytes 0x1000 8), t.readReg 1) else none
  | _ => none

/-- VLD1.8 {d0}, [r1]; VLD2.16 {d0, d1}, [r1]!; VLD4.8 {d0-d3}, [r1], r2 (rule R425). -/
theorem test_step_vld_multiple :
    loaded 0xF421070F 0x1D3 =
        some ([0x0807060504030201#64, 0x99AABBCCDDEEFF00#64, 0x0F1E2D3C4B5A6978#64, 0xF0E1D2C3B4A59687#64], 0x1000#32) ∧
      loaded 0xF421084D 0x1D3 =
        some ([0x0E0D0A0906050201#64, 0x100F0C0B08070403#64, 0x0F1E2D3C4B5A6978#64, 0xF0E1D2C3B4A59687#64], 0x1010#32) ∧
      loaded 0xF4210002 0x1D3 =
        some ([0x1D1915110D090501#64, 0x1E1A16120E0A0602#64, 0x1F1B17130F0B0703#64, 0x201C1814100C0804#64], 0x1020#32) := by
  decide +kernel

/-- VLD1.32 {d0[], d1[]}, [r1]; VLD1.16 {d0[2]}, [r1], the latter big-endian too; VLD4 to all lanes with size = 11, whose
elements have 8 << size = 64 bits, with writeback (rules R41, R425). -/
theorem test_step_vld_single :
    loaded 0xF4A10CAF 0x1D3 =
        some ([0x0403020104030201#64, 0x0403020104030201#64, 0x0F1E2D3C4B5A6978#64, 0xF0E1D2C3B4A59687#64], 0x1000#32) ∧
      loaded 0xF4A1048F 0x1D3 =
        some ([0x1122020155667788#64, 0x99AABBCCDDEEFF00#64, 0x0F1E2D3C4B5A6978#64, 0xF0E1D2C3B4A59687#64], 0x1000#32) ∧
      loaded 0xF4A1048F 0x3D3 =
        some ([0x1122010255667788#64, 0x99AABBCCDDEEFF00#64, 0x0F1E2D3C4B5A6978#64, 0xF0E1D2C3B4A59687#64], 0x1000#32) ∧
      loaded 0xF4A10FDD 0x1D3 =
        some ([0x0807060504030201#64, 0x100F0E0D0C0B0A09#64, 0x1817161514131211#64, 0x201F1E1D1C1B1A19#64], 0x1020#32) := by
  decide +kernel

/-- VST1.32 {d0}, [r1] in both byte orders; VST2.8 {d0[1], d1[1]}, [r1]! (rules R41, R425). -/
theorem test_step_vst :
    stored 0xF401078F 0x1D3 = some (0x1122334455667788#64, 0x1000#32) ∧
      stored 0xF401078F 0x3D3 = some (0x4433221188776655#64, 0x1000#32) ∧
      stored 0xF481012D 0x1D3 = some (0x080706050403FF77#64, 0x1002#32) := by decide +kernel

/-- An address that is not aligned as asked, Rn = 1111, and the size VLD2 does not have (rules R42, R425;
93_implementation_defined.md U9). -/
theorem test_stop_load_store :
    faultOf (step ((memState 0xF421071F 0x1D3).writeReg 1 0x1004)) = some (.undefinedInstruction (some .alignment)) ∧
      faultOf (step (memState 0xF42F070F 0x1D3)) = some .constrainedUnpredictable ∧
      faultOf (step (memState 0xF42108CF 0x1D3)) = some .undefinedInstruction := by decide +kernel

/-- With PAN = 1 a privileged access to memory that is accessible at EL0 faults, and one to a region that is not
completes; in User mode it is the other way round, for one byte of the access too (rule R25). -/
theorem test_stop_permission :
    faultOf (step (memState 0xF421070F 0x004001D3)) = some (.undefinedInstruction (some .permission)) ∧
      (nextOf (step { memState 0xF421070F 0x004001D3 with privRegions := [⟨0x1000, 8⟩] })).isSome = true ∧
      faultOf (step { memState 0xF401070F 0x004001D3 with privRegions := [⟨0x1000, 7⟩] }) = some (.undefinedInstruction (some .permission)) ∧
      faultOf (step { memState 0xF421070F 0x000001D0 with privRegions := [⟨0x1007, 1⟩] }) = some (.undefinedInstruction (some .permission)) ∧
      (nextOf (step { memState 0xF421070F 0x000001D0 with privRegions := [⟨0x1008, 8⟩] })).isSome = true := by
  decide +kernel

/-- VLD1 and VST1 of D30 and three more registers complete: the load fills D30 and D31, leaves D2 alone, and both use
eight free values (notes/assumptions/20.md). -/
theorem test_step_past_d31 :
    (nextOf (step (memState 0xF461E20F 0x1D3))).map (fun t => (t.readD 30, t.readD 31, t.readD 2, t.freeCount)) =
        some (0x0807060504030201#64, 0x100F0E0D0C0B0A09#64, 0x0F1E2D3C4B5A6978#64, 8) ∧
      (nextOf (step (memState 0xF441E20F 0x1D3))).map (fun t => (t.readD 0, t.freeCount)) =
        some (0x1122334455667788#64, 8) := by decide +kernel

/-! ## Witnesses

For each statement with hypotheses, a state and operands that meet them, with the values where its clauses begin or end. -/

/-- The hypotheses of HintsAndBarriersComplete, of the clauses on a pc without a successor, and `State.SimdReady`. -/
theorem test_witness_HintsAndBarriersComplete :
    State.reset.SimdReady ∧ State.reset.HasSuccessor ∧ ¬atTop.HasSuccessor ∧ (FPldReg.ofWord 0xF7D1F00F).Rm = 15#4 := by
  unfold State.SimdReady State.HasSuccessor; decide +kernel

theorem test_witness_DecodeOfEncode : (Instr.vaddInt (.ofWord 0xF2200842)).WellFormed = true := by decide +kernel

theorem test_witness_VectorWordsKeepEveryBit :
    bits 0xF2000000#32 25 7 = 0b1111001#7 ∧ decode 0xF2000000 = .instr (.vhadd (.ofWord 0xF2000000)) ∧
      bits 0xF3FFFFFF#32 25 7 = 0b1111001#7 ∧ decode 0xF3FFFFFF = .instr (.vcvtFpFixedAsimd (.ofWord 0xF3FFFFFF)) ∧
      bits 0xF401000F#32 24 8 = 0b11110100#8 ∧ bits 0xF401000F#32 20 1 = 0#1 ∧
      decode 0xF401000F = .instr (.asimdLdstMult (.ofWord 0xF401000F)) := by decide +kernel

theorem test_witness_DecodeCoversTheSpace :
    bits 0xF0000000#32 27 5 = 0b11110#5 ∧ bits 0xF7FFFFFF#32 27 5 = 0b11110#5 ∧ bits 0xEFFFFFFF#32 27 5 ≠ 0b11110#5 ∧
      bits 0xF8000000#32 27 5 ≠ 0b11110#5 := by decide +kernel

theorem test_witness_UnallocatedRowsFault :
    (holding 0xF6000000).Fetches 0xF6000000 ∧ (0xFE100000#32, 0xF6000000#32, []) ∈ unallocatedRows ∧
      RowTakes 0xF6000000 0xFE100000 0xF6000000 [] := by
  unfold State.Fetches RowTakes
  exact ⟨by decide +kernel, by decide +kernel, by decide +kernel, fun _ h => (nomatch h)⟩

theorem test_witness_ConstrainedUnpredictableRowsFault :
    (holding 0xF57FF0FF).Fetches 0xF57FF0FF ∧ (0xFFF00080#32, 0xF5700080#32) ∈ constrainedUnpredictableRows ∧
      RowTakes 0xF57FF0FF 0xFFF00080 0xF5700080 [] := by
  unfold State.Fetches RowTakes
  exact ⟨by decide +kernel, by decide +kernel, by decide +kernel, fun _ h => (nomatch h)⟩

theorem test_witness_EncodingsWithoutRowAreRefused :
    (holding 0xF5000000).Fetches 0xF5000000 ∧ (0xFF100000#32, 0xF5000000#32, [], TableId.top) ∈ rowlessPatterns ∧
      RowTakes 0xF5000000 0xFF100000 0xF5000000 [] := by
  unfold State.Fetches RowTakes
  exact ⟨by decide +kernel, by decide +kernel, by decide +kernel, fun _ h => (nomatch h)⟩

/-- Both rows, both policies, and a pc with and without a successor. -/
theorem test_witness_ReservedHintsAreNops :
    (holding 0xF491F004).Fetches 0xF491F004 ∧ 0xF491F004#32 &&& 0xFF700000#32 = 0xF4100000#32 ∧
      (holding 0xF6910004).Fetches 0xF6910004 ∧ 0xF6910004#32 &&& 0xFF700010#32 = 0xF6100000#32 ∧
      bits 0xF491F004#32 12 4 = 0b1111#4 ∧ bits 0xF6910004#32 12 4 ≠ 0b1111#4 ∧ (holding 0xF491F004).HasSuccessor ∧
      ¬(atTop.withFetchWord 32 0xF491F004).HasSuccessor := by
  unfold State.Fetches State.HasSuccessor; decide +kernel

theorem test_witness_StepRunsTheDecodedInstruction :
    (holding 0xF57FF01F).Fetches 0xF57FF01F ∧ decode 0xF57FF01F = .instr (.clrex ⟨1, 15⟩) ∧
      gateOpen (holding 0xF57FF01F).params (.clrex ⟨1, 15⟩) = true ∧ (holding 0xF57FF01F).params.sbPolicy = .ignore := by
  unfold State.Fetches; decide +kernel

/-- A word outside the space, an absent feature, and should-be bits that differ. -/
theorem test_witness_StepChecksComeInOrder :
    ({ State.reset with pc := 2#32 } : State).pc.toNat % 4 ≠ 0 ∧
      InstrMemory.fetch State.reset.imem State.reset.pc.toNat = none ∧
      (holding 0xE1A00000).Fetches 0xE1A00000 ∧ bits 0xE1A00000#32 27 5 ≠ 0b11110#5 ∧
      gateOpen { Config.launch with haveSb := false } (.sb ⟨7, 0⟩) = false ∧
      decode 0xF57FF070 = .instr (.sb ⟨7, 0⟩) ∧ gateOpen Config.launch (.sb ⟨7, 0⟩) = true ∧
      sbViolation 0xF5700070 (.sb ⟨7, 0⟩) = true ∧ decode 0xF5700070 = .instr (.sb ⟨7, 0⟩) ∧
      decode 0xF1020410 = .instr (.cps (.ofWord 0xF1020410)) ∧ decode 0xF1018200 = .instr (.setend (.ofWord 0xF1018200)) ∧
      decode 0xF5D1E004 = .instr (.pldImm (.ofWord 0xF5D1E004)) ∧ decode 0xF6D17002 = .instr (.pliReg (.ofWord 0xF6D17002)) ∧
      decode 0xF1100200 = .instr (.setpan (.ofWord 0xF1100200)) ∧ bits 0xF2200842#32 25 7 = 0b1111001#7 ∧
      decode 0xF2200842 = .instr (.vaddInt (.ofWord 0xF2200842)) ∧ bits 0xF401000F#32 24 8 = 0b11110100#8 ∧
      bits 0xF401000F#32 20 1 = 0#1 ∧ decode 0xF401000F = .instr (.asimdLdstMult (.ofWord 0xF401000F)) := by
  unfold State.Fetches; decide +kernel

theorem test_witness_FetchIsFixed :
    ({ State.reset with pc := 0xFFFFFFFF#32 } : State).pc.toNat % 4 ≠ 0 ∧
      InstrMemory.fetch atTop.imem atTop.pc.toNat = none ∧
      nextOf (step (holding 0xF57FF01F)) = some { holding 0xF57FF01F with pc := 4#32 } := by decide +kernel

/-- One word for each parameter. -/
theorem test_witness_AbsentFeaturesAreUndefined :
    (holding 0xF2200842).Fetches 0xF2200842 ∧ bits 0xF2200842#32 25 7 = 0b1111001#7 ∧
      decode 0xF2200842 = .instr (.vaddInt (.ofWord 0xF2200842)) ∧
      refusalOf (exec (.vaddInt (.ofWord 0xF2200842)) (holding 0xF2200842)) = none ∧
      decode 0xF1100200 = .instr (.setpan (.ofWord 0xF1100200)) ∧
      decode 0xF3100B12 = .instr (.vqrdmlah3same (.ofWord 0xF3100B12)) ∧
      decode 0xF3B00302 = .instr (.aese (.ofWord 0xF3B00302)) ∧ decode 0xF2000C42 = .instr (.sha1c (.ofWord 0xF2000C42)) ∧
      decode 0xF3000C42 = .instr (.sha256h (.ofWord 0xF3000C42)) ∧ decode 0xF57FF070 = .instr (.sb ⟨7, 0⟩) := by
  unfold State.Fetches; decide +kernel

theorem test_witness_StepKeepsTheInvariant :
    (holding 0xF57FF01F).Inv ∧ (nextOf (step (holding 0xF57FF01F))).isSome = true ∧
      (nextOf (step (holding 0xF102001F))).isSome = true ∧ State.reset.unprivileged = false := by
  unfold State.Inv; decide +kernel

theorem test_witness_StepsAreSequentialAndKeepFixedState :
    (nextOf (step (holding 0xF2200842))).isSome = true ∧ (nextOf (step (holding 0xF400070F))).isSome = true := by
  decide +kernel

/-- In User mode too a step completes. -/
theorem test_witness_StatusRegistersKeepTheirOtherBits :
    inUser.unprivileged = true ∧ (nextOf (step (inUser.withFetchWord 32 0xF1010200))).isSome = true := by decide +kernel

theorem test_witness_OnlyLoadsAndStoresReachMemory :
    (nextOf (exec (.dmb ⟨5, 11⟩) State.reset)).isSome = true ∧ (nextOf (exec (.clrex ⟨1, 15⟩) State.reset)).isSome = true := by
  decide +kernel

theorem test_witness_DisabledUnitStopsEveryVectorWord :
    bits 0xF2200842#32 25 7 = 0b1111001#7 ∧ bits 0xF401000F#32 24 8 = 0b11110100#8 ∧ bits 0xF401000F#32 20 1 = 0#1 ∧
      decode 0xF401000F = .instr (.asimdLdstMult (.ofWord 0xF401000F)) ∧
      ({ State.reset with ctl := { State.reset.ctl with fpexcEn := false } } : State).simdEnabled = false ∧
      ({ State.reset with ctl := { State.reset.ctl with cpacrCp10 := 0b01#2 } } : State).simdEnabled = true ∧
      ({ inUser with ctl := { inUser.ctl with cpacrCp10 := 0b01#2 } } : State).simdEnabled = false ∧
      ({ State.reset with ctl := { State.reset.ctl with hcptrTcp10 := true } } : State).simdEnabled = true ∧
      ({ State.reset with ctl := { State.reset.ctl with hcptrTcp10 := true, scrNs := true } } : State).simdEnabled =
        false := by
  decide +kernel

/-- A state for each clause. -/
theorem test_witness_StopsHaveTheirCauses :
    faultOf (step State.reset) = some .fetchFault ∧
      refusalOf (step { State.reset with pc := 0xFFFFFFFF#32 }) = some .outsideScope ∧
      refusalOf (step (holding 0xE1A00000)) = some .outsideScope ∧
      refusalOf (step (atTop.withFetchWord 32 0xF57FF01F)) = some .outsideScope ∧
      faultOf (step { holding 0xF5700010 with params := { Config.launch with sbPolicy := .fault } }) = some .shouldBeBits ∧
      refusalOf (step (holding 0xF5000000)) = some (.noRowInSource .top) ∧
      faultOf (step (holding 0xF1040000)) = some .constrainedUnpredictable ∧
      faultOf (step (holding 0xF46F070F)) = some .constrainedUnpredictable ∧
      faultOf (step ((holding 0xF460071F).writeReg 0 4)) = some (.undefinedInstruction (some .alignment)) ∧
      faultOf (step { holding 0xF460070F with cpsr := 0x004001D3#32 }) = some (.undefinedInstruction (some .permission)) := by decide +kernel

/-- A memory that holds bytes, in both byte orders. -/
theorem test_witness_StoredElementsReadBack :
    Memory.wf (State.reset.setByte 0xFFFFFFFF 7).mem = true ∧ State.reset.bigEndian = false ∧
      ({ State.reset with cpsr := 0x000003D3#32 } : State).bigEndian = true := by decide +kernel

/-- FIQ mode left for Supervisor mode, Supervisor mode for User mode, and the two sides of each boundary of a bank. -/
theorem test_witness_GeneralRegistersReadBackAndAreBanked :
    ({ State.reset with cpsr := 0x000001D1#32 } : State).mode = .fiq ∧ State.reset.mode = .svc ∧ inUser.mode = .usr ∧
      SharesRegister 7 .fiq .svc ∧ ¬SharesRegister 8 .fiq .svc ∧ ¬SharesRegister 12 .svc .fiq ∧ SharesRegister 12 .svc .hyp ∧
      SharesRegister 13 .usr .sys ∧ ¬SharesRegister 13 .hyp .usr ∧ SharesRegister 14 .hyp .sys ∧
      ¬SharesRegister 14 .svc .usr ∧ SharesRegister 13 .mon .mon := by
  refine ⟨by decide, by decide, by decide, ?_, ?_, ?_, ?_, ?_, ?_, ?_, ?_, ?_⟩ <;> unfold SharesRegister <;> decide

/-- Each clause: the forbidden forms, User mode, a mode the rule does not list, and the effect. -/
theorem test_witness_CpsWritesMasksAndMode :
    (FCps.ofWord 0xF1040000).imod = 0b01#2 ∧ (FCps.ofWord 0xF1000000).imod = 0b00#2 ∧ (FCps.ofWord 0xF1000000).M = 0#1 ∧
      inUser.unprivileged = true ∧ State.reset.unprivileged = false ∧ modeOf 0b00000#5 = none ∧
      modeOf 0b11110#5 = none ∧ modeOf 0b10000#5 = some .usr ∧ modeOf 0b11111#5 = some .sys ∧
      inUser.HasSuccessor ∧ (FCps.ofWord 0xF10E0180).imod = 0b11#2 ∧ (FCps.ofWord 0xF102001F).imod = 0b00#2 ∧
      (FCps.ofWord 0xF102001F).M = 1#1 := by
  unfold State.HasSuccessor; decide +kernel

theorem test_witness_SetendAndSetpanWriteOneBit :
    ({ State.reset with ctl := { State.reset.ctl with sctlrSed := true } } : State).ctl.sctlrSed = true ∧
      State.reset.ctl.sctlrSed = false ∧ State.reset.HasSuccessor ∧ State.reset.unprivileged = false ∧
      inUser.unprivileged = true := by
  unfold State.HasSuccessor; decide +kernel

/-- A record of "three registers of the same length": Q, U and size as given, D0, D2, D4 (quadwords 0, 1, 2). -/
def three (U size opc Q : Nat) : FThreeSame :=
  { U := .ofNat 1 U, D := 0, size := .ofNat 2 size, Vn := 2, Vd := 0, opc := .ofNat 4 opc, N := 0, Q := .ofNat 1 Q,
    M := 0, o1 := 0, Vm := 4 }

/-- Quadwords with the narrowest lanes; 64-bit lanes and odd numbers too, with Q = 0. -/
theorem test_witness_IntegerArithmeticWraps :
    State.reset.SimdReady ∧ EvenFor (three 0 0 8 1).Q [(three 0 0 8 1).d, (three 0 0 8 1).n, (three 0 0 8 1).m] ∧ (three 0 0 8 1).size ≠ 0b11#2 ∧
      (three 0 0 8 1).U = 0#1 ∧ EvenFor (three 1 3 8 0).Q [1, 3, 5] := by
  unfold State.SimdReady State.HasSuccessor EvenFor; decide +kernel

/-- The widest lanes, and the pairwise rows with Q = 0. -/
theorem test_witness_HalvingMaximumDifferencePairs :
    State.reset.SimdReady ∧ EvenFor (three 1 2 0 1).Q [(three 1 2 0 1).d, (three 1 2 0 1).n, (three 1 2 0 1).m] ∧ (three 1 2 0 1).size ≠ 0b11#2 ∧
      (three 0 0 11 0).Q = 0#1 ∧ (three 0 0 11 0).size ≠ 0b11#2 := by
  unfold State.SimdReady State.HasSuccessor EvenFor; decide +kernel

theorem test_witness_IntegerComparisons :
    State.reset.SimdReady ∧ EvenFor (three 1 2 3 1).Q [(three 1 2 3 1).d, (three 1 2 3 1).n, (three 1 2 3 1).m] ∧ (three 1 2 3 1).size ≠ 0b11#2 := by
  unfold State.SimdReady State.HasSuccessor EvenFor; decide +kernel

theorem test_witness_SaturatingAddSubtractAbsNegate :
    State.reset.SimdReady ∧ EvenFor (three 0 3 0 1).Q [(three 0 3 0 1).d, (three 0 3 0 1).n, (three 0 3 0 1).m] ∧
      EvenFor 1#1 [0, 4] ∧ (0b10#2 : BitVec 2) ≠ 0b11#2 := by
  unfold State.SimdReady State.HasSuccessor EvenFor; decide +kernel

/-- A count of 0, the least and the greatest counts. -/
theorem test_witness_ShiftsByRegister :
    State.reset.SimdReady ∧ EvenFor (three 1 3 4 1).Q [(three 1 3 4 1).d, (three 1 3 4 1).n, (three 1 3 4 1).m] ∧
      ((State.reset.laneAt 64 2 0).extractLsb' 0 8).toInt = 0 ∧
      (((State.reset.writeD 2 0x80).laneAt 64 2 0).extractLsb' 0 8).toInt = -128 ∧
      (((State.reset.writeD 2 0x7F).laneAt 64 2 0).extractLsb' 0 8).toInt = 127 := by
  unfold State.SimdReady State.HasSuccessor EvenFor; decide +kernel

theorem test_witness_BitwiseRegisters :
    State.reset.SimdReady ∧ EvenFor (three 0 0 1 1).Q [(three 0 0 1 1).d, (three 0 0 1 1).n, (three 0 0 1 1).m] := by
  unfold State.SimdReady State.HasSuccessor EvenFor; decide +kernel

theorem test_witness_PolynomialProducts :
    EvenFor (three 1 0 9 1).Q [(three 1 0 9 1).d, (three 1 0 9 1).n, (three 1 0 9 1).m] ∧ (three 1 0 9 1).U = 1#1 ∧
      (three 1 0 9 1).size = 0b00#2 ∧ (FThreeDiff.ofWord 0xF2820E04).d % 2 = 0 ∧ (FThreeDiff.ofWord 0xF2820E04).U = 0#1 ∧
      (FThreeDiff.ofWord 0xF2820E04).opc.getLsbD 1 = true ∧ (FThreeDiff.ofWord 0xF2820E04).size = 0b00#2 ∧
      (FThreeDiff.ofWord 0xF2A20E04).size = 0b10#2 ∧ (FThreeDiff.ofWord 0xF2A20E04).opc.getLsbD 1 = true ∧
      (FThreeDiff.ofWord 0xF2A20E04).U = 0#1 ∧ (FThreeDiff.ofWord 0xF2A20E04).d % 2 = 0 ∧
      32 = 8 * 2 ^ (FThreeDiff.ofWord 0xF2A20E04).size.toNat := by
  unfold EvenFor; decide +kernel

theorem test_witness_DoublingMultipliesHigh :
    EvenFor (three 0 1 11 1).Q [(three 0 1 11 1).d, (three 0 1 11 1).n, (three 0 1 11 1).m] ∧ (three 0 1 11 1).size = 0b01#2 ∧
      (three 0 2 11 0).size = 0b10#2 ∧
      EvenFor (FTwoRegScalar.ofWord 0xF3920C44).Q [(FTwoRegScalar.ofWord 0xF3920C44).d, (FTwoRegScalar.ofWord 0xF3920C44).n] ∧
      (FTwoRegScalar.ofWord 0xF3920C44).size = 0b01#2 ∧ (FTwoRegScalar.ofWord 0xF2A20C44).size = 0b10#2 := by
  unfold EvenFor; decide +kernel

/-- Single and half precision. -/
theorem test_witness_FloatingRegisterRows :
    EvenFor (three 0 0 13 1).Q [(three 0 0 13 1).d, (three 0 0 13 1).n, (three 0 0 13 1).m] ∧ (three 0 0 13 1).half = false ∧
      (three 0 1 13 0).half = true ∧ State.reset.params.haveFp16 = true ∧ (three 0 1 13 0).Q = 0#1 ∧
      (fpUnpack fpStandard 0x3F800000#32).1.Finite ∧ (fpUnpack fpStandard 0x7F7FFFFF#32).1.Finite ∧
      (fpUnpack fpStandard 0x8000#16).1.Finite := by
  unfold EvenFor FpNumber.Finite; decide +kernel

/-- Each kind of operand at the ends of its range, and two numbers in order. -/
theorem test_witness_FloatingSpecialOperands :
    (fpUnpack fpStandard 0x7F800001#32).1.kind = .signallingNaN ∧ (fpUnpack fpStandard 0x7FC00000#32).1.kind = .quietNaN ∧
      (fpUnpack fpStandard 0x7E00#16).1.isNaN = true ∧ (fpUnpack fpStandard 0x80000000#32).1.kind = .zero ∧
      (fpUnpack fpStandard 0x7F800000#32).1.kind = .infinity ∧ (fpUnpack fpStandard 0xFC00#16).1.kind = .infinity ∧
      (fpUnpack fpStandard 0x807FFFFF#32).1.kind = .zero ∧ (fpUnpack fpStandard 0x03FF#16).1.kind = .zero ∧
      (fpUnpack fpStandard 0x00800000#32).1.kind = .nonzero ∧ (fpUnpack fpStandard 0x7BFF#16).1.kind = .nonzero ∧
      (fpUnpack fpStandard 0xBF800000#32).1.Below (fpUnpack fpStandard 0x00000000#32).1 ∧
      ¬(fpUnpack fpStandard 0x3C00#16).1.Below (fpUnpack fpStandard 0x3C00#16).1 ∧
      (fpUnpack fpStandard (fpMul 0x3F800000#32 0x40400000#32).1).1.Finite ∧
      (fpUnpack fpStandard (fpMul 0x7F7FFFFF#32 0x40400000#32).1).1.kind = .infinity ∧
      ZeroTimesInfinity (fpUnpack fpStandard 0x0001#16).1 (fpUnpack fpStandard 0x7C00#16).1 ∧
      ¬ZeroTimesInfinity (fpUnpack fpStandard 0x0400#16).1 (fpUnpack fpStandard 0x7C00#16).1 := by
  unfold FpNumber.Below FpNumber.Finite FpNumber.inUnits ZeroTimesInfinity; decide +kernel

theorem test_witness_CryptographicRows :
    (three 0 0 12 1).Q = 1#1 ∧ EvenFor (three 0 0 12 1).Q [(three 0 0 12 1).d, (three 0 0 12 1).n, (three 0 0 12 1).m] ∧
      (FTwoRegMisc.ofWord 0xF3B00304).d % 2 = 0 ∧ (FTwoRegMisc.ofWord 0xF3B00304).m % 2 = 0 ∧
      (FTwoRegMisc.ofWord 0xF3B00304).size = 0b00#2 ∧ (FTwoRegMisc.ofWord 0xF3B902C4).size = 0b10#2 ∧
      (FTwoRegMisc.ofWord 0xF3B902C4).d % 2 = 0 ∧ (FTwoRegMisc.ofWord 0xF3B902C4).m % 2 = 0 ∧
      (∀ k, 16 ≤ k → 0#32 = (0#32 ^^^ 0#32 ^^^ 0#32 ^^^ 0#32).rotateLeft 1) := by
  refine ⟨by decide, by unfold EvenFor; decide +kernel, by decide, by decide, by decide, by decide, by decide, by decide, fun _ _ => by decide⟩

/-- A record of "two registers misc": size, opc2 and Q as given, D0 and D4. -/
def misc (size opc2 Q : Nat) : FTwoRegMisc :=
  { D := 0, size := .ofNat 2 size, opc1 := 0, Vd := 0, opc2 := .ofNat 4 opc2, Q := .ofNat 1 Q, M := 0, Vm := 4 }

/-- The widest lanes each reversal has, and the byte rows. -/
theorem test_witness_ReversesInvertsAndCounts :
    EvenFor (misc 2 0 1).Q [(misc 2 0 1).d, (misc 2 0 1).m] ∧ esize (misc 2 0 1).size < 64 ∧ esize (misc 1 1 1).size < 32 ∧
      esize (misc 0 2 1).size < 16 ∧ (misc 0 11 0).size = 0b00#2 ∧ (misc 2 8 0).size ≠ 0b11#2 := by
  unfold EvenFor; decide +kernel

theorem test_witness_PairwiseAddLong :
    EvenFor (misc 2 4 1).Q [(misc 2 4 1).d, (misc 2 4 1).m] ∧ (misc 2 4 1).size ≠ 0b11#2 := by
  unfold EvenFor; decide +kernel

/-- Integer and floating-point lanes. -/
theorem test_witness_ComparesWithZero :
    (misc 0 0 1).opc2.getLsbD 3 = false ∧ (misc 0 0 1).size ≠ 0b11#2 ∧ (misc 2 8 1).opc2.getLsbD 3 = true ∧
      (misc 2 8 1).size = 0b10#2 ∧ (misc 1 8 0).size = 0b01#2 ∧ State.reset.params.haveFp16 = true := by decide +kernel

theorem test_witness_FloatingOneOperand :
    EvenFor (misc 2 10 1).Q [(misc 2 10 1).d, (misc 2 10 1).m] ∧ (misc 2 10 1).size = 0b10#2 ∧
      (misc 2 10 1).opc2.getLsbD 1 = true ∧ (misc 2 8 0).opc2.getLsbD 1 = false ∧ (misc 1 10 0).size = 0b01#2 ∧
      (fpUnpack fpStandard 0x80000000#32).1.kind = .zero ∧ (fpUnpack fpStandard 0xFFC00000#32).1.isNaN = true ∧
      (fpUnpack fpStandard 0xFC00#16).1 = ⟨true, .infinity, 0, 0⟩ ∧ (fpUnpack fpStandard 0x7F000000#32).1.kind = .nonzero ∧
      0x7F000000 / 2 ^ 23 % 256 = 254 ∧ 0x7E7FFFFF / 2 ^ 23 % 256 = 252 ∧
      (fpUnpack fpStandard 0xBF800000#32).1 = ⟨true, .nonzero, 2 ^ 23, -23⟩ ∧ (0x7FFFFFFF#32).toNat < 2 ^ 31 ∧
      2 ^ 30 ≤ (0x40000000#32).toNat := by
  unfold EvenFor; decide +kernel

theorem test_witness_ExchangesBetweenVectors :
    EvenFor (misc 0 2 1).Q [(misc 0 2 1).d, (misc 0 2 1).m] ∧ (misc 0 2 1).d ≠ (misc 0 2 1).m ∧ (misc 0 2 1).size ≠ 0b11#2 ∧
      (misc 2 2 1).Q ≠ 0#1 ∧ ((misc 1 2 0).Q = 0#1 → (misc 1 2 0).size ≠ 0b10#2) := by
  unfold EvenFor; decide +kernel

/-- VZIP of a quadword, and VTRN of 32-bit lanes of a doubleword. -/
theorem test_witness_ExchangesWithItselfAreFree :
    (FTwoRegMisc.ofWord 0xF3B24044).d = (FTwoRegMisc.ofWord 0xF3B24044).m ∧
      EvenFor (FTwoRegMisc.ofWord 0xF3B24044).Q [(FTwoRegMisc.ofWord 0xF3B24044).d, (FTwoRegMisc.ofWord 0xF3B24044).m] ∧
      (FTwoRegMisc.ofWord 0xF3B24044).size ≠ 0b11#2 ∧ (FTwoRegMisc.ofWord 0xF3B24044).Q ≠ 0#1 ∧
      (FTwoRegMisc.ofWord 0xF3BA0080).d = (FTwoRegMisc.ofWord 0xF3BA0080).m ∧
      (FTwoRegMisc.ofWord 0xF3BA0080).Q = 0#1 ∧ (FTwoRegMisc.ofWord 0xF3BA0080).size = 0b10#2 := by
  unfold EvenFor; decide +kernel

/-- Narrowing, VSHLL, and VMOVL from 8-bit, 16-bit and 32-bit lanes. -/
theorem test_witness_NarrowingAndLengtheningMoves :
    (misc 0 4 0).m % 2 = 0 ∧ (misc 2 4 1).size ≠ 0b11#2 ∧ (misc 0 6 0).d % 2 = 0 ∧
      (∀ f ∈ [FTwoRegShift.ofWord 0xF2880A14, FTwoRegShift.ofWord 0xF2900A14, FTwoRegShift.ofWord 0xF2A00A14],
        f.d % 2 = 0 ∧ f.L = 0#1 ∧ f.imm3L = 0#3) ∧
      (FTwoRegShift.ofWord 0xF2880A14).imm3H = 0b001#3 ∧ (FTwoRegShift.ofWord 0xF2900A14).imm3H = 0b010#3 ∧
      (FTwoRegShift.ofWord 0xF2A00A14).imm3H = 0b100#3 := by decide +kernel

/-- Minus three halves and five halves, which are ties, a value that is an integer, and a lane whose integer is zero, is
in range and is not. -/
theorem test_witness_RoundingDirections :
    fpToInt .minusInfinity true 3 (-1) = (-2, true) ∧ fpToInt .plusInfinity true 3 (-1) = (-1, true) ∧
      fpToInt .towardZero true 3 (-1) = (-1, true) ∧ fpToInt .nearestEven false 5 (-1) = (2, true) ∧
      fpToInt .nearestAway false 5 (-1) = (3, true) ∧ fpToInt .nearestEven true 3 2 = (-12, false) ∧
      (fpUnpack fpStandard 0x3E800000#32).1 = ⟨false, .nonzero, 2 ^ 23, -25⟩ ∧
      fpToInt .nearestEven false (2 ^ 23) (-25) = (0, true) ∧
      (fpUnpack fpStandard 0x4F000000#32).1 = ⟨false, .nonzero, 2 ^ 23, 8⟩ ∧
      fpToInt .towardZero false (2 ^ 23) 8 = (2 ^ 31, false) ∧
      (fpUnpack fpStandard 0x8001#16).1.kind = .zero ∧ (fpUnpack fpStandard 0xFF800000#32).1.kind = .infinity ∧
      (fpUnpack fpStandard 0x7D00#16).1.isNaN = true := by decide +kernel

/-- Both directions between precisions, and 32 and 16 fraction bits, the most each width has. -/
theorem test_witness_FormatConversions :
    (misc 1 12 0).size = 0b01#2 ∧ (misc 1 12 0).m % 2 = 0 ∧ (misc 1 14 0).d % 2 = 0 ∧
      (FTwoRegShift.ofWord 0xF2A00E14).L = 0#1 ∧ (FTwoRegShift.ofWord 0xF2A00E14).opc.getLsbD 1 = true ∧
      64 - (FTwoRegShift.ofWord 0xF2A00E14).imm6 ≤ 32 ∧ (FTwoRegShift.ofWord 0xF2B00C14).opc.getLsbD 1 = false ∧
      64 - (FTwoRegShift.ofWord 0xF2B00C14).imm6 ≤ 16 ∧ (FTwoRegShift.ofWord 0xF2B00C14).L = 0#1 ∧
      (fpUnpack fpStandard 0x80000000#32).1.kind = .zero ∧ (fpUnpack fpStandard 0x477FF000#32).1.kind = .nonzero ∧
      (fpUnpack fpStandard 0xFF800000#32).1.kind = .infinity ∧ (fpUnpack fpStandard 0x7F800001#32).1.isNaN = true ∧
      0x7BFF / 2 ^ 10 % 32 < 31 ∧ 0x7C00 / 2 ^ 10 % 32 = 31 ∧ laneInt false 0x8000#16 = -32768 ∧ laneInt true 0#32 = 0 := by decide +kernel

theorem test_witness_DuplicatesOneLane :
    (15#4).getLsbD 0 = true ∧ (14#4).extractLsb' 0 2 = 0b10#2 ∧ (12#4).extractLsb' 0 3 = 0b100#3 ∧
      EvenFor (FDup.ofWord 0xF3BF0C44).Q [(FDup.ofWord 0xF3BF0C44).d] := by
  unfold EvenFor; decide +kernel

/-- Long, wide, polynomial bit clear, and by scalar with 16-bit and 32-bit lanes. -/
theorem test_witness_LongAndWideArithmetic :
    (FThreeDiff.ofWord 0xF2820004).d % 2 = 0 ∧ (FThreeDiff.ofWord 0xF2820004).size ≠ 0b11#2 ∧
      (FThreeDiff.ofWord 0xF2820004).n % 2 = 0 ∧ (FThreeDiff.ofWord 0xF2A20C04).opc.getLsbD 1 = false ∧
      (FTwoRegScalar.ofWord 0xF2920244).d % 2 = 0 ∧ (FTwoRegScalar.ofWord 0xF2920244).size = 0b01#2 ∧
      (FTwoRegScalar.ofWord 0xF3A20244).size = 0b10#2 := by decide +kernel

theorem test_witness_LongDoublingMultiplies :
    (FThreeDiff.ofWord 0xF2920D04).d % 2 = 0 ∧ (FThreeDiff.ofWord 0xF2920D04).size = 0b01#2 ∧
      (FThreeDiff.ofWord 0xF2A20D04).size = 0b10#2 ∧ (FTwoRegScalar.ofWord 0xF2920B44).d % 2 = 0 ∧
      (FTwoRegScalar.ofWord 0xF2920B44).size = 0b01#2 ∧ (FTwoRegScalar.ofWord 0xF2A20B44).size = 0b10#2 := by decide +kernel

theorem test_witness_HighHalfNarrowing :
    (FThreeDiff.ofWord 0xF2820404).n % 2 = 0 ∧ (FThreeDiff.ofWord 0xF2820404).m % 2 = 0 ∧
      (FThreeDiff.ofWord 0xF2820404).size ≠ 0b11#2 := by decide +kernel

/-- Integer and floating-point lanes of 16 and 32 bits; the greatest index of each. -/
theorem test_witness_MultipliesByScalar :
    EvenFor (FTwoRegScalar.ofWord 0xF392006C).Q [(FTwoRegScalar.ofWord 0xF392006C).d, (FTwoRegScalar.ofWord 0xF392006C).n] ∧
      (FTwoRegScalar.ofWord 0xF392006C).size = 0b01#2 ∧ (FTwoRegScalar.ofWord 0xF392006C).opc.getLsbD 0 = false ∧
      (FTwoRegScalar.ofWord 0xF2A2016F).size = 0b10#2 ∧ (FTwoRegScalar.ofWord 0xF2A2016F).opc.getLsbD 0 = true ∧
      State.reset.params.haveFp16 = true := by
  unfold EvenFor; decide +kernel

theorem test_witness_ModifiedImmediates :
    EvenFor (FOneRegImm.ofWord 0xF3870F5F).Q [(FOneRegImm.ofWord 0xF3870F5F).d] := by unfold EvenFor; decide +kernel

/-- A constant for each clause. -/
theorem test_witness_ModifiedImmediateTable :
    (0b0000#4).getLsbD 3 = false ∧ (0b0111#4).getLsbD 3 = false ∧ expandImm 0b0110 0 0xFF = 0xFF000000FF000000#64 ∧
      expandImm 0b1110 1 0x81 = 0xFF000000000000FF#64 ∧ expandImm 0b1111 0 0x70 = 0x3F8000003F800000#64 := by decide +kernel

/-- Each lane width at its least and its greatest immediate. -/
theorem test_witness_ShiftsByImmediate :
    (∀ p ∈ [(0xF2880014#32, 8), (0xF28F0014#32, 8), (0xF2900014#32, 16), (0xF29F0014#32, 16), (0xF2A00014#32, 32),
        (0xF2BF0014#32, 32)],
      (FTwoRegShift.ofWord p.1).L = 0#1 ∧ 8 ≤ (FTwoRegShift.ofWord p.1).imm6 ∧
        p.2 = 8 * 2 ^ Nat.log2 ((FTwoRegShift.ofWord p.1).imm6 / 8)) ∧
      (FTwoRegShift.ofWord 0xF2800094).L = 1#1 ∧ (FTwoRegShift.ofWord 0xF2800094).imm6 = 0 ∧
      (FTwoRegShift.ofWord 0xF2BF0094).imm6 = 63 := by decide +kernel

theorem test_witness_SaturatingAndNarrowingShifts :
    EvenFor (FTwoRegShift.ofWord 0xF2880754).Q [(FTwoRegShift.ofWord 0xF2880754).d, (FTwoRegShift.ofWord 0xF2880754).m] ∧
      (FTwoRegShift.ofWord 0xF2880914).m % 2 = 0 ∧ (FTwoRegShift.ofWord 0xF2880914).L = 0#1 := by
  unfold EvenFor; decide +kernel

/-- Every byte may be accessed from the launch state. -/
theorem mayAccess_reset (base : Word) (n : Nat) : State.reset.MayAccess base n :=
  fun _ _ => ⟨fun _ _ h => (nomatch h), fun _ h => absurd h (by decide)⟩

/-- VLD4.8 of D28 to D31, aligned to 8 bytes, and VLD1.8 of D30 and three more registers. -/
theorem test_witness_LoadsOfMultipleStructures :
    (∃ aligns, (FLdStMult.ofWord 0xF460C01F).align ∈ aligns ∧ ((0b0000#4 : BitVec 4), 4, 1, 1, aligns) ∈ structureTable) ∧
      MultForm (.ofWord 0xF460C01F) 8 4 1 1 8 ∧ MultForm (.ofWord 0xF461E20F) 8 1 4 1 1 ∧
      (FLdStMult.ofWord 0xF460C01F).L = 1#1 ∧ (FLdStMult.ofWord 0xF460C01F).Rn ≠ 15#4 ∧
      (FLdStMult.ofWord 0xF461E20F).d + 3 = 33 ∧ (State.reset.readReg 0#4).toNat % alignment State.reset 8 8 = 0 ∧
      State.reset.MayAccess 0 32 := by
  refine ⟨⟨[0, 1, 2, 3], by decide, by decide⟩, ⟨⟨[0, 1, 2, 3], by decide, by decide⟩, by decide, by decide, by decide⟩,
    ⟨⟨[0, 1, 2, 3], by decide, by decide⟩, by decide, by decide, by decide⟩, by decide, by decide, by decide, by decide,
    mayAccess_reset _ _⟩

/-- To all lanes: VLD1.16 with alignment, VLD4 with size = 11. To one lane: VLD4.16 with spacing 2. -/
theorem test_witness_LoadsOfASingleStructure :
    AllForm (.ofWord 0xF4A00C5F) 16 1 1 1 2 ∧ AllForm (.ofWord 0xF4A00FDF) 64 4 1 1 32 ∧
      OneForm (.ofWord 0xF4E097FF) 16 4 3 2 8 ∧ (FLdStOne.ofWord 0xF4E097FF).d + 3 * 2 = 31 ∧
      (FLdStOne.ofWord 0xF4E097FF).L = 1#1 ∧ (FLdStOne.ofWord 0xF4E097FF).Rn ≠ 15#4 ∧
      (State.reset.readReg 0#4).toNat % alignment State.reset 64 32 = 0 ∧ State.reset.MayAccess 0 32 := by
  refine ⟨?_, ?_, ?_, by decide, by decide, by decide, by decide, mayAccess_reset _ _⟩
  · unfold AllForm; decide
  · unfold AllForm; decide
  · unfold OneForm; decide

theorem test_witness_StoresOfStructures :
    Memory.wf State.reset.mem = true ∧ (FLdStMult.ofWord 0xF440C01F).L = 0#1 ∧ (FLdStMult.ofWord 0xF440C01F).Rn ≠ 15#4 ∧
      MultForm (.ofWord 0xF440C01F) 8 4 1 1 8 ∧ (FLdStOne.ofWord 0xF4C097FF).L = 0#1 ∧
      (FLdStOne.ofWord 0xF4C097FF).Rn ≠ 15#4 ∧ OneForm (.ofWord 0xF4C097FF) 16 4 3 2 8 ∧ State.reset.MayAccess 0 32 := by
  refine ⟨by decide, by decide, by decide, ⟨⟨[0, 1, 2, 3], by decide, by decide⟩, by decide, by decide, by decide⟩,
    by decide, by decide, ?_, mayAccess_reset _ _⟩
  unfold OneForm; decide

/-- Types 1011 and 1100, L = 0 to all lanes, an index_align that VLD1.8 does not have, and a state for each stop of a form:
Rn = 1111, no unit, a misaligned base, and a byte that PAN closes. -/
theorem test_witness_LoadsAndStoresStop :
    (∀ e n regs inc asked, ¬MultForm (.ofWord 0xF4200B0F) e n regs inc asked) ∧
      (∀ e n regs inc asked, ¬MultForm (.ofWord 0xF4200C0F) e n regs inc asked) ∧
      (∀ e n regs inc asked, ¬AllForm (.ofWord 0xF4800C0F) e n regs inc asked) ∧
      (∀ e n index inc asked, ¬OneForm (.ofWord 0xF4A0001F) e n index inc asked) ∧
      MultForm (.ofWord 0xF460071F) 8 1 1 1 8 ∧ (FLdStMult.ofWord 0xF46F071F).Rn = 15#4 ∧
      ({ State.reset with ctl := { State.reset.ctl with fpexcEn := false } } : State).simdEnabled = false ∧
      ((State.reset.writeReg 0 4).readReg 0).toNat % alignment State.reset 8 8 ≠ 0 ∧
      ¬({ State.reset with cpsr := 0x004001D3#32 } : State).MayAccess 0 8 := by
  have none1 (w : Word) (h : ∀ r ∈ structureTable, r.1 ≠ (FLdStMult.ofWord w).type) :
      ∀ e n regs inc asked, ¬MultForm (.ofWord w) e n regs inc asked :=
    fun _ _ _ _ _ h' => h'.1.elim fun _ m => h _ m.1 rfl
  refine ⟨none1 _ (by simp only [structureTable, List.forall_mem_cons]; decide),
    none1 _ (by simp only [structureTable, List.forall_mem_cons]; decide), fun _ _ _ _ _ h => absurd h.1 (by decide),
    fun _ _ _ inc asked h => ?_, ⟨⟨[0, 1], by decide, by decide⟩, by decide, by decide, by decide⟩, by decide, by decide, by decide,
    fun h => (h 0 (by decide)).2 (by decide) (by decide) fun _ h => (nomatch h)⟩
  have hm : ((0 : Nat), (0 : Nat), (1 : Nat), inc, asked) ∈ oneLaneTable := h.1
  simp [oneLaneTable] at hm

/-- One form for each clause of UndefinedThreeSame. -/
theorem test_witness_UndefinedThreeSame :
    ¬EvenFor (FThreeSame.ofWord 0xF2021844).Q [(FThreeSame.ofWord 0xF2021844).d] ∧ (three 0 3 0 0).size = 0b11#2 ∧
      (three 0 0 11 0).size = 0b00#2 ∧ (three 1 1 9 0).U = 1#1 ∧ (three 1 1 9 0).size ≠ 0b00#2 ∧ (three 0 0 11 1).Q = 1#1 ∧
      (three 0 1 13 0).half = true ∧ { Config.launch with haveFp16 := false }.haveFp16 = false ∧ (three 0 0 12 0).Q = 0#1 ∧
      (FThreeSame.ofWord 0xF2021C44).d % 2 = 1 := by
  unfold EvenFor; decide +kernel

/-- One form for each clause of UndefinedOtherVectorForms. -/
theorem test_witness_UndefinedOtherVectorForms :
    ¬EvenFor (FTwoRegMisc.ofWord 0xF3B01044).Q [(FTwoRegMisc.ofWord 0xF3B01044).d] ∧ (misc 3 0 0).size = 0b11#2 ∧
      (misc 1 10 0).size ≠ 0b00#2 ∧ (misc 2 1 0).size = 0b10#2 ∧ (misc 0 5 1).size ≠ 0b10#2 ∧ (misc 2 12 0).size ≠ 0b01#2 ∧
      (misc 0 8 0).opc2.getLsbD 3 = true ∧ (misc 1 8 0).opc2.getLsbD 1 = false ∧ (misc 2 2 0).Q = 0#1 ∧
      (FTwoRegMisc.ofWord 0xF3B20205).m % 2 = 1 ∧ (FTwoRegMisc.ofWord 0xF3B21304).d % 2 = 1 ∧
      (8#4).extractLsb' 0 3 = 0#3 ∧ ¬EvenFor (FDup.ofWord 0xF3B11C44).Q [(FDup.ofWord 0xF3B11C44).d] ∧
      (FThreeDiff.ofWord 0xF2821004).d % 2 = 1 ∧ (FThreeDiff.ofWord 0xF2830104).n % 2 = 1 ∧
      (FThreeDiff.ofWord 0xF2820405).m % 2 = 1 ∧ (FThreeDiff.ofWord 0xF2820D04).size = 0b00#2 ∧
      (FThreeDiff.ofWord 0xF3820E04).opc.getLsbD 1 = true ∧ (FThreeDiff.ofWord 0xF3820E04).U = 1#1 ∧
      (FTwoRegScalar.ofWord 0xF2820044).size = 0b00#2 ∧
      ¬EvenFor (FTwoRegScalar.ofWord 0xF3921044).Q [(FTwoRegScalar.ofWord 0xF3921044).d] ∧
      (FTwoRegScalar.ofWord 0xF2921244).d % 2 = 1 ∧ (FTwoRegScalar.ofWord 0xF2920144).opc.getLsbD 0 = true ∧
      ¬EvenFor (FOneRegImm.ofWord 0xF2801050).Q [(FOneRegImm.ofWord 0xF2801050).d] ∧
      ¬EvenFor (FTwoRegShift.ofWord 0xF2881054).Q [(FTwoRegShift.ofWord 0xF2881054).d] ∧
      (FTwoRegShift.ofWord 0xF2880894).L = 1#1 ∧ (FTwoRegShift.ofWord 0xF2880815).m % 2 = 1 ∧
      (FTwoRegShift.ofWord 0xF2881A14).d % 2 = 1 ∧ (FTwoRegShift.ofWord 0xF29F0E14).imm6 < 32 ∧
      (FTwoRegShift.ofWord 0xF2AF0C14).opc.getLsbD 1 = false ∧ (FTwoRegShift.ofWord 0xF2AF0C14).imm6 < 48 := by
  unfold EvenFor; decide +kernel

end Sys2Proof.Tests
end

