-- ==== Sys2Proof/Proofs/Scope.lean ====
section
/-! The constructors that stand for rows that are no instruction: for each table the outcome of its constructors, one
equation per constructor, and the statement about all of them. -/

namespace Sys2Proof.Machine

/-- The UNALLOCATED row of "Unconditional instructions" (rule R96). -/
@[simp] theorem exec_unallocatedTop (f : FTop) (s : State) :
    exec (.unallocatedTop5 f) s = .fault .undefinedInstruction :=
  rfl

/-- The UNALLOCATED rows of "Miscellaneous" (rule R102). -/
@[simp] theorem exec_unallocatedMisc (f : FMisc) (s : State) :
    exec (.unallocatedMisc1 f) s = .fault .undefinedInstruction ∧
      exec (.unallocatedMisc3 f) s = .fault .undefinedInstruction ∧
      exec (.unallocatedMisc4 f) s = .fault .undefinedInstruction ∧
      exec (.unallocatedMisc5 f) s = .fault .undefinedInstruction ∧
      exec (.unallocatedMisc7 f) s = .fault .undefinedInstruction ∧
      exec (.unallocatedMisc9 f) s = .fault .undefinedInstruction ∧
      exec (.unallocatedMisc10 f) s = .fault .undefinedInstruction ∧
      exec (.unallocatedMisc11 f) s = .fault .undefinedInstruction ∧
      exec (.unallocatedMisc12 f) s = .fault .undefinedInstruction ∧
      exec (.unallocatedMisc13 f) s = .fault .undefinedInstruction ∧
      exec (.unallocatedMisc14 f) s = .fault .undefinedInstruction ∧
      exec (.unallocatedMisc15 f) s = .fault .undefinedInstruction :=
  ⟨rfl, rfl, rfl, rfl, rfl, rfl, rfl, rfl, rfl, rfl, rfl, rfl⟩

/-- The UNALLOCATED row of "Change Process State" (rule R107). -/
@[simp] theorem exec_unallocatedCps (f : FCps) (s : State) :
    exec (.unallocatedCps3 f) s = .fault .undefinedInstruction :=
  rfl

/-- The UNALLOCATED rows of "Advanced SIMD three registers of the same length" (rule R187). -/
@[simp] theorem exec_unallocatedThreeSame (f : FThreeSame) (s : State) :
    exec (.unallocatedThreeSame21 f) s = .fault .undefinedInstruction ∧
      exec (.unallocatedThreeSame53 f) s = .fault .undefinedInstruction ∧
      exec (.unallocatedThreeSame69 f) s = .fault .undefinedInstruction :=
  ⟨rfl, rfl, rfl⟩

/-- The UNALLOCATED rows of "Advanced SIMD two registers misc" (rule R249). -/
@[simp] theorem exec_unallocatedTwoRegMisc (f : FTwoRegMisc) (s : State) :
    exec (.unallocatedTwoRegMisc4 f) s = .fault .undefinedInstruction ∧
      exec (.unallocatedTwoRegMisc40 f) s = .fault .undefinedInstruction ∧
      exec (.unallocatedTwoRegMisc43 f) s = .fault .undefinedInstruction :=
  ⟨rfl, rfl, rfl⟩

/-- The UNALLOCATED rows of "Advanced SIMD duplicate (scalar)" (rule R257). -/
@[simp] theorem exec_unallocatedDup (f : FDup) (s : State) :
    exec (.unallocatedDup2 f) s = .fault .undefinedInstruction ∧
      exec (.unallocatedDup3 f) s = .fault .undefinedInstruction ∧
      exec (.unallocatedDup4 f) s = .fault .undefinedInstruction :=
  ⟨rfl, rfl, rfl⟩

/-- The UNALLOCATED rows of "Advanced SIMD three registers of different lengths" (rule R297). -/
@[simp] theorem exec_unallocatedThreeDiff (f : FThreeDiff) (s : State) :
    exec (.unallocatedThreeDiff17 f) s = .fault .undefinedInstruction ∧
      exec (.unallocatedThreeDiff18 f) s = .fault .undefinedInstruction ∧
      exec (.unallocatedThreeDiff19 f) s = .fault .undefinedInstruction ∧
      exec (.unallocatedThreeDiff20 f) s = .fault .undefinedInstruction :=
  ⟨rfl, rfl, rfl, rfl⟩

/-- The UNALLOCATED rows of "Advanced SIMD two registers and a scalar" (rule R314). -/
@[simp] theorem exec_unallocatedTwoRegScalar (f : FTwoRegScalar) (s : State) :
    exec (.unallocatedTwoRegScalar9 f) s = .fault .undefinedInstruction ∧
      exec (.unallocatedTwoRegScalar11 f) s = .fault .undefinedInstruction ∧
      exec (.unallocatedTwoRegScalar14 f) s = .fault .undefinedInstruction :=
  ⟨rfl, rfl, rfl⟩

/-- The UNALLOCATED row of "Advanced SIMD one register and modified immediate" (rule R342). -/
@[simp] theorem exec_unallocatedOneRegImm (f : FOneRegImm) (s : State) :
    exec (.unallocatedOneRegImm12 f) s = .fault .undefinedInstruction :=
  rfl

/-- The UNALLOCATED row of "Memory hints and barriers" (rule R381). -/
@[simp] theorem exec_unallocatedMemHint (f : FMemHint) (s : State) :
    exec (.unallocatedMemHint8 f) s = .fault .undefinedInstruction :=
  rfl

/-- The CONSTRAINED UNPREDICTABLE row of "Miscellaneous" (rule R103). -/
@[simp] theorem exec_constrainedUnpredictableMisc (f : FMisc) (s : State) :
    exec (.constrainedUnpredictableMisc8 f) s = .fault .constrainedUnpredictable :=
  rfl

/-- The CONSTRAINED UNPREDICTABLE rows of "Memory hints and barriers" (rule R382). -/
@[simp] theorem exec_constrainedUnpredictableMemHint (f : FMemHint) (s : State) :
    exec (.constrainedUnpredictableMemHint1 f) s = .fault .constrainedUnpredictable ∧
      exec (.constrainedUnpredictableMemHint2 f) s = .fault .constrainedUnpredictable ∧
      exec (.constrainedUnpredictableMemHint4 f) s = .fault .constrainedUnpredictable ∧
      exec (.constrainedUnpredictableMemHint7 f) s = .fault .constrainedUnpredictable :=
  ⟨rfl, rfl, rfl, rfl⟩

/-- The CONSTRAINED UNPREDICTABLE rows of "Barriers" (rule R393). -/
@[simp] theorem exec_constrainedUnpredictableBarrier (f : FBarrier) (s : State) :
    exec (.constrainedUnpredictableBarrier1 f) s = .fault .constrainedUnpredictable ∧
      exec (.constrainedUnpredictableBarrier3 f) s = .fault .constrainedUnpredictable ∧
      exec (.constrainedUnpredictableBarrier10 f) s = .fault .constrainedUnpredictable :=
  ⟨rfl, rfl, rfl⟩

/-- No row of "Unconditional instructions" (rule R97). -/
@[simp] theorem exec_notInSourceTop (f : FTop) (s : State) :
    exec (.notInSourceTop f) s = .refused (.noRowInSource .top) :=
  rfl

/-- No row of "Advanced SIMD three registers of the same length" (rule R188). -/
@[simp] theorem exec_notInSourceThreeSame (f : FThreeSame) (s : State) :
    exec (.notInSourceThreeSame f) s = .refused (.noRowInSource .threeSame) :=
  rfl

/-- No row of "Advanced SIMD two registers, or three registers of different lengths" (rule R98). -/
@[simp] theorem exec_notInSourceTwoRegThreeDiff (f : FTwoRegThreeDiff) (s : State) :
    exec (.notInSourceTwoRegThreeDiff f) s = .refused (.noRowInSource .twoRegThreeDiff) :=
  rfl

/-- No row of "Advanced SIMD two registers misc" (rule R250). -/
@[simp] theorem exec_notInSourceTwoRegMisc (f : FTwoRegMisc) (s : State) :
    exec (.notInSourceTwoRegMisc f) s = .refused (.noRowInSource .twoRegMisc) :=
  rfl

/-- No row of "Advanced SIMD two registers and shift amount" (rule R369). -/
@[simp] theorem exec_notInSourceTwoRegShift (f : FTwoRegShift) (s : State) :
    exec (.notInSourceTwoRegShift f) s = .refused (.noRowInSource .twoRegShift) :=
  rfl

/-- Settles O8: each constructor has its equation under its table. -/
theorem rowsWithoutInstructionStop : Obligations.RowsWithoutInstructionStop := by
  intro a b c d e f g h j k l m n s
  refine ⟨?unallocated, ?unpredictable, exec_notInSourceTop a s, exec_notInSourceThreeSame d s,
    exec_notInSourceTwoRegThreeDiff m s, exec_notInSourceTwoRegMisc e s, exec_notInSourceTwoRegShift n s⟩
  case unallocated =>
    simp only [List.forall_mem_cons, List.not_mem_nil, false_implies, implies_true, and_self,
      exec_unallocatedTop, exec_unallocatedMisc, exec_unallocatedCps, exec_unallocatedThreeSame,
      exec_unallocatedTwoRegMisc, exec_unallocatedDup, exec_unallocatedThreeDiff, exec_unallocatedTwoRegScalar,
      exec_unallocatedOneRegImm, exec_unallocatedMemHint]
  case unpredictable =>
    simp only [List.forall_mem_cons, List.not_mem_nil, false_implies, implies_true, and_self,
      exec_constrainedUnpredictableMisc, exec_constrainedUnpredictableMemHint, exec_constrainedUnpredictableBarrier]

end Sys2Proof.Machine
end

section
/-! What an instruction that completes can do: one inductive of effects, one inversion lemma over the constructors of
`Instr`, and from it the statements about every step (rules R21 to R28, R111). -/

namespace Sys2Proof.Machine

/-! ## Effects -/

/-- A lane sets no flag but QC and the cumulative floating-point flags (rule R23). -/
def Lane.Cumulative {e : Nat} (l : Lane e) : Prop := l.Within (flagQC ||| fpFlags)

/-- A larger set of flags admits the lane too. -/
theorem Lane.Within.mono {A B : Flags} {e : Nat} {l : Lane e} (h : l.Within A) (hAB : A &&& B = A) : l.Within B := by
  apply BitVec.eq_of_getLsbD_eq
  intro b hb
  have hl := congrArg (·.getLsbD b) h
  have hA := congrArg (·.getLsbD b) hAB
  simp only [BitVec.getLsbD_and, BitVec.getLsbD_not, BitVec.getLsbD_zero, hb, decide_true, Bool.true_and] at hl hA ⊢
  cases hB : B.getLsbD b with
  | true => simp
  | false =>
    rw [hB, Bool.and_false] at hA
    rwa [← hA] at hl

theorem Lane.cumulative_of_qc {e : Nat} {l : Lane e} (h : l.Within flagQC) : l.Cumulative := h.mono (by decide)

theorem Lane.cumulative_of_fp {e : Nat} {l : Lane e} (h : l.Within fpFlags) : l.Cumulative := h.mono (by decide)

theorem plain_cumulative {e : Nat} (x : BitVec e) : (plain x).Cumulative := plain_within _ x

theorem saturate_cumulative (e : Nat) (u : Bool) (v : Int) : (saturate e u v).Cumulative :=
  Lane.cumulative_of_qc (saturate_within e u v)

/-- `u` is `s` but for D0 to D31, cumulative flags that are set, and the counter of free values. -/
def VectorChange (s u : State) : Prop :=
  ∃ d fl n, fl &&& ~~~(flagQC ||| fpFlags) = 0#32 ∧ u = { s with d := d, fpscr := s.fpscr ||| fl, freeCount := n }

/-- The instruction is of one of the three load/store classes (rules R421 to R423). -/
def LoadStore (i : Instr) : Prop :=
  (∃ f, i = .asimdLdstMult f) ∨ (∃ f, i = .asimdLdAll f) ∨ ∃ f, i = .asimdLdstOne f

/-- The instructions that have a meaning and do not use the Advanced SIMD unit: the system instructions, the barriers and
the hints (rules R101 to R106, R386 to R414). -/
def worksWithoutUnit : Instr → Bool
  | .setpan _ | .setend _ | .cps _ | .clrex _ | .dsb _ | .ssbb _ | .pssbb _ | .dmb _ | .isb _ | .sb _
  | .reservedHintNopPldImm _ | .pliImmLit _ | .pldLit _ | .pldwImm _ | .pldImm _ | .reservedHintNopPldReg _
  | .pliReg _ | .pldwReg _ | .pldReg _ => true
  | _ => false

/-- The states `u` that instruction `i` may make of `s` before the pc goes on, bounded from above: which part of the state
can differ, and what the difference tells of `i` and of `s`. -/
inductive Effect : Instr → State → State → Prop
  | vector {i s u} : s.simdEnabled = true → VectorChange s u → Effect i s u
  | transfer {i s} (L Rn Rm x) : LoadStore i → s.simdEnabled = true → Effect i s (transferEffect L Rn Rm x s)
  | setpan {s} (f : FMisc) (v : Bool) :
      s.unprivileged = false → Effect (.setpan f) s { s with cpsr := setCpsrBit s.cpsr 22 v }
  | setend {s} (f : FCps) (v : Bool) : Effect (.setend f) s { s with cpsr := setCpsrBit s.cpsr 9 v }
  | cps {s} (f : FCps) : s.unprivileged = false → Effect (.cps f) s { s with cpsr := cpsResult f s.cpsr }
  | clrex {s} (f : FBarrier) : Effect (.clrex f) s { s with reservation := none }
  | nop {i s} : worksWithoutUnit i = true → Effect i s s

/-! ## Ways of changing the vector registers -/

theorem VectorChange.refl (s : State) : VectorChange s s := ⟨s.d, 0#32, s.freeCount, by simp, by simp⟩

theorem VectorChange.writeD {s u : State} (h : VectorChange s u) (n : Nat) (v : DWord) :
    VectorChange s (u.writeD n v) := by
  obtain ⟨d, fl, k, hfl, rfl⟩ := h
  exact ⟨_, fl, k, hfl, rfl⟩

theorem VectorChange.setFlags {s u : State} (h : VectorChange s u) {fl : Flags}
    (hfl : fl &&& ~~~(flagQC ||| fpFlags) = 0#32) : VectorChange s (u.setFlags fl) := by
  obtain ⟨d, fl', k, hfl', rfl⟩ := h
  exact ⟨d, fl' ||| fl, k, within_or hfl' hfl, by simp only [State.setFlags, BitVec.or_assoc]⟩

theorem VectorChange.writeLanes {s u : State} (h : VectorChange s u) (e first count : Nat) (xs : List (BitVec e)) :
    VectorChange s (u.writeLanes e first count xs) := by
  induction count generalizing u first xs with
  | zero => exact h
  | succ n ih => exact ih (h.writeD _ _) _ _

theorem VectorChange.putD {s u : State} (h : VectorChange s u) (first : Nat) (g : Nat → DWord) (count : Nat) :
    VectorChange s (u.putD first g count) := by
  induction count with
  | zero => exact h
  | succ n ih => exact ih.writeD _ _

theorem VectorChange.putFree {s u : State} (h : VectorChange s u) (first n : Nat) :
    VectorChange s (u.putFree first n) := by
  obtain ⟨d, fl, k, hfl, hu⟩ := h.putD first (fun k => u.free k) n
  exact ⟨d, fl, _, hfl, by rw [State.putFree, hu]⟩

theorem writeQ_change (s : State) (n : Nat) (v : QWord) : VectorChange s (s.writeQ n v) :=
  ((VectorChange.refl s).writeD _ _).writeD _ _

theorem putLanes_change (s : State) {e : Nat} (first count : Nat) {xs : List (Lane e)} (h : ∀ x ∈ xs, x.Cumulative) :
    VectorChange s (s.putLanes first count xs) :=
  ((VectorChange.refl s).writeLanes _ _ _ _).setFlags (laneFlags_within _ xs h)

theorem plainLanes_change (s : State) {e : Nat} (first count : Nat) (xs : List (BitVec e)) :
    VectorChange s (s.putLanes first count (xs.map plain)) :=
  putLanes_change s first count fun _ hx => by
    obtain ⟨y, -, rfl⟩ := List.mem_map.mp hx
    exact plain_cumulative y

theorem exchange_change {e : Nat} (g : List (BitVec e) → List (BitVec e) → List (BitVec e) × List (BitVec e))
    (d m count : Nat) (s : State) : VectorChange s (exchange e g d m count s) := by
  unfold exchange
  split
  · exact (VectorChange.refl s).putFree _ _
  · exact ((VectorChange.refl s).writeLanes _ _ _ _).writeLanes _ _ _ _

section
variable {a b o : Nat} {d dCount n nCount m mCount : Nat} {s : State}

theorem unary_change {op : BitVec a → Lane o} (h : ∀ x, (op x).Cumulative) :
    VectorChange s (unary op d dCount m mCount s) :=
  putLanes_change s d dCount fun _ hx => by
    obtain ⟨y, -, rfl⟩ := List.mem_map.mp hx
    exact h y

theorem binary_change {op : BitVec a → BitVec b → Lane o} (h : ∀ x y, (op x y).Cumulative) :
    VectorChange s (binary op d dCount n nCount m mCount s) :=
  putLanes_change s d dCount (zipWith_within _ op h _ _)

theorem accumulateOne_change {op : BitVec o → BitVec a → Lane o} (h : ∀ x y, (op x y).Cumulative) :
    VectorChange s (accumulateOne op d dCount m mCount s) :=
  putLanes_change s d dCount (zipWith_within _ op h _ _)

theorem accumulate_change {op : BitVec o → BitVec a → BitVec b → Lane o} (h : ∀ x y z, (op x y z).Cumulative) :
    VectorChange s (accumulate op d dCount n nCount m mCount s) :=
  putLanes_change s d dCount
    (zipWith_within _ (fun acc (ab : BitVec a × BitVec b) => op acc ab.1 ab.2) (fun x y => h x y.1 y.2) _ _)

theorem pairwise_change {op : BitVec a → BitVec a → Lane a} (h : ∀ x y, (op x y).Cumulative) :
    VectorChange s (pairwiseEffect op d n m s) :=
  putLanes_change s d 1 fun _ hx => by
    obtain ⟨p, -, rfl⟩ := List.mem_map.mp hx
    exact h p.1 p.2

/-- A row whose operation a bit of the word selects (rule R265). -/
theorem unary_change_either {c : Prop} [Decidable c] {p q : (e : Nat) → BitVec e → Lane e}
    (hp : ∀ x, (p a x).Cumulative) (hq : ∀ x, (q a x).Cumulative) :
    VectorChange s (unary ((if c then p else q) a) d dCount m mCount s) := by
  split
  · exact unary_change hp
  · exact unary_change hq

end

/-! ## Inversion of `exec` and `step` -/

/-- An Advanced SIMD instruction that completes had access to the unit. -/
theorem simdOp_effect {i : Instr} {undef : Bool} {k : State → State} {s t : State}
    (h : simdOp undef k s = .next t) (hk : VectorChange s (k s)) : ∃ u, Effect i s u ∧ advance u = .next t := by
  obtain ⟨-, hs, hsucc, ht⟩ := simdOp_next.mp h
  exact ⟨k s, .vector hs hk, advance_next.mpr ⟨hsucc, ht⟩⟩

theorem threeSameSha_effect {i : Instr} {f : FThreeSame} {op : QWord → QWord → QWord → QWord} {s t : State}
    (h : threeSameSha f op s = .next t) : ∃ u, Effect i s u ∧ advance u = .next t :=
  simdOp_effect h (writeQ_change s _ _)

theorem twoRegSha_effect {i : Instr} {f : FTwoRegMisc} {size : BitVec 2} {op : QWord → QWord → QWord} {s t : State}
    (h : twoRegSha f size op s = .next t) : ∃ u, Effect i s u ∧ advance u = .next t :=
  simdOp_effect h (writeQ_change s _ _)

theorem loadStore_effect {i : Instr} (hi : LoadStore i) {L : BitVec 1} {Rn Rm : BitVec 4} {tr : Option Transfer}
    {s t : State} (h : loadStore L Rn Rm tr s = .next t) : ∃ u, Effect i s u ∧ advance u = .next t := by
  obtain ⟨x, -, -, hs, -, -, ha⟩ := loadStore_next.mp h
  exact ⟨_, .transfer L Rn Rm x hi hs, ha⟩

theorem setpan_effect {f : FMisc} {s t : State} (h : exec (.setpan f) s = .next t) :
    ∃ u, Effect (.setpan f) s u ∧ advance u = .next t := by
  change execSetpan f s = .next t at h
  unfold execSetpan at h
  split at h
  · exact ⟨s, .nop rfl, h⟩
  · next hp => exact ⟨_, .setpan f _ (Bool.eq_false_iff.mpr hp), h⟩

theorem setend_effect {f : FCps} {s t : State} (h : exec (.setend f) s = .next t) :
    ∃ u, Effect (.setend f) s u ∧ advance u = .next t := by
  change execSetend f s = .next t at h
  unfold execSetend at h
  split at h
  · exact absurd h (raise_ne_next _ _)
  · exact ⟨_, .setend f _, h⟩

theorem cps_effect {f : FCps} {s t : State} (h : exec (.cps f) s = .next t) :
    ∃ u, Effect (.cps f) s u ∧ advance u = .next t := by
  change execCps f s = .next t at h
  unfold execCps at h
  split at h
  · exact absurd h (raise_ne_next _ _)
  · split at h
    · exact ⟨s, .nop rfl, h⟩
    · next hp => exact ⟨_, .cps f (Bool.eq_false_iff.mpr hp), h⟩

/-- Everything an instruction can do that completes: one case for each constructor, grouped by shape. -/
theorem exec_effect {i : Instr} {s t : State} (h : exec i s = .next t) :
    ∃ u, Effect i s u ∧ advance u = .next t := by
  cases i with
  -- The rows that are no instruction.
  | unallocatedTop5 f | unallocatedMisc1 f | unallocatedMisc3 f | unallocatedMisc4 f | unallocatedMisc5 f
  | unallocatedMisc7 f | unallocatedMisc9 f | unallocatedMisc10 f | unallocatedMisc11 f | unallocatedMisc12 f
  | unallocatedMisc13 f | unallocatedMisc14 f | unallocatedMisc15 f | unallocatedCps3 f | unallocatedThreeSame21 f
  | unallocatedThreeSame53 f | unallocatedThreeSame69 f | unallocatedTwoRegMisc4 f | unallocatedTwoRegMisc40 f
  | unallocatedTwoRegMisc43 f | unallocatedDup2 f | unallocatedDup3 f | unallocatedDup4 f | unallocatedThreeDiff17 f
  | unallocatedThreeDiff18 f | unallocatedThreeDiff19 f | unallocatedThreeDiff20 f | unallocatedTwoRegScalar9 f
  | unallocatedTwoRegScalar11 f | unallocatedTwoRegScalar14 f | unallocatedOneRegImm12 f | unallocatedMemHint8 f
  | constrainedUnpredictableMisc8 f | constrainedUnpredictableMemHint1 f | constrainedUnpredictableMemHint2 f
  | constrainedUnpredictableMemHint4 f | constrainedUnpredictableMemHint7 f | constrainedUnpredictableBarrier1 f
  | constrainedUnpredictableBarrier3 f | constrainedUnpredictableBarrier10 f => exact absurd h (raise_ne_next _ _)
  | notInSourceTop f | notInSourceThreeSame f | notInSourceTwoRegThreeDiff f | notInSourceTwoRegMisc f
  | notInSourceTwoRegShift f => exact nomatch h
  -- System instructions, barriers and hints.
  | setpan f => exact setpan_effect h
  | setend f => exact setend_effect h
  | cps f => exact cps_effect h
  | clrex f => exact ⟨_, .clrex f, h⟩
  | dsb f | ssbb f | pssbb f | dmb f | isb f | sb f | reservedHintNopPldImm f | pliImmLit f | pldLit f | pldwImm f
  | pldImm f | reservedHintNopPldReg f | pliReg f | pldwReg f | pldReg f => exact ⟨s, .nop rfl, h⟩
  -- Loads and stores.
  | asimdLdstMult f => exact loadStore_effect (.inl ⟨f, rfl⟩) h
  | asimdLdAll f => exact loadStore_effect (.inr (.inl ⟨f, rfl⟩)) h
  | asimdLdstOne f => exact loadStore_effect (.inr (.inr ⟨f, rfl⟩)) h
  -- Whole quadwords, exchanged vectors and rearranged lanes; `show` stops unfolding where the effect is a `fun`.
  | sha1c f | sha1p f | sha1m f | sha1su0 f | sha256h f | sha256h2 f | sha256su1 f => exact threeSameSha_effect h
  | aese f | aesd f | sha1su1 f | sha256su0 f => exact twoRegSha_effect h
  | aesmc f => exact twoRegSha_effect (show execAesmc f s = .next t from h)
  | aesimc f => exact twoRegSha_effect (show execAesimc f s = .next t from h)
  | sha1h f => exact twoRegSha_effect (show execSha1h f s = .next t from h)
  | vswp f | vtrn f | vuzp f | vzip f => exact simdOp_effect h (exchange_change _ _ _ _ s)
  | vrev64 f | vrev32 f | vrev16 f => exact simdOp_effect h (plainLanes_change s _ _ _)
  | vpaddl f => exact simdOp_effect (show execVpaddl f s = .next t from h) (plainLanes_change s _ _ _)
  | vpadal f =>
    exact simdOp_effect (show execVpadal f s = .next t from h)
      (putLanes_change s _ _ (zipWith_within _ _ (fun _ _ => plain_cumulative _) _ _))
  | vdupScalar f =>
    refine simdOp_effect (show execVdupScalar f s = .next t from h) (putLanes_change s _ _ fun x hx => ?_)
    rw [List.eq_of_mem_replicate hx]
    exact plain_cumulative _
  -- Lane by lane, without flags.
  | vcls f | vclz f | vcnt f | vmvnReg f | vmovn f | vshllMisc f | vmovImmA1 f | vmvnImmA1 f | vorrImmA1 f
  | vbicImmA1 f | vmovImmA3 f | vmvnImmA2 f | vorrImmA2 f | vbicImmA2 f | vmovImmA4 f | vmvnImmA3 f | vmovImmA5 f
  | vshr f | vmovl f | vrshr f | vshllImm f | vshlImm f | vshrn f | vrshrn f | vmullScalar f =>
    exact simdOp_effect h (unary_change fun _ => plain_cumulative _)
  | vhadd f | vrhadd f | vhsub f | vcgtRegA1 f | vcgeRegA1 f | vshlReg f | vaddInt f | vtst f | vrshl f | vmaxInt f
  | vminInt f | vabdInt f | vmulIntPoly f | vsubInt f | vceqRegA1 f | vaddl f | vaddw f | vsubl f | vaddhn f | vsubw f
  | vsubhn f | vabdlInt f | vraddhn f | vrsubhn f | vmullIntPoly f =>
    exact simdOp_effect h (binary_change fun _ _ => plain_cumulative _)
  | vsra f | vrsra f | vsri f | vsli f | vmlalScalar f | vmlslScalar f =>
    exact simdOp_effect h (accumulateOne_change fun _ _ => plain_cumulative _)
  | vandReg f | vbicReg f | vorrReg f | vmlaInt f | vornReg f | vaba f | veor f | vbsl f | vbit f | vmlsInt f | vbif f
  | vabal f | vmlalInt f | vmlslInt f => exact simdOp_effect h (accumulate_change fun _ _ _ => plain_cumulative _)
  | vpaddInt f | vpmaxInt f | vpminInt f => exact simdOp_effect h (pairwise_change fun _ _ => plain_cumulative _)
  -- Lane by lane, saturating.
  | vqabs f | vqneg f | vqmovun f | vqmovn f | vqshlImm f | vqshrn f | vqrshrn f | vqshluImm f | vqshrun f | vqrshrun f
  | vqdmullScalar f | vqdmulhScalar f | vqrdmulhScalar f =>
    exact simdOp_effect h (unary_change fun _ => saturate_cumulative _ _ _)
  | vqadd f | vqsub f | vqshlReg f | vqrshl f | vqdmulh3same f | vqrdmulh3same f | vqdmull3diff f =>
    exact simdOp_effect h (binary_change fun _ _ => saturate_cumulative _ _ _)
  | vqrdmlahScalar f | vqrdmlshScalar f =>
    exact simdOp_effect h (accumulateOne_change fun _ _ => saturate_cumulative _ _ _)
  | vqdmlalScalar f | vqdmlslScalar f =>
    exact simdOp_effect h (accumulateOne_change fun _ _ => Lane.cumulative_of_qc (satDoubleMulAcc_within _ _ _ _))
  | vqrdmlah3same f | vqrdmlsh3same f =>
    exact simdOp_effect h (accumulate_change fun _ _ _ => saturate_cumulative _ _ _)
  | vqdmlal3diff f | vqdmlsl3diff f =>
    exact simdOp_effect h (accumulate_change fun _ _ _ => Lane.cumulative_of_qc (satDoubleMulAcc_within _ _ _ _))
  -- Lane by lane, floating-point.
  | vaddFp f => exact simdOp_effect h (binary_change fun _ _ => Lane.cumulative_of_fp (fpAdd_within _ _))
  | vsubFp f => exact simdOp_effect h (binary_change fun _ _ => Lane.cumulative_of_fp (fpSub_within _ _))
  | vmulFp f => exact simdOp_effect h (binary_change fun _ _ => Lane.cumulative_of_fp (fpMul_within _ _))
  | vabdFp f => exact simdOp_effect h (binary_change fun _ _ => Lane.cumulative_of_fp (fpAbsDiff_within _ _))
  | vceqRegA2 f | vcgeRegA2 f | vcgtRegA2 f | vacge f | vacgt f =>
    exact simdOp_effect h (binary_change fun _ _ => Lane.cumulative_of_fp (fpCompare_within _ _ _))
  | vmaxFp f | vminFp f => exact simdOp_effect h (binary_change fun _ _ => Lane.cumulative_of_fp (fpMaxMin_within _ _ _))
  | vmaxnm f | vminnm f =>
    exact simdOp_effect h (binary_change fun _ _ => Lane.cumulative_of_fp (fpMaxMinNum_within _ _ _))
  | vrecps f | vrsqrts f => exact simdOp_effect h (binary_change fun _ _ => Lane.cumulative_of_fp (fpStep_within _ _ _))
  | vfma f => exact simdOp_effect h (accumulate_change fun _ _ _ => Lane.cumulative_of_fp (fpMulAdd_within _ _ _))
  | vfms f => exact simdOp_effect h (accumulate_change fun _ _ _ => Lane.cumulative_of_fp (fpMulSub_within _ _ _))
  | vmlaFp f | vmlsFp f =>
    exact simdOp_effect h (accumulate_change fun _ _ _ => Lane.cumulative_of_fp (fpMulThenAdd_within _ _ _ _))
  | vpaddFp f => exact simdOp_effect h (pairwise_change fun _ _ => Lane.cumulative_of_fp (fpAdd_within _ _))
  | vpmaxFp f | vpminFp f =>
    exact simdOp_effect h (pairwise_change fun _ _ => Lane.cumulative_of_fp (fpMaxMin_within _ _ _))
  | vrintnAsimd f | vrintxAsimd f | vrintaAsimd f | vrintzAsimd f | vrintmAsimd f | vrintpAsimd f =>
    exact simdOp_effect h (unary_change fun _ => Lane.cumulative_of_fp (fpRoundInt_within _ _ _))
  | vcvtaAsimd f | vcvtnAsimd f | vcvtpAsimd f | vcvtmAsimd f =>
    exact simdOp_effect h (unary_change fun _ => Lane.cumulative_of_fp (fpToFixed_within _ _ _ _))
  | vcvtFpIntAsimd f | vcvtFpFixedAsimd f =>
    exact simdOp_effect h (unary_change fun _ =>
      Lane.cumulative_of_fp (within_ite (fpToFixed_within _ _ _ _) (fpFromFixed_within _ _ _)))
  | vcvtSpToHp f => exact simdOp_effect h (unary_change fun _ => Lane.cumulative_of_fp (fpToHalf_within _ _))
  | vcvtHpToSp f => exact simdOp_effect h (unary_change fun _ => Lane.cumulative_of_fp (fpFromHalf_within _ _))
  -- Rows where a bit of the word selects integer or floating-point lanes.
  | vcgtImm0 f | vcgeImm0 f | vceqImm0 f | vcleImm0 f | vcltImm0 f =>
    exact simdOp_effect h (unary_change_either (fun _ => Lane.cumulative_of_fp (fpCompare_within _ _ _))
      (fun _ => plain_cumulative _))
  | vabs f | vneg f =>
    exact simdOp_effect h (unary_change_either (fun _ => plain_cumulative _) (fun _ => plain_cumulative _))
  | vrecpe f =>
    exact simdOp_effect h (unary_change_either (fun _ => Lane.cumulative_of_fp (fpRecipEstimate_within _))
      (fun _ => plain_cumulative _))
  | vrsqrte f =>
    exact simdOp_effect h (unary_change_either (fun _ => Lane.cumulative_of_fp (fpRecipSqrtEstimate_within _))
      (fun _ => plain_cumulative _))
  | vmlaScalar f | vmlsScalar f =>
    exact simdOp_effect h (accumulateOne_change fun _ _ =>
      within_ite (Lane.cumulative_of_fp (fpMulThenAdd_within _ _ _ _)) (plain_cumulative _))
  | vmulScalar f =>
    exact simdOp_effect h (unary_change fun _ =>
      within_ite (Lane.cumulative_of_fp (fpMul_within _ _)) (plain_cumulative _))

/-- Everything a step can answer with a next state. -/
theorem step_next {s t : State} (h : step s = .next t) :
    ∃ w i, s.Fetches w ∧ decode w = .instr i ∧ exec i s = .next t := by
  unfold step at h
  split at h
  · exact nomatch h
  · next hpc =>
    split at h
    · exact absurd h (raise_ne_next _ _)
    · next w hw =>
      split at h
      · exact nomatch h
      · next i hi =>
        unfold runDecoded at h
        split at h
        · exact absurd h (raise_ne_next _ _)
        · split at h
          · exact absurd h (raise_ne_next _ _)
          · exact ⟨w, i, ⟨Decidable.not_not.mp hpc, hw⟩, hi, h⟩

end Sys2Proof.Machine
end

section
/-! What every step keeps: the pc, the fixed state, the status registers, memory, and the invariant (rules R21 to R28,
R106, R110, R111, R448). Each is read off the cases of `Effect`. -/

namespace Sys2Proof.Machine

/-! ## What an effect leaves alone -/

theorem transferEffect_fixed (L : BitVec 1) (Rn Rm : BitVec 4) (x : Transfer) (s : State) :
    SameFixed s (transferEffect L Rn Rm x s) := by
  unfold transferEffect
  split <;> simp [SameFixed]

@[simp] theorem transferEffect_cpsr (L : BitVec 1) (Rn Rm : BitVec 4) (x : Transfer) (s : State) :
    (transferEffect L Rn Rm x s).cpsr = s.cpsr := by
  unfold transferEffect
  split <;> simp

@[simp] theorem transferEffect_fpscr (L : BitVec 1) (Rn Rm : BitVec 4) (x : Transfer) (s : State) :
    (transferEffect L Rn Rm x s).fpscr = s.fpscr := by
  unfold transferEffect
  split <;> simp

@[simp] theorem transferEffect_reservation (L : BitVec 1) (Rn Rm : BitVec 4) (x : Transfer) (s : State) :
    (transferEffect L Rn Rm x s).reservation = s.reservation := by
  unfold transferEffect
  split <;> simp

/-- A load or store keeps the canonical form of data memory. -/
theorem transferEffect_wf (L : BitVec 1) (Rn Rm : BitVec 4) (x : Transfer) {s : State} (hm : Memory.wf s.mem = true) :
    Memory.wf (transferEffect L Rn Rm x s).mem = true := by
  unfold transferEffect
  split
  · simpa using hm
  · simpa using State.storeElems_wf s x.e (s.readReg Rn) x.elems hm

section
variable {i : Instr} {s u : State}

theorem Effect.pc (h : Effect i s u) : u.pc = s.pc := by
  cases h with
  | vector _ hv => obtain ⟨d, fl, n, -, rfl⟩ := hv; rfl
  | transfer L Rn Rm x => exact transferEffect_pc L Rn Rm x s
  | setpan | setend | cps | clrex | nop => rfl

theorem Effect.fixed (h : Effect i s u) : SameFixed s u := by
  cases h with
  | vector _ hv => obtain ⟨d, fl, n, -, rfl⟩ := hv; exact ⟨rfl, rfl, rfl, rfl, rfl⟩
  | transfer L Rn Rm x => exact transferEffect_fixed L Rn Rm x s
  | setpan | setend | cps | clrex | nop => exact ⟨rfl, rfl, rfl, rfl, rfl⟩

theorem Effect.flags (h : Effect i s u) : FlagsWithin (flagQC ||| fpFlags) s u := by
  have unchanged {u : State} (hu : u.fpscr = s.fpscr) : FlagsWithin (flagQC ||| fpFlags) s u :=
    ⟨0#32, by simp, by simp [hu]⟩
  cases h with
  | vector _ hv => obtain ⟨d, fl, n, hfl, rfl⟩ := hv; exact ⟨fl, hfl, rfl⟩
  | transfer L Rn Rm x => exact unchanged (transferEffect_fpscr L Rn Rm x s)
  | setpan | setend | cps | clrex | nop => exact unchanged rfl

theorem Effect.mem_wf (h : Effect i s u) (hm : Memory.wf s.mem = true) : Memory.wf u.mem = true := by
  cases h with
  | vector _ hv => obtain ⟨d, fl, n, -, rfl⟩ := hv; exact hm
  | transfer L Rn Rm x => exact transferEffect_wf L Rn Rm x hm
  | setpan | setend | cps | clrex | nop => exact hm

/-- Only a load or store reaches data memory or a general register (rules R21, R40). -/
theorem Effect.memory_general (h : Effect i s u) (hi : ¬LoadStore i) : SameMemory s u ∧ SameGeneral s u := by
  cases h with
  | vector _ hv => obtain ⟨d, fl, n, -, rfl⟩ := hv; exact ⟨fun _ => rfl, rfl, rfl, rfl, rfl⟩
  | transfer _ _ _ _ hls => exact absurd hls hi
  | setpan | setend | cps | clrex | nop => exact ⟨fun _ => rfl, rfl, rfl, rfl, rfl⟩

/-- Only CLREX changes the reservation (rules R28, R386). -/
theorem Effect.reservation (h : Effect i s u) (hi : ∀ f, i ≠ .clrex f) : u.reservation = s.reservation := by
  cases h with
  | vector _ hv => obtain ⟨d, fl, n, -, rfl⟩ := hv; rfl
  | transfer L Rn Rm x => exact transferEffect_reservation L Rn Rm x s
  | clrex f => exact absurd rfl (hi f)
  | setpan | setend | cps | nop => rfl

/-- Without access to the unit only the other instructions complete (rule R27). -/
theorem Effect.worksWithoutUnit (h : Effect i s u) (hs : s.simdEnabled = false) : worksWithoutUnit i = true := by
  cases h with
  | vector he | transfer _ _ _ _ _ he => exact absurd (hs.symm.trans he) Bool.false_ne_true
  | setpan | setend | cps | clrex => rfl
  | nop hi => exact hi

end

/-! ## The bits of CPSR -/

/-- A CPSR with one bit written. -/
theorem setCpsrBit_getLsbD (c : Word) {i : Nat} (hi : i < 32) (v : Bool) (b : Nat) :
    (setCpsrBit c i v).getLsbD b = if b = i then v else c.getLsbD b := by
  have hone : (1#32 <<< i).getLsbD b = decide (b = i) := by
    rw [BitVec.getLsbD_shiftLeft, BitVec.getLsbD_one]
    grind
  have hb : b = i → b < 32 := fun h => h ▸ hi
  unfold setCpsrBit
  cases v with
  | true => by_cases h : b = i <;> simp [hone, h, hi]
  | false =>
    by_cases h : b = i
    · simp [h]
    · simp only [Bool.false_eq_true, if_false, BitVec.getLsbD_and, BitVec.getLsbD_not, hone, h, decide_false,
        Bool.not_false, Bool.and_true]
      by_cases h32 : b < 32
      · simp [h32]
      · simp [h32, BitVec.getLsbD_of_ge _ _ (Nat.le_of_not_lt h32)]

/-- The selected masks are written and every other bit is kept. -/
theorem setCpsrMasks_getLsbD (c : Word) (a i f v : Bool) (b : Nat) :
    (setCpsrMasks c a i f v).getLsbD b =
      if (b = 8 ∧ a = true) ∨ (b = 7 ∧ i = true) ∨ (b = 6 ∧ f = true) then v else c.getLsbD b := by
  have bit (c : Word) (k : Nat) (hk : k < 32) (sel : Bool) :
      (if sel = true then setCpsrBit c k v else c).getLsbD b = if b = k ∧ sel = true then v else c.getLsbD b := by
    cases sel <;> simp [setCpsrBit_getLsbD _ hk]
  simp only [setCpsrMasks, bit _ 8 (by decide), bit _ 7 (by decide), bit _ 6 (by decide)]
  grind

/-- The low five bits are the mode and every other bit is kept. -/
theorem setCpsrMode_getLsbD (c : Word) (m : BitVec 5) (b : Nat) :
    (setCpsrMode c m).getLsbD b = if b < 5 then m.getLsbD b else c.getLsbD b := by
  rw [setCpsrMode, BitVec.getLsbD_append]
  split
  · rfl
  · next h =>
    rw [BitVec.getLsbD_extractLsb', Nat.add_sub_cancel' (Nat.le_of_not_lt h)]
    by_cases h32 : b < 32
    · simp [show b - 5 < 27 by omega]
    · simp [BitVec.getLsbD_of_ge c b (Nat.le_of_not_lt h32)]

/-- Every bit of the CPSR that CPS leaves (rules R24, R106, R110). -/
theorem cpsResult_getLsbD (f : FCps) (c : Word) (b : Nat) :
    (cpsResult f c).getLsbD b =
      if b < 5 ∧ f.M = 1#1 then f.mode.getLsbD b
      else if f.imod.getLsbD 1 = true ∧ ((b = 8 ∧ f.A = 1#1) ∨ (b = 7 ∧ f.I = 1#1) ∨ (b = 6 ∧ f.F = 1#1)) then
        f.imod.getLsbD 0
      else c.getLsbD b := by
  have masks : (if f.imod.getLsbD 1 = true then
        setCpsrMasks c (isSet f.A) (isSet f.I) (isSet f.F) (f.imod.getLsbD 0) else c).getLsbD b =
      if f.imod.getLsbD 1 = true ∧ ((b = 8 ∧ f.A = 1#1) ∨ (b = 7 ∧ f.I = 1#1) ∨ (b = 6 ∧ f.F = 1#1)) then
        f.imod.getLsbD 0
      else c.getLsbD b := by
    cases f.imod.getLsbD 1 <;> simp [setCpsrMasks_getLsbD, isSet]
  unfold cpsResult
  by_cases hM : f.M = 1#1
  · simp only [isSet, hM, beq_self_eq_true, if_true, setCpsrMode_getLsbD, and_true]
    split
    · rfl
    · exact masks
  · simpa [isSet, hM] using masks

/-- Two CPSRs with the same low five bits name the same mode. -/
theorem modeBits_congr {s t : State} (h : ∀ b, b < 5 → t.cpsr.getLsbD b = s.cpsr.getLsbD b) :
    t.modeBits = s.modeBits := by
  apply BitVec.eq_of_getLsbD_eq
  intro b hb
  simp only [State.modeBits, BitVec.getLsbD_extractLsb', hb, Nat.zero_add, h b hb]

/-- The mode field that CPS leaves. -/
theorem extractLsb'_cpsResult (f : FCps) (c : Word) :
    (cpsResult f c).extractLsb' 0 5 = if f.M = 1#1 then f.mode else c.extractLsb' 0 5 := by
  apply BitVec.eq_of_getLsbD_eq
  intro b hb
  rw [BitVec.getLsbD_extractLsb', Nat.zero_add, cpsResult_getLsbD]
  by_cases hM : f.M = 1#1
  · simp [hM, hb]
  · rw [if_neg (fun h => hM h.2), if_neg (by omega), if_neg hM, BitVec.getLsbD_extractLsb', Nat.zero_add]

section
variable {i : Instr} {s u : State}

/-- Of CPSR at most PAN, E, A, I, F and the mode change (rules R23 to R25). -/
theorem Effect.cpsr_other (h : Effect i s u) {b : Nat} (hb : b = 5 ∨ (9 < b ∧ b ≠ 22)) :
    u.cpsr.getLsbD b = s.cpsr.getLsbD b := by
  cases h with
  | vector _ hv => obtain ⟨d, fl, n, -, rfl⟩ := hv; rfl
  | transfer L Rn Rm x => rw [transferEffect_cpsr]
  | setpan => exact (setCpsrBit_getLsbD _ (by decide) _ _).trans (if_neg (by omega))
  | setend => exact (setCpsrBit_getLsbD _ (by decide) _ _).trans (if_neg (by omega))
  | cps => exact (cpsResult_getLsbD _ _ _).trans (by rw [if_neg (by omega), if_neg (by omega)])
  | clrex | nop => rfl

/-- Of CPSR at most E changes in User mode (rules R106, R110, R448). -/
theorem Effect.cpsr_user (h : Effect i s u) (hs : s.unprivileged = true) {b : Nat} (hb : b ≠ 9) :
    u.cpsr.getLsbD b = s.cpsr.getLsbD b := by
  cases h with
  | vector _ hv => obtain ⟨d, fl, n, -, rfl⟩ := hv; rfl
  | transfer L Rn Rm x => rw [transferEffect_cpsr]
  | setend => exact (setCpsrBit_getLsbD _ (by decide) _ _).trans (if_neg hb)
  | setpan _ _ hp | cps _ hp => exact absurd (hp.symm.trans hs) Bool.false_ne_true
  | clrex | nop => rfl

/-- The mode field stays, or a CPS with M = 1 in a privileged mode writes it (rules R24, R106, R110). -/
theorem Effect.modeBits (h : Effect i s u) :
    u.modeBits = s.modeBits ∨ (s.unprivileged = false ∧ ∃ f, i = .cps f ∧ f.M = 1#1 ∧ u.modeBits = f.mode) := by
  cases h with
  | vector _ hv => obtain ⟨d, fl, n, -, rfl⟩ := hv; exact .inl rfl
  | transfer L Rn Rm x => exact .inl (modeBits_congr fun _ _ => by rw [transferEffect_cpsr])
  | setpan | setend =>
    exact .inl (modeBits_congr fun b _ => (setCpsrBit_getLsbD _ (by decide) _ _).trans (if_neg (by omega)))
  | cps f hp =>
    have hmode := extractLsb'_cpsResult f s.cpsr
    split at hmode
    · next hM => exact .inr ⟨hp, f, rfl, hM, hmode⟩
    · exact .inl hmode
  | clrex | nop => exact .inl rfl

end

/-! ## The statements about a step -/

/-- A step that answers a next state is the effect of the instruction fetched, with the pc moved on. -/
theorem step_effect {s t : State} (h : step s = .next t) :
    ∃ w i u, s.Fetches w ∧ decode w = .instr i ∧ Effect i s u ∧ s.HasSuccessor ∧ t = { u with pc := s.pc + 4#32 } := by
  obtain ⟨w, i, hw, hi, he⟩ := step_next h
  obtain ⟨u, hu, ha⟩ := exec_effect he
  obtain ⟨hsucc, ht⟩ := advance_next.mp ha
  rw [State.HasSuccessor, hu.pc] at hsucc
  exact ⟨w, i, u, hw, hi, hu, hsucc, hu.pc ▸ ht⟩

/-- pc + 4 is aligned as pc is, whether or not it fits in 32 bits (rule R22). -/
theorem pc_add_four_aligned {p : Word} (h : p.toNat % 4 = 0) : (p + 4#32).toNat % 4 = 0 := by
  rw [BitVec.toNat_add, BitVec.toNat_ofNat]
  omega

/-- Settles O14: the invariant and the mode field, by the cases of the effect. -/
theorem stepKeepsTheInvariant : Obligations.StepKeepsTheInvariant := by
  intro s t h
  obtain ⟨w, i, u, hw, hi, hu, -, rfl⟩ := step_effect h
  refine ⟨fun ⟨hpc, hmem⟩ => ⟨pc_add_four_aligned hpc, hu.mem_wf hmem⟩, ?mode⟩
  case mode =>
    obtain hsame | ⟨hp, f, rfl, hM, hmode⟩ := hu.modeBits
    · exact .inl hsame
    · exact .inr ⟨hp, w, f, hw, hi, hM, hmode⟩

/-- Settles O16: no effect moves the pc or writes the fixed state. -/
theorem stepsAreSequentialAndKeepFixedState : Obligations.StepsAreSequentialAndKeepFixedState := by
  intro s t h
  obtain ⟨w, i, u, -, -, hu, hsucc, rfl⟩ := step_effect h
  exact ⟨hsucc, rfl, hu.fixed⟩

/-- Settles O17: the flags of an effect are cumulative, and SETPAN, SETEND and CPS alone write CPSR. -/
theorem statusRegistersKeepTheirOtherBits : Obligations.StatusRegistersKeepTheirOtherBits := by
  intro s t h
  obtain ⟨w, i, u, -, -, hu, -, rfl⟩ := step_effect h
  exact ⟨hu.flags, fun _ hb => hu.cpsr_other hb, fun hs _ hb => hu.cpsr_user hs hb⟩

/-- Settles O18: the frame of each effect, and the equation of CLREX. -/
theorem onlyLoadsAndStoresReachMemory : Obligations.OnlyLoadsAndStoresReachMemory := by
  intro i s t h
  obtain ⟨u, hu, ha⟩ := exec_effect h
  obtain ⟨-, rfl⟩ := advance_next.mp ha
  refine ⟨fun hmult hall hone => hu.memory_general ?notLoadStore, hu.reservation, ?clrex⟩
  case notLoadStore =>
    rintro (⟨f, rfl⟩ | ⟨f, rfl⟩ | ⟨f, rfl⟩)
    · exact hmult f rfl
    · exact hall f rfl
    · exact hone f rfl
  case clrex =>
    rintro ⟨f, rfl⟩
    have hclrex : advance (clearMonitor s) = .next { u with pc := u.pc + 4#32 } := h
    rw [(advance_next.mp hclrex).2]
    rfl

/-! ## The Advanced SIMD unit -/

/-- No word of the data-processing diagrams decodes to an instruction outside the unit. -/
theorem worksWithoutUnit_decodeSimdData (w : Word) : worksWithoutUnit (decodeSimdData w) = false := by
  simp only [decodeSimdData, decodeThreeSame, decodeTwoRegThreeDiff, decodeTwoRegMisc, decodeDup, decodeThreeDiff,
    decodeTwoRegScalar, decodeShiftImm, decodeOneRegImm, decodeTwoRegShift, apply_ite worksWithoutUnit]
  simp only [worksWithoutUnit, ite_self]

theorem worksWithoutUnit_decodeLdSt (w : Word) : worksWithoutUnit (decodeLdSt w) = false := by
  simp only [decodeLdSt, apply_ite worksWithoutUnit]
  simp only [worksWithoutUnit, ite_self]

/-- A part of a field is a field. -/
theorem extractLsb'_bits (w : Word) (lo len : Nat) {k m : Nat} (h : k + m ≤ len) :
    (bits w lo len).extractLsb' k m = bits w (lo + k) m := by
  apply BitVec.eq_of_getLsbD_eq
  intro b hb
  simp only [bits, BitVec.getLsbD_extractLsb', hb, show k + b < len by omega, decide_true, Bool.true_and, Nat.add_assoc]

/-- The words of the Advanced SIMD diagrams reach the tables of the unit (rules R83, R84, R420). -/
theorem decode_vectorWord {w : Word} {i : Instr}
    (hw : bits w 25 7 = 0b1111001#7 ∨ (bits w 24 8 = 0b11110100#8 ∧ bits w 20 1 = 0#1)) (hi : decode w = .instr i) :
    i = decodeSimdData w ∨ i = decodeLdSt w := by
  have hi' : i = decodeTop w := by
    unfold decode at hi
    split at hi
    · exact (Decoded.instr.inj hi).symm
    · exact nomatch hi
  obtain hdata | ⟨hldst, h20⟩ := hw
  · have hop0 : bits w 25 2 = 0b01#2 := (extractLsb'_bits w 25 7 (k := 0) (by decide)).symm.trans (hdata ▸ rfl)
    exact .inl (by simp [hi', decodeTop, FTop.ofWord, hop0])
  · have hop0 : bits w 25 2 = 0b10#2 := (extractLsb'_bits w 24 8 (k := 1) (by decide)).symm.trans (hldst ▸ rfl)
    have h24 : bits w 24 1 = 0b0#1 := (extractLsb'_bits w 24 8 (k := 0) (by decide)).symm.trans (hldst ▸ rfl)
    exact .inr (by simp [hi', decodeTop, FTop.ofWord, hop0, h20, h24])

theorem cpacrPermits_iff (field : BitVec 2) (unprivileged : Bool) :
    cpacrPermits field unprivileged = true ↔ field = 0b11#2 ∨ (field = 0b01#2 ∧ unprivileged = false) := by
  simp [cpacrPermits]

theorem simdEnabled_iff (s : State) :
    s.simdEnabled = true ↔
      (∀ field ∈ [s.ctl.cpacrCp10, s.ctl.cpacrCp11], field = 0b11#2 ∨ (field = 0b01#2 ∧ s.unprivileged = false)) ∧
        s.ctl.fpexcEn = true ∧
        (s.ctl.scrNs = true →
          s.ctl.nsacrCp10 = true ∧ s.ctl.nsacrCp11 = true ∧ s.ctl.hcptrTcp10 = false ∧ s.ctl.hcptrTcp11 = false) := by
  simp only [State.simdEnabled, Bool.and_eq_true, cpacrPermits_iff, List.forall_mem_cons, List.not_mem_nil,
    false_implies, implies_true, and_true]
  cases s.ctl.scrNs <;> simp [and_assoc, and_comm, and_left_comm]

/-- Settles O19: what completes with the unit disabled is outside the tables that a vector word reaches. -/
theorem disabledUnitStopsEveryVectorWord : Obligations.DisabledUnitStopsEveryVectorWord := by
  refine ⟨fun w i s t hw hi hs h => ?_, simdEnabled_iff⟩
  obtain ⟨u, hu, -⟩ := exec_effect h
  have hout := hu.worksWithoutUnit hs
  obtain rfl | rfl := decode_vectorWord hw hi
  · exact absurd (hout.symm.trans (worksWithoutUnit_decodeSimdData w)) (by decide)
  · exact absurd (hout.symm.trans (worksWithoutUnit_decodeLdSt w)) (by decide)

end Sys2Proof.Machine
end

section
/-! The general registers and their banks (rules R21, R24), and the system instructions that write CPSR (rules R101,
R105, R106, R110). -/

namespace Sys2Proof.Machine

/-! ## General registers -/

theorem SpBank.get_set (b : SpBank) (m o : Mode) (v : Word) :
    (b.set m v).get o = if m = o ∨ (m ∈ [Mode.usr, .sys] ∧ o ∈ [Mode.usr, .sys]) then v else b.get o := by
  cases m <;> cases o <;> rfl

theorem LrBank.get_set (b : LrBank) (m o : Mode) (v : Word) :
    (b.set m v).get o = if m = o ∨ (m ∈ [Mode.usr, .sys, .hyp] ∧ o ∈ [Mode.usr, .sys, .hyp]) then v else b.get o := by
  cases m <;> cases o <;> rfl

/-- Reading a vector register file after writing it, as `readReg` and `writeReg` index it. -/
theorem getD_setIfInBounds {n : Nat} (x : Vector Word n) (i j : Nat) (v : Word) :
    (x.setIfInBounds i v).toArray.getD j 0#32 = if j = i ∧ i < n then v else x.toArray.getD j 0#32 := by
  simp only [Vector.toArray_setIfInBounds, Array.getD_eq_getD_getElem?, Array.getElem?_setIfInBounds,
    Vector.size_toArray]
  by_cases h : i = j
  · subst h
    by_cases hn : i < n <;> simp [hn]
  · simp [h, Ne.symm h]

/-- Which of the four places register `n` has in a mode: R14, R13, FIQ's own R8 to R12, and the common R0 to R12. -/
inductive RegisterPlace (n : BitVec 4) (m : Mode) : Prop
  | lr (h : n = 14#4)
  | sp (h : n = 13#4)
  | fiq (h8 : 8 ≤ n.toNat) (h13 : n.toNat < 13) (hm : m = .fiq)
  | common (h13 : n.toNat < 13) (hm : ¬(m = .fiq ∧ 8 ≤ n.toNat))

theorem registerPlace {n : BitVec 4} (h : n ≠ 15#4) (m : Mode) : RegisterPlace n m := by
  by_cases h14 : n = 14#4
  · exact .lr h14
  by_cases h13 : n = 13#4
  · exact .sp h13
  have hlt : n.toNat < 13 := by bv_omega
  by_cases hf : m = .fiq ∧ 8 ≤ n.toNat
  · exact .fiq hf.2 hlt hf.1
  · exact .common hlt hf

/-- The numbers below 13 are none of R13 to R15. -/
theorem ne_of_lt_13 {n : BitVec 4} (h : n.toNat < 13) : n ≠ 15#4 ∧ n ≠ 14#4 ∧ n ≠ 13#4 := by
  refine ⟨?_, ?_, ?_⟩ <;> (rintro rfl; exact absurd h (by decide))

section
variable (s : State) (n : BitVec 4) (v : Word)

/-- Where `writeReg` writes, as one equation for each of the four places. -/
theorem State.writeReg_eq :
    s.writeReg n v =
      { s with
        lr := if n = 14#4 then s.lr.set s.mode v else s.lr
        sp := if n = 13#4 then s.sp.set s.mode v else s.sp
        rFiq := if n.toNat < 13 ∧ s.mode = .fiq ∧ 8 ≤ n.toNat then s.rFiq.setIfInBounds (n.toNat - 8) v else s.rFiq
        r := if n.toNat < 13 ∧ ¬(s.mode = .fiq ∧ 8 ≤ n.toNat) then s.r.setIfInBounds n.toNat v else s.r } := by
  by_cases hn : n = 15#4
  · subst hn; rfl
  unfold State.writeReg
  cases registerPlace hn s.mode with
  | lr h => subst h; rfl
  | sp h => subst h; rfl
  | fiq h8 h13 hm =>
    obtain ⟨h15, h14, hsp⟩ := ne_of_lt_13 h13
    simp [h15, h14, hsp, h8, h13, hm]
  | common h13 hm =>
    obtain ⟨h15, h14, hsp⟩ := ne_of_lt_13 h13
    simp only [h15, h14, hsp, h13, hm, if_false, true_and, not_false_eq_true, if_true]

theorem State.writeReg_lr : (s.writeReg n v).lr = if n = 14#4 then s.lr.set s.mode v else s.lr := by
  rw [State.writeReg_eq]

theorem State.writeReg_sp : (s.writeReg n v).sp = if n = 13#4 then s.sp.set s.mode v else s.sp := by
  rw [State.writeReg_eq]

theorem State.writeReg_rFiq :
    (s.writeReg n v).rFiq =
      if n.toNat < 13 ∧ s.mode = .fiq ∧ 8 ≤ n.toNat then s.rFiq.setIfInBounds (n.toNat - 8) v else s.rFiq := by
  rw [State.writeReg_eq]

theorem State.writeReg_r :
    (s.writeReg n v).r =
      if n.toNat < 13 ∧ ¬(s.mode = .fiq ∧ 8 ≤ n.toNat) then s.r.setIfInBounds n.toNat v else s.r := by
  rw [State.writeReg_eq]

end

section
variable {s : State} {n : BitVec 4}

theorem State.readReg_lr (s : State) : s.readReg 14#4 = s.lr.get s.mode := rfl

theorem State.readReg_sp (s : State) : s.readReg 13#4 = s.sp.get s.mode := rfl

theorem State.readReg_fiq (h13 : n.toNat < 13) (hm : s.mode = .fiq ∧ 8 ≤ n.toNat) :
    s.readReg n = s.rFiq.toArray.getD (n.toNat - 8) 0#32 := by
  obtain ⟨h15, h14, hsp⟩ := ne_of_lt_13 h13
  rw [State.readReg, if_neg h15, if_neg h14, if_neg hsp, if_pos hm]

theorem State.readReg_common (h13 : n.toNat < 13) (hm : ¬(s.mode = .fiq ∧ 8 ≤ n.toNat)) :
    s.readReg n = s.r.toArray.getD n.toNat 0#32 := by
  obtain ⟨h15, h14, hsp⟩ := ne_of_lt_13 h13
  rw [State.readReg, if_neg h15, if_neg h14, if_neg hsp, if_neg hm]

end

/-- Two states in one mode and at one pc read register `k` alike where its place there has the same content. -/
theorem State.readReg_congr {t u : State} {k : BitVec 4} (hpc : t.pc = u.pc) (hmode : t.mode = u.mode)
    (hlr : k = 14#4 → t.lr.get u.mode = u.lr.get u.mode) (hsp : k = 13#4 → t.sp.get u.mode = u.sp.get u.mode)
    (hfiq : u.mode = .fiq → 8 ≤ k.toNat →
      t.rFiq.toArray.getD (k.toNat - 8) 0#32 = u.rFiq.toArray.getD (k.toNat - 8) 0#32)
    (hr : ¬(u.mode = .fiq ∧ 8 ≤ k.toNat) → t.r.toArray.getD k.toNat 0#32 = u.r.toArray.getD k.toNat 0#32) :
    t.readReg k = u.readReg k := by
  unfold State.readReg
  rw [hpc, hmode]
  split
  · rfl
  · split
    · next h => exact hlr h
    · split
      · next h => exact hsp h
      · split
        · next h => exact hfiq h.1 h.2
        · next h => exact hr h

section
variable {n : BitVec 4} {m o : Mode}

theorem sharesRegister_lr :
    SharesRegister 14#4 m o ↔ m = o ∨ (m ∈ [Mode.usr, .sys, .hyp] ∧ o ∈ [Mode.usr, .sys, .hyp]) := by
  simp [SharesRegister]

theorem sharesRegister_sp : SharesRegister 13#4 m o ↔ m = o ∨ (m ∈ [Mode.usr, .sys] ∧ o ∈ [Mode.usr, .sys]) := by
  simp [SharesRegister]

theorem sharesRegister_fiq (h8 : 8 ≤ n.toNat) (h13 : n.toNat < 13) : SharesRegister n .fiq o ↔ o = .fiq := by
  obtain ⟨-, hlr, hsp⟩ := ne_of_lt_13 h13
  simp [SharesRegister, hlr, hsp, eq_comm, Nat.not_lt.mpr h8]

theorem sharesRegister_common (h13 : n.toNat < 13) (hm : ¬(m = .fiq ∧ 8 ≤ n.toNat)) :
    SharesRegister n m o ↔ ¬(o = .fiq ∧ 8 ≤ n.toNat) := by
  obtain ⟨-, hlr, hsp⟩ := ne_of_lt_13 h13
  by_cases h8 : 8 ≤ n.toNat
  · have hmf : m ≠ .fiq := fun h => hm ⟨h, h8⟩
    simp only [SharesRegister, hlr, hsp, h8, Nat.not_lt.mpr h8, h13, hmf, false_and, or_false, false_or, true_and,
      ne_eq, not_false_eq_true, and_true, or_iff_right_iff_imp]
    rintro rfl
    exact hmf
  · simp [SharesRegister, h8, Nat.lt_of_not_le h8]

end

section
variable {s t u : State} {n k : BitVec 4} {v : Word}

/-- A register written is read in a mode that shares it. -/
theorem State.readReg_writeReg_shared (ht : SameGeneral (s.writeReg n v) t) (hn : n ≠ 15#4)
    (h : SharesRegister n s.mode t.mode) : t.readReg n = v := by
  obtain ⟨hr, hfiq, hsp, hlr⟩ := ht
  cases registerPlace hn s.mode with
  | lr hn =>
    subst hn
    rw [State.readReg_lr, hlr, State.writeReg_lr, if_pos rfl, LrBank.get_set, if_pos (sharesRegister_lr.mp h)]
  | sp hn =>
    subst hn
    rw [State.readReg_sp, hsp, State.writeReg_sp, if_pos rfl, SpBank.get_set, if_pos (sharesRegister_sp.mp h)]
  | fiq h8 h13 hm =>
    rw [hm, sharesRegister_fiq h8 h13] at h
    rw [State.readReg_fiq h13 ⟨h, h8⟩, hfiq, State.writeReg_rFiq, if_pos ⟨h13, hm, h8⟩, getD_setIfInBounds,
      if_pos ⟨rfl, by omega⟩]
  | common h13 hm =>
    rw [sharesRegister_common h13 hm] at h
    rw [State.readReg_common h13 h, hr, State.writeReg_r, if_pos ⟨h13, hm⟩, getD_setIfInBounds, if_pos ⟨rfl, h13⟩]

/-- The other registers, and the register itself in a mode that does not share it, keep their values. -/
theorem State.readReg_writeReg_other (ht : SameGeneral (s.writeReg n v) t) (hu : SameGeneral s u) (hpc : t.pc = u.pc)
    (hmode : t.mode = u.mode) (h : k = n → ¬SharesRegister n s.mode u.mode) : t.readReg k = u.readReg k := by
  obtain ⟨tr, tfiq, tsp, tlr⟩ := ht
  obtain ⟨ur, ufiq, usp, ulr⟩ := hu
  refine State.readReg_congr hpc hmode (fun hk => ?lr) (fun hk => ?sp) (fun ho h8 => ?fiq) (fun ho => ?common)
  case lr =>
    rw [tlr, ulr, State.writeReg_lr]
    split
    · next hn =>
      subst hn
      rw [LrBank.get_set, if_neg fun hs => h hk (sharesRegister_lr.mpr hs)]
    · rfl
  case sp =>
    rw [tsp, usp, State.writeReg_sp]
    split
    · next hn =>
      subst hn
      rw [SpBank.get_set, if_neg fun hs => h hk (sharesRegister_sp.mpr hs)]
    · rfl
  case fiq =>
    rw [tfiq, ufiq, State.writeReg_rFiq]
    split
    · next hw =>
      obtain ⟨h13, hm, hn8⟩ := hw
      rw [getD_setIfInBounds, if_neg]
      rintro ⟨hi, -⟩
      have hk : k = n := by bv_omega
      exact h hk (by rw [hm, sharesRegister_fiq hn8 h13]; exact ho)
    · rfl
  case common =>
    rw [tr, ur, State.writeReg_r]
    split
    · next hw =>
      obtain ⟨h13, hm⟩ := hw
      rw [getD_setIfInBounds, if_neg]
      rintro ⟨hi, -⟩
      have hk : k = n := BitVec.eq_of_toNat_eq hi
      exact h hk ((sharesRegister_common h13 hm).mpr (hk ▸ ho))
    · rfl

end

/-- Settles O22: a write and a read of a register meet where the two modes share it. -/
theorem generalRegistersReadBackAndAreBanked : Obligations.GeneralRegistersReadBackAndAreBanked := by
  intro s n k v c other
  have refl (u : State) : SameGeneral u u := ⟨rfl, rfl, rfl, rfl⟩
  have mode_writeReg : (s.writeReg n v).mode = s.mode := by simp [State.mode, State.modeBits]
  refine ⟨⟨fun hn => ?back, fun hk => ?others, rfl⟩, ?banked⟩
  case back => exact State.readReg_writeReg_shared (refl _) hn (mode_writeReg ▸ .inl rfl)
  case others => exact State.readReg_writeReg_other (refl _) (refl s) (by simp) mode_writeReg (absurd · hk)
  case banked =>
    rintro hn rfl
    have ht : SameGeneral (s.writeReg n v) { s.writeReg n v with cpsr := c } := refl _
    exact ⟨State.readReg_writeReg_shared ht hn,
      fun h => State.readReg_writeReg_other ht (u := { s with cpsr := c }) (refl s) (by simp) rfl fun _ => h⟩

/-! ## CPS, SETEND and SETPAN -/

/-- An instruction that goes on with the state `u`. -/
theorem completes_advance {i : Instr} {s u : State} {P : State → Prop} (he : exec i s = advance u)
    (hs : s.HasSuccessor) (hpc : u.pc = s.pc) (hP : P { u with pc := s.pc + 4#32 }) : Completes i s P :=
  ⟨_, he.trans (advance_next.mpr ⟨by rwa [State.HasSuccessor, hpc], by rw [hpc]⟩), hP⟩

theorem exec_cps_notAllowed {f : FCps} (s : State) (h : cpsNotAllowed f = true) :
    exec (.cps f) s = .fault .constrainedUnpredictable := if_pos h

theorem exec_cps_user {f : FCps} {s : State} (h : cpsNotAllowed f = false) (hs : s.unprivileged = true) :
    exec (.cps f) s = advance s := by
  change execCps f s = _
  simp [execCps, h, hs]

theorem exec_cps_privileged {f : FCps} {s : State} (h : cpsNotAllowed f = false) (hs : s.unprivileged = false) :
    exec (.cps f) s = advance { s with cpsr := cpsResult f s.cpsr } := by
  change execCps f s = _
  simp [execCps, h, hs]

/-- The forms that rule R110 does not allow. -/
theorem cpsNotAllowed_iff (f : FCps) :
    cpsNotAllowed f = true ↔ f.imod = 0b01#2 ∨ (f.imod = 0b00#2 ∧ f.M = 0#1) := by
  have hM : isSet f.M = false ↔ f.M = 0#1 := by
    unfold isSet
    generalize f.M = m
    revert m
    decide
  simp [cpsNotAllowed, hM]

/-- Settles O23: the three outcomes of CPS, and every bit of the CPSR that the last leaves. -/
theorem cpsWritesMasksAndMode : Obligations.CpsWritesMasksAndMode := by
  intro f s
  refine ⟨fun hf => exec_cps_notAllowed s ((cpsNotAllowed_iff f).mpr hf), fun hf => ?_⟩
  have ha : cpsNotAllowed f = false := by
    rw [← Bool.not_eq_true, cpsNotAllowed_iff]
    rintro (h1 | ⟨h0, hM⟩) <;> simp_all
  refine ⟨fun hu hs => completes_advance (exec_cps_user ha hu) hs rfl rfl, fun hu hs =>
    completes_advance (exec_cps_privileged ha hu) hs rfl ⟨⟨_, rfl⟩, fun b _ => cpsResult_getLsbD f s.cpsr b, ?mode⟩⟩
  case mode =>
    intro m hM hm
    have hmode := (extractLsb'_cpsResult f s.cpsr).trans (if_pos hM)
    exact (congrArg actingMode hmode).trans (actingMode_of_listed hm)

theorem exec_setend_disabled (f : FCps) {s : State} (h : s.ctl.sctlrSed = true) :
    exec (.setend f) s = .fault .undefinedInstruction := if_pos h

theorem exec_setend (f : FCps) {s : State} (h : s.ctl.sctlrSed = false) :
    exec (.setend f) s = advance { s with cpsr := setCpsrBit s.cpsr 9 (isSet f.E) } :=
  if_neg (Bool.eq_false_iff.mp h)

theorem exec_setpan_user (g : FMisc) {s : State} (h : s.unprivileged = true) :
    exec (.setpan g) s = advance s := if_pos h

theorem exec_setpan_privileged (g : FMisc) {s : State} (h : s.unprivileged = false) :
    exec (.setpan g) s = advance { s with cpsr := setCpsrBit s.cpsr 22 (g.undrawn8.getLsbD 1) } :=
  if_neg (Bool.eq_false_iff.mp h)

/-- The immediate of SETPAN stands at w[9] (rules R63, R101). -/
theorem setpan_immediate (g : FMisc) : g.undrawn8.getLsbD 1 = g.toWord.getLsbD 9 := by
  have h := congrArg FMisc.undrawn8 g.ofWord_toWord
  rw [← h]
  simp [FMisc.ofWord, bits]

/-- Settles O24: one equation for each outcome, and the bits of a CPSR with one bit written. -/
theorem setendAndSetpanWriteOneBit : Obligations.SetendAndSetpanWriteOneBit := by
  intro f g s
  refine ⟨exec_setend_disabled f, fun hs => ⟨fun hd => ?setend, fun hp => ?privileged, fun hu => ?user⟩⟩
  case setend =>
    exact completes_advance (exec_setend f hd) hs rfl
      ⟨⟨_, rfl⟩, fun b _ => setCpsrBit_getLsbD s.cpsr (by decide) _ b⟩
  case privileged =>
    refine completes_advance (exec_setpan_privileged g hp) hs rfl ⟨⟨_, rfl⟩, fun b _ => ?_⟩
    rw [← setpan_immediate]
    exact setCpsrBit_getLsbD s.cpsr (by decide) _ b
  case user => exact completes_advance (exec_setpan_user g hu) hs rfl rfl

end Sys2Proof.Machine
end

section
/-! The fetch, which no step changes (rule R51), and an element of data memory read back in either byte order (rules
R10, R41). -/

namespace Sys2Proof.Machine

/-! ## The fetch -/

/-- A pc that is no multiple of 4 is refused, whatever instruction memory holds (rules R22, R441). -/
theorem step_of_misaligned {s : State} (h : s.pc.toNat % 4 ≠ 0) : step s = .refused .outsideScope := if_pos h

/-- Without a word at pc the step faults (rules R51, R441). -/
theorem step_of_fetch_none {s : State} (h : s.pc.toNat % 4 = 0) (hf : InstrMemory.fetch s.imem s.pc.toNat = none) :
    step s = .fault .fetchFault := by
  simp [step, h, hf, raise]

/-- Settles O12: the alignment is checked before the fetch, and instruction memory is part of the fixed state. -/
theorem fetchIsFixed : Obligations.FetchIsFixed := by
  refine ⟨fun s hpc m => step_of_misaligned hpc, fun s => step_of_fetch_none, fun s t h => ?_⟩
  obtain ⟨-, -, -, himem, -⟩ := stepsAreSequentialAndKeepFixedState s t h
  exact himem

/-! ## Bytes of a value -/

@[simp] theorem splitBytes_length {e : Nat} (x : BitVec e) : (splitBytes x).length = e / 8 := by simp [splitBytes]

/-- Byte `i` of a value, counted from the least significant one. -/
@[simp] theorem splitBytes_getElem {e : Nat} (x : BitVec e) (i : Nat) (h : i < (splitBytes x).length) :
    (splitBytes x)[i] = x.extractLsb' (8 * i) 8 := by simp [splitBytes]

/-- Bit `b` of joined bytes is bit `b % 8` of byte `b / 8`. -/
theorem joinBytes_getLsbD (e : Nat) (bs : List Byte) (b : Nat) :
    (joinBytes e bs).getLsbD b = (decide (b < e) && (bs.getD (b / 8) 0#8).getLsbD (b % 8)) := by
  induction bs generalizing b with
  | nil => simp [joinBytes]
  | cons c rest ih =>
    simp only [joinBytes, BitVec.getLsbD_or, BitVec.getLsbD_setWidth, BitVec.getLsbD_shiftLeft, ih]
    by_cases h8 : b < 8
    · simp [h8, Nat.div_eq_of_lt h8, Nat.mod_eq_of_lt h8]
    · obtain ⟨k, rfl⟩ := Nat.exists_eq_add_of_le' (Nat.le_of_not_lt h8)
      by_cases hb : k + 8 < e
      · simp [hb, Nat.lt_of_add_right_lt hb]
      · simp [hb]

/-- Splitting a value of whole bytes and joining them gives it back. -/
theorem joinBytes_splitBytes {e : Nat} (he : 8 ∣ e) (x : BitVec e) : joinBytes e (splitBytes x) = x := by
  apply BitVec.eq_of_getLsbD_eq
  intro b hb
  have hbyte : b / 8 < (splitBytes x).length := by rw [splitBytes_length]; omega
  rw [joinBytes_getLsbD, List.getD_eq_getElem?_getD, List.getElem?_eq_getElem hbyte, Option.getD_some,
    splitBytes_getElem, BitVec.getLsbD_extractLsb', Nat.div_add_mod]
  simp [hb, Nat.mod_lt]

/-- The order of memory, turned back, is the order of significance. -/
@[simp] theorem memoryOrder_memoryOrder (big : Bool) (bs : List Byte) : memoryOrder big (memoryOrder big bs) = bs := by
  cases big <;> simp [memoryOrder]

/-- Where byte `i` of significance stands in memory: at `i`, or with big-endian data at `i` from the end (rule R41). -/
theorem memoryOrder_getElem (big : Bool) (bs : List Byte) {i : Nat} (h : i < bs.length)
    (hk : (if big then bs.length - 1 - i else i) < (memoryOrder big bs).length) :
    (memoryOrder big bs)[if big then bs.length - 1 - i else i] = bs[i] := by
  cases big with
  | false => rfl
  | true =>
    have hi : bs.length - 1 - (bs.length - 1 - i) = i := by omega
    simp [memoryOrder, hi]

/-! ## Bytes stored and read -/

/-- A stored byte is read at its place, as long as the bytes do not go round the whole of memory
(notes/assumptions/9.md). -/
theorem State.byte_setBytes (s : State) (a : Word) (bs : List Byte) (hm : Memory.wf s.mem = true)
    (hlen : bs.length ≤ 2 ^ 32) {i : Nat} (hi : i < bs.length) :
    (s.setBytes a bs).byte (a + BitVec.ofNat 32 i) = bs[i] := by
  induction bs generalizing s a i with
  | nil => exact absurd hi (Nat.not_lt_zero i)
  | cons v rest ih =>
    rw [List.length_cons] at hlen
    have hm' := State.setByte_wf s a v hm
    cases i with
    | zero =>
      have hafter (j : Nat) (hj : j < rest.length) : a ≠ a + 1#32 + BitVec.ofNat 32 j := by
        bv_omega
      simpa [State.setBytes, State.byte_setBytes_other _ _ _ rest hm' hafter] using State.byte_setByte s a a v hm
    | succ j =>
      have hplace : a + BitVec.ofNat 32 (j + 1) = a + 1#32 + BitVec.ofNat 32 j := by
        rw [BitVec.ofNat_add, BitVec.add_assoc, BitVec.add_comm 1#32]
      rw [hplace]
      exact ih _ _ hm' (by omega) (Nat.lt_of_succ_lt_succ hi)

/-- The bytes stored are the bytes read. -/
theorem State.bytes_setBytes (s : State) (a : Word) (bs : List Byte) (hm : Memory.wf s.mem = true)
    (hlen : bs.length ≤ 2 ^ 32) : (s.setBytes a bs).bytes a bs.length = bs := by
  refine List.ext_getElem (by simp [State.bytes]) fun i _ hi => ?_
  simpa [State.bytes] using State.byte_setBytes s a bs hm hlen hi

/-! ## Elements -/

@[simp] theorem State.writeElem_bigEndian {e : Nat} (s : State) (a : Word) (x : BitVec e) :
    (s.writeElem a x).bigEndian = s.bigEndian := by simp [State.bigEndian]

section
variable (s : State) (a : Word) {e : Nat} (x : BitVec e)

/-- An element reads back where it was stored (rules R10, R41). -/
theorem State.readElem_writeElem (hm : Memory.wf s.mem = true) (he : 8 ∣ e) (hsize : e / 8 ≤ 2 ^ 32) :
    (s.writeElem a x).readElem e a = x := by
  have hlen : (memoryOrder s.bigEndian (splitBytes x)).length = e / 8 := by
    rw [memoryOrder_length, splitBytes_length]
  have hbytes : (s.writeElem a x).bytes a (e / 8) = memoryOrder s.bigEndian (splitBytes x) := by
    rw [← hlen]
    exact State.bytes_setBytes s a _ hm (hlen ▸ hsize)
  rw [State.readElem, State.writeElem_bigEndian, hbytes, memoryOrder_memoryOrder, joinBytes_splitBytes he]

/-- Where each byte of a stored element stands (rule R41). -/
theorem State.byte_writeElem (hm : Memory.wf s.mem = true) (hsize : e / 8 ≤ 2 ^ 32) {i : Nat} (hi : i < e / 8) :
    (s.writeElem a x).byte (a + BitVec.ofNat 32 (if s.bigEndian then e / 8 - 1 - i else i)) =
      x.extractLsb' (8 * i) 8 := by
  rw [← splitBytes_length x] at hsize hi ⊢
  have hk : (if s.bigEndian then (splitBytes x).length - 1 - i else i) <
      (memoryOrder s.bigEndian (splitBytes x)).length := by
    rw [memoryOrder_length]
    split <;> omega
  rw [State.writeElem, State.byte_setBytes s a _ hm (by rwa [memoryOrder_length]) hk, memoryOrder_getElem _ _ hi hk,
    splitBytes_getElem]

end

/-- Settles O21: the four widths are whole bytes and shorter than memory. -/
theorem storedElementsReadBack : Obligations.StoredElementsReadBack := by
  intro s a e x hm he
  have hwhole : 8 ∣ e := by omega
  have hsize : e / 8 ≤ 2 ^ 32 := by omega
  exact ⟨s.readElem_writeElem a x hm hwhole hsize, fun i hi => s.byte_writeElem a x hm hsize hi⟩

end Sys2Proof.Machine
end

section
/-! The fields of a word (rules R5, R60): fields beside each other and parts of a field, the fields that a mask fixes,
and the words that their records give back (rules R62 to R82). -/

namespace Sys2Proof

/-! ## Fields -/

/-- Two fields beside each other are one field. -/
theorem bits_append {w : Word} {hi lo m n : Nat} (h : hi = lo + n) : bits w hi m ++ bits w lo n = bits w lo (m + n) :=
  BitVec.extractLsb'_append_extractLsb'_eq_extractLsb' h

/-- The field of all bits is the word. -/
theorem bits_all (w : Word) : bits w 0 32 = w := BitVec.extractLsb'_eq_self

/-- A part of a field is a field. -/
theorem extractLsb'_bits (w : Word) (lo len : Nat) {k n : Nat} (h : k + n ≤ len) :
    (bits w lo len).extractLsb' k n = bits w (lo + k) n := by
  apply BitVec.eq_of_getLsbD_eq
  intro i hi
  have hlt : k + i < len := by omega
  simp [bits, hi, hlt, Nat.add_assoc]

/-- The value of a field gives that of each of its parts. -/
theorem bits_of_bits {w : Word} {lo len : Nat} {v : BitVec len} (h : bits w lo len = v) {k n : Nat}
    (hk : k + n ≤ len) : bits w (lo + k) n = v.extractLsb' k n := by
  rw [← h, extractLsb'_bits w lo len hk]

/-- A field of a word under a mask. -/
theorem bits_and (w m : Word) (lo len : Nat) : bits (w &&& m) lo len = bits w lo len &&& bits m lo len :=
  BitVec.extractLsb'_and

section
variable {w m v : Word} {lo len : Nat}

/-- A word under a part of a mask. -/
theorem masked_of_masked (h : w &&& m = v) {m' : Word} (hm : m &&& m' = m') : w &&& m' = v &&& m' := by
  rw [← h, BitVec.and_assoc, hm]

/-- A word that a mask and a match take has the match's field wherever the mask covers the cell of the field (rule R8).
With numerals for `m` and the cell, `rfl` shows that it does. -/
theorem masked_bits_of_masked (h : w &&& m = v) {cell : BitVec len} (hm : bits m lo len &&& cell = cell := by rfl) :
    bits w lo len &&& cell = bits v lo len &&& cell := by
  rw [← h, bits_and, BitVec.and_assoc, hm]

/-- The same where the mask covers the whole field. -/
theorem bits_of_masked (h : w &&& m = v) (hm : bits m lo len = BitVec.allOnes len := by rfl) :
    bits w lo len = bits v lo len := by
  rw [← h, bits_and, hm, BitVec.and_allOnes]

/-- The word under the mask of a field of known value. -/
theorem masked_of_bits {x : BitVec len} (h : bits w lo len = x) :
    w &&& (BitVec.allOnes len).setWidth 32 <<< lo = x.setWidth 32 <<< lo := by
  subst h
  apply BitVec.eq_of_getLsbD_eq
  intro i hi
  by_cases hlo : i < lo
  · simp [hlo]
  · simp [hlo, hi, bits, Nat.add_sub_cancel' (Nat.le_of_not_lt hlo), Bool.and_comm]

end

/-! ## Cells

A cell of a decode table that tests a field under a mask rules out the cells that differ where both test (rules R7,
R8). -/

section
variable {n : Nat} {x m m' v y : BitVec n}

theorem ne_of_masked (h : x &&& m = v) (hy : y &&& m ≠ v) : x ≠ y := by
  rintro rfl
  exact hy h

theorem masked_ne_of_masked (h : x &&& m = v) (hy : y &&& m ≠ v &&& m') : x &&& m' ≠ y := by
  rintro rfl
  rw [BitVec.and_assoc, BitVec.and_comm m', ← BitVec.and_assoc, h] at hy
  exact hy rfl

end

/-- A one-bit field that is not 0 is 1. -/
theorem eq_one_of_ne_zero {b : BitVec 1} (h : b ≠ 0#1) : b = 1#1 := (BitVec.eq_zero_or_eq_one b).resolve_left h

/-! ## The word of its record

A word with the fixed bits of a diagram is the word of its record, if the diagram draws or names every other bit. -/

section
variable {w : Word}

theorem FTop.toWord_ofWord (h27 : bits w 27 5 = 0b11110#5) : (FTop.ofWord w).toWord = w := by
  have h : bits w 27 5 ++ bits w 25 2 ++ bits w 21 4 ++ bits w 20 1 ++ bits w 0 20 = w := by
    simp only [bits_append]
    exact bits_all w
  rwa [h27] at h

theorem FMisc.toWord_ofWord (h25 : bits w 25 7 = 0b1111000#7) : (FMisc.ofWord w).toWord = w := by
  have h : bits w 25 7 ++ bits w 20 5 ++ bits w 8 12 ++ bits w 4 4 ++ bits w 0 4 = w := by
    simp only [bits_append]
    exact bits_all w
  rwa [h25] at h

theorem FThreeSame.toWord_ofWord (h25 : bits w 25 7 = 0b1111001#7) (h23 : bits w 23 1 = 0b0#1) :
    (FThreeSame.ofWord w).toWord = w := by
  have h : bits w 25 7 ++ bits w 24 1 ++ bits w 23 1 ++ bits w 22 1 ++ bits w 20 2 ++ bits w 16 4 ++ bits w 12 4 ++
      bits w 8 4 ++ bits w 7 1 ++ bits w 6 1 ++ bits w 5 1 ++ bits w 4 1 ++ bits w 0 4 = w := by
    simp only [bits_append]
    exact bits_all w
  rwa [h25, h23] at h

theorem FTwoRegThreeDiff.toWord_ofWord (h25 : bits w 25 7 = 0b1111001#7) (h23 : bits w 23 1 = 0b1#1)
    (h4 : bits w 4 1 = 0b0#1) : (FTwoRegThreeDiff.ofWord w).toWord = w := by
  have h : bits w 25 7 ++ bits w 24 1 ++ bits w 23 1 ++ bits w 22 1 ++ bits w 20 2 ++ bits w 12 8 ++ bits w 10 2 ++
      bits w 7 3 ++ bits w 6 1 ++ bits w 5 1 ++ bits w 4 1 ++ bits w 0 4 = w := by
    simp only [bits_append]
    exact bits_all w
  rwa [h25, h23, h4] at h

theorem FTwoRegMisc.toWord_ofWord (h23 : bits w 23 9 = 0b111100111#9) (h20 : bits w 20 2 = 0b11#2)
    (h11 : bits w 11 1 = 0b0#1) (h4 : bits w 4 1 = 0b0#1) : (FTwoRegMisc.ofWord w).toWord = w := by
  have h : bits w 23 9 ++ bits w 22 1 ++ bits w 20 2 ++ bits w 18 2 ++ bits w 16 2 ++ bits w 12 4 ++ bits w 11 1 ++
      bits w 7 4 ++ bits w 6 1 ++ bits w 5 1 ++ bits w 4 1 ++ bits w 0 4 = w := by
    simp only [bits_append]
    exact bits_all w
  rwa [h23, h20, h11, h4] at h

theorem FDup.toWord_ofWord (h23 : bits w 23 9 = 0b111100111#9) (h20 : bits w 20 2 = 0b11#2)
    (h10 : bits w 10 2 = 0b11#2) (h4 : bits w 4 1 = 0b0#1) : (FDup.ofWord w).toWord = w := by
  have h : bits w 23 9 ++ bits w 22 1 ++ bits w 20 2 ++ bits w 16 4 ++ bits w 12 4 ++ bits w 10 2 ++ bits w 7 3 ++
      bits w 6 1 ++ bits w 5 1 ++ bits w 4 1 ++ bits w 0 4 = w := by
    simp only [bits_append]
    exact bits_all w
  rwa [h23, h20, h10, h4] at h

theorem FThreeDiff.toWord_ofWord (h25 : bits w 25 7 = 0b1111001#7) (h23 : bits w 23 1 = 0b1#1)
    (h6 : bits w 6 1 = 0b0#1) (h4 : bits w 4 1 = 0b0#1) : (FThreeDiff.ofWord w).toWord = w := by
  have h : bits w 25 7 ++ bits w 24 1 ++ bits w 23 1 ++ bits w 22 1 ++ bits w 20 2 ++ bits w 16 4 ++ bits w 12 4 ++
      bits w 8 4 ++ bits w 7 1 ++ bits w 6 1 ++ bits w 5 1 ++ bits w 4 1 ++ bits w 0 4 = w := by
    simp only [bits_append]
    exact bits_all w
  rwa [h25, h23, h6, h4] at h

theorem FTwoRegScalar.toWord_ofWord (h25 : bits w 25 7 = 0b1111001#7) (h23 : bits w 23 1 = 0b1#1)
    (h6 : bits w 6 1 = 0b1#1) (h4 : bits w 4 1 = 0b0#1) : (FTwoRegScalar.ofWord w).toWord = w := by
  have h : bits w 25 7 ++ bits w 24 1 ++ bits w 23 1 ++ bits w 22 1 ++ bits w 20 2 ++ bits w 16 4 ++ bits w 12 4 ++
      bits w 8 4 ++ bits w 7 1 ++ bits w 6 1 ++ bits w 5 1 ++ bits w 4 1 ++ bits w 0 4 = w := by
    simp only [bits_append]
    exact bits_all w
  rwa [h25, h23, h6, h4] at h

theorem FOneRegImm.toWord_ofWord (h25 : bits w 25 7 = 0b1111001#7) (h23 : bits w 23 1 = 0b1#1)
    (h19 : bits w 19 3 = 0b000#3) (h7 : bits w 7 1 = 0b0#1) (h4 : bits w 4 1 = 0b1#1) :
    (FOneRegImm.ofWord w).toWord = w := by
  have h : bits w 25 7 ++ bits w 24 1 ++ bits w 23 1 ++ bits w 22 1 ++ bits w 19 3 ++ bits w 16 3 ++ bits w 12 4 ++
      bits w 8 4 ++ bits w 7 1 ++ bits w 6 1 ++ bits w 5 1 ++ bits w 4 1 ++ bits w 0 4 = w := by
    simp only [bits_append]
    exact bits_all w
  rwa [h25, h23, h19, h7, h4] at h

theorem FTwoRegShift.toWord_ofWord (h25 : bits w 25 7 = 0b1111001#7) (h23 : bits w 23 1 = 0b1#1)
    (h4 : bits w 4 1 = 0b1#1) : (FTwoRegShift.ofWord w).toWord = w := by
  have h : bits w 25 7 ++ bits w 24 1 ++ bits w 23 1 ++ bits w 22 1 ++ bits w 19 3 ++ bits w 16 3 ++ bits w 12 4 ++
      bits w 8 4 ++ bits w 7 1 ++ bits w 6 1 ++ bits w 5 1 ++ bits w 4 1 ++ bits w 0 4 = w := by
    simp only [bits_append]
    exact bits_all w
  rwa [h25, h23, h4] at h

theorem FMemHint.toWord_ofWord (h26 : bits w 26 6 = 0b111101#6) (h20 : bits w 20 1 = 0b1#1) :
    (FMemHint.ofWord w).toWord = w := by
  have h : bits w 26 6 ++ bits w 21 5 ++ bits w 20 1 ++ bits w 5 15 ++ bits w 4 1 ++ bits w 0 4 = w := by
    simp only [bits_append]
    exact bits_all w
  rwa [h26, h20] at h

theorem FLdStMult.toWord_ofWord (h23 : bits w 23 9 = 0b111101000#9) (h20 : bits w 20 1 = 0b0#1) :
    (FLdStMult.ofWord w).toWord = w := by
  have h : bits w 23 9 ++ bits w 22 1 ++ bits w 21 1 ++ bits w 20 1 ++ bits w 16 4 ++ bits w 12 4 ++ bits w 8 4 ++
      bits w 6 2 ++ bits w 4 2 ++ bits w 0 4 = w := by
    simp only [bits_append]
    exact bits_all w
  rwa [h23, h20] at h

theorem FLdStAll.toWord_ofWord (h23 : bits w 23 9 = 0b111101001#9) (h20 : bits w 20 1 = 0b0#1)
    (h10 : bits w 10 2 = 0b11#2) : (FLdStAll.ofWord w).toWord = w := by
  have h : bits w 23 9 ++ bits w 22 1 ++ bits w 21 1 ++ bits w 20 1 ++ bits w 16 4 ++ bits w 12 4 ++ bits w 10 2 ++
      bits w 8 2 ++ bits w 6 2 ++ bits w 5 1 ++ bits w 4 1 ++ bits w 0 4 = w := by
    simp only [bits_append]
    exact bits_all w
  rwa [h23, h20, h10] at h

theorem FLdStOne.toWord_ofWord (h23 : bits w 23 9 = 0b111101001#9) (h20 : bits w 20 1 = 0b0#1) :
    (FLdStOne.ofWord w).toWord = w := by
  have h : bits w 23 9 ++ bits w 22 1 ++ bits w 21 1 ++ bits w 20 1 ++ bits w 16 4 ++ bits w 12 4 ++ bits w 10 2 ++
      bits w 8 2 ++ bits w 4 4 ++ bits w 0 4 = w := by
    simp only [bits_append]
    exact bits_all w
  rwa [h23, h20] at h

end

/-! The same for a word that a mask and a match take, where the mask covers the fixed bits of the diagram. -/

section
variable {w m v : Word}

theorem FThreeSame.toWord_of_masked (h : w &&& m = v) (hm : m &&& 0xFE800000#32 = 0xFE800000#32 := by rfl)
    (hv : v &&& 0xFE800000#32 = 0xF2000000#32 := by rfl) : (FThreeSame.ofWord w).toWord = w :=
  have h := (masked_of_masked h hm).trans hv
  FThreeSame.toWord_ofWord (bits_of_masked h) (bits_of_masked h)

theorem FTwoRegMisc.toWord_of_masked (h : w &&& m = v) (hm : m &&& 0xFFB00810#32 = 0xFFB00810#32 := by rfl)
    (hv : v &&& 0xFFB00810#32 = 0xF3B00000#32 := by rfl) : (FTwoRegMisc.ofWord w).toWord = w :=
  have h := (masked_of_masked h hm).trans hv
  FTwoRegMisc.toWord_ofWord (bits_of_masked h) (bits_of_masked h) (bits_of_masked h) (bits_of_masked h)

theorem FDup.toWord_of_masked (h : w &&& m = v) (hm : m &&& 0xFFB00C10#32 = 0xFFB00C10#32 := by rfl)
    (hv : v &&& 0xFFB00C10#32 = 0xF3B00C00#32 := by rfl) : (FDup.ofWord w).toWord = w :=
  have h := (masked_of_masked h hm).trans hv
  FDup.toWord_ofWord (bits_of_masked h) (bits_of_masked h) (bits_of_masked h) (bits_of_masked h)

theorem FThreeDiff.toWord_of_masked (h : w &&& m = v) (hm : m &&& 0xFE800050#32 = 0xFE800050#32 := by rfl)
    (hv : v &&& 0xFE800050#32 = 0xF2800000#32 := by rfl) : (FThreeDiff.ofWord w).toWord = w :=
  have h := (masked_of_masked h hm).trans hv
  FThreeDiff.toWord_ofWord (bits_of_masked h) (bits_of_masked h) (bits_of_masked h) (bits_of_masked h)

theorem FTwoRegScalar.toWord_of_masked (h : w &&& m = v) (hm : m &&& 0xFE800050#32 = 0xFE800050#32 := by rfl)
    (hv : v &&& 0xFE800050#32 = 0xF2800040#32 := by rfl) : (FTwoRegScalar.ofWord w).toWord = w :=
  have h := (masked_of_masked h hm).trans hv
  FTwoRegScalar.toWord_ofWord (bits_of_masked h) (bits_of_masked h) (bits_of_masked h) (bits_of_masked h)

theorem FTwoRegShift.toWord_of_masked (h : w &&& m = v) (hm : m &&& 0xFE800010#32 = 0xFE800010#32 := by rfl)
    (hv : v &&& 0xFE800010#32 = 0xF2800010#32 := by rfl) : (FTwoRegShift.ofWord w).toWord = w :=
  have h := (masked_of_masked h hm).trans hv
  FTwoRegShift.toWord_ofWord (bits_of_masked h) (bits_of_masked h) (bits_of_masked h)

end

end Sys2Proof
end

section
/-! Decoding after encoding (rules R88, R89): how words reach the rows and tables that have no lemma under Laws, and how
the rows of each table exclude each other. -/

namespace Sys2Proof

/-! ## From a word to its table -/

/-- A word of the space of rule R1. -/
theorem decode_of_space {w : Word} (h : bits w 27 5 = 0b11110#5) : decode w = .instr (decodeTop w) := if_pos h

theorem decode_unallocatedTop5 (f : FTop) (h0 : f.op0 = 0b11#2) (h1 : f.op1 = 0b0#1) :
    decode f.toWord = .instr (.unallocatedTop5 f) := by
  rw [decode_of_space f.space]
  simp [decodeTop, h0, h1]

/-- Bit 24, which the residue of the top table sets (rule R97), is the highest of the undrawn bits [24:21]. -/
theorem decode_notInSourceTop (f : FTop) (h0 : f.op0 = 0b10#2) (h21 : f.undrawn21 &&& 0b1000#4 = 0b1000#4)
    (h1 : f.op1 = 0b0#1) : decode f.toWord = .instr (.notInSourceTop f) := by
  have hbits : bits f.toWord 21 4 = f.undrawn21 := congrArg FTop.undrawn21 f.ofWord_toWord
  have hhigh : ∀ x : BitVec 4, x &&& 0b1000#4 = 0b1000#4 → x.extractLsb' 3 1 = 0b1#1 := by decide
  have h24 : bits f.toWord 24 1 = 0b1#1 := (bits_of_bits hbits (k := 3) (by decide)).trans (hhigh _ h21)
  rw [decode_of_space f.space]
  simp [decodeTop, h0, h1, h24]

/-- The ends of the field op0 of "Memory hints and barriers", by which the two tables of preloads are found (rule
R380). -/
theorem memHint_ends {w : Word} {a b : BitVec 1} (h25 : bits w 25 1 = a) (h21 : bits w 21 1 = b) :
    bits w 21 5 &&& 0b10001#5 = a ++ 0b000#3 ++ b := by
  have hends : ∀ x : BitVec 5, x &&& 0b10001#5 = x.extractLsb' 4 1 ++ 0b000#3 ++ x.extractLsb' 0 1 := by decide
  rw [hends, extractLsb'_bits w 21 5 (by decide), extractLsb'_bits w 21 5 (by decide), h25, h21]

theorem decode_FPldImm (f : FPldImm) : decode f.toWord = .instr (decodePldImm f) := by
  have fixed : bits f.toWord 25 7 = 0b1111010#7 ∧ bits f.toWord 20 2 = 0b01#2 := by
    simp (disch := omega) only [FPldImm.toWord, bits, BitVec.extractLsb'_append_eq_of_add_le,
      BitVec.extractLsb'_append_eq_of_le, Nat.sub_self, BitVec.extractLsb'_eq_self, Nat.reduceSub, and_self]
  obtain ⟨h25, h20⟩ := fixed
  have hop0 : bits f.toWord 25 2 = 0b10#2 := bits_of_bits h25 (k := 0) (by decide)
  have hop1 : bits f.toWord 20 1 = 0b1#1 := bits_of_bits h20 (k := 0) (by decide)
  have hends : bits f.toWord 21 5 &&& 0b10001#5 = 0b00000#5 :=
    memHint_ends (bits_of_bits h25 (k := 0) (by decide)) (bits_of_bits h20 (k := 1) (by decide))
  rw [decode_of_space f.space]
  simp [decodeTop, FTop.ofWord, hop0, hop1, decodeMemHint, FMemHint.ofWord, hends, ne_of_masked hends,
    masked_ne_of_masked hends]

theorem decode_FPldReg (f : FPldReg) : decode f.toWord = .instr (decodePldReg f) := by
  have fixed : bits f.toWord 25 7 = 0b1111011#7 ∧ bits f.toWord 20 2 = 0b01#2 ∧ bits f.toWord 4 1 = 0b0#1 := by
    simp (disch := omega) only [FPldReg.toWord, bits, BitVec.extractLsb'_append_eq_of_add_le,
      BitVec.extractLsb'_append_eq_of_le, Nat.sub_self, BitVec.extractLsb'_eq_self, Nat.reduceSub, and_self]
  obtain ⟨h25, h20, h4⟩ := fixed
  have hop0 : bits f.toWord 25 2 = 0b11#2 := bits_of_bits h25 (k := 0) (by decide)
  have hop1 : bits f.toWord 20 1 = 0b1#1 := bits_of_bits h20 (k := 0) (by decide)
  have hends : bits f.toWord 21 5 &&& 0b10001#5 = 0b10000#5 :=
    memHint_ends (bits_of_bits h25 (k := 0) (by decide)) (bits_of_bits h20 (k := 1) (by decide))
  rw [decode_of_space f.space]
  simp [decodeTop, FTop.ofWord, hop0, hop1, decodeMemHint, FMemHint.ofWord, h4, hends, ne_of_masked hends,
    masked_ne_of_masked hends]

/-! ## The rows of a table -/

/-- Settles O1: each constructor's word reaches its table, whose earlier rows test a field for another value. -/
theorem decodeOfEncode : Obligations.DecodeOfEncode := by
  intro i h
  cases i with
  -- "Unconditional instructions".
  | unallocatedTop5 f =>
    obtain ⟨h0, h1⟩ := of_decide_eq_true h
    exact decode_unallocatedTop5 f h0 h1
  | notInSourceTop f =>
    obtain ⟨h0, h21, h1⟩ := of_decide_eq_true h
    exact decode_notInSourceTop f h0 h21 h1
  -- "Miscellaneous" and "Change Process State".
  | unallocatedMisc3 f | setpan f | constrainedUnpredictableMisc8 f | unallocatedMisc9 f =>
    refine (decode_FMisc f).trans ?_
    simp [decodeMisc, of_decide_eq_true h]
  | unallocatedMisc4 f | unallocatedMisc5 f =>
    obtain ⟨h0, h1⟩ := of_decide_eq_true h
    refine (decode_FMisc f).trans ?_
    simp [decodeMisc, h0, h1, ne_of_masked h1, masked_ne_of_masked h1]
  | unallocatedMisc7 f | unallocatedMisc11 f =>
    obtain ⟨h0, h1⟩ := of_decide_eq_true h
    refine (decode_FMisc f).trans ?_
    simp [decodeMisc, h0, masked_ne_of_masked h0, h1]
  | unallocatedMisc10 f | unallocatedMisc12 f | unallocatedMisc13 f =>
    obtain ⟨h0, h1⟩ := of_decide_eq_true h
    refine (decode_FMisc f).trans ?_
    simp [decodeMisc, h0, ne_of_masked h0, masked_ne_of_masked h0, h1, ne_of_masked h1, masked_ne_of_masked h1]
  | unallocatedMisc1 f | unallocatedMisc14 f | unallocatedMisc15 f =>
    have h0 := of_decide_eq_true h
    refine (decode_FMisc f).trans ?_
    simp [decodeMisc, h0, ne_of_masked h0, masked_ne_of_masked h0]
  | setend f | cps f | unallocatedCps3 f =>
    refine (decode_FCps f).trans ?_
    simp [decodeCps, of_decide_eq_true h]
  -- "Advanced SIMD three registers of the same length".
  | vfma f | vaddFp f | vmlaFp f | vceqRegA2 f | vmaxFp f | vrecps f | vhadd f | vandReg f | vqadd f | vrhadd f
  | sha1c f | vhsub f | vbicReg f | vqsub f | vcgtRegA1 f | vcgeRegA1 f | sha1p f | vfms f | vsubFp f | vmlsFp f
  | unallocatedThreeSame21 f | vminFp f | vrsqrts f | vshlReg f | vaddInt f | vorrReg f | vtst f | vqshlReg f
  | vmlaInt f | vrshl f | vqrshl f | vqdmulh3same f | sha1m f | vpaddInt f | vmaxInt f | vornReg f | vminInt f
  | vabdInt f | vaba f | sha1su0 f | vpaddFp f | vmulFp f | vcgeRegA2 f | vacge f | vpmaxFp f | vmaxnm f | veor f
  | vmulIntPoly f | sha256h f | vpmaxInt f | vbsl f | vpminInt f | unallocatedThreeSame53 f | sha256h2 f
  | vabdFp f | vcgtRegA2 f | vacgt f | vpminFp f | vminnm f | vsubInt f | vbit f | vceqRegA1 f | vmlsInt f
  | vqrdmulh3same f | sha256su1 f | vqrdmlah3same f | vbif f | vqrdmlsh3same f | unallocatedThreeSame69 f =>
    refine (decode_FThreeSame f).trans ?_
    simp [decodeThreeSame, of_decide_eq_true h]
  | notInSourceThreeSame f =>
    refine (decode_FThreeSame f).trans ?_
    rcases of_decide_eq_true h with h | h | h <;> simp [decodeThreeSame, h]
  -- "Advanced SIMD two registers, or three registers of different lengths" and its four tables.
  | notInSourceTwoRegThreeDiff f =>
    refine (decode_FTwoRegThreeDiff f).trans ?_
    rcases of_decide_eq_true h with h | h <;> simp [decodeTwoRegThreeDiff, h]
  | vrev64 f | vrev32 f | vrev16 f | unallocatedTwoRegMisc4 f | aese f | aesd f | aesmc f | aesimc f | vcls f
  | vswp f | vclz f | vcnt f | vmvnReg f | vqabs f | vqneg f | sha1h f | vtrn f | vuzp f | vzip f | vmovn f
  | vqmovun f | vqmovn f | vshllMisc f | sha1su1 f | sha256su0 f | vrintnAsimd f | vrintxAsimd f | vrintaAsimd f
  | vrintzAsimd f | vcvtSpToHp f | unallocatedTwoRegMisc40 f | vrintmAsimd f | vcvtHpToSp f
  | unallocatedTwoRegMisc43 f | vrintpAsimd f =>
    refine (decode_FTwoRegMisc f).trans ?_
    simp [decodeTwoRegMisc, of_decide_eq_true h]
  | vpaddl f | vpadal f | vcgtImm0 f | vcgeImm0 f | vceqImm0 f | vcleImm0 f | vcltImm0 f | vabs f | vneg f
  | vcvtaAsimd f | vcvtnAsimd f | vcvtpAsimd f | vcvtmAsimd f | vrecpe f | vrsqrte f | vcvtFpIntAsimd f =>
    obtain ⟨h1, h2⟩ := of_decide_eq_true h
    refine (decode_FTwoRegMisc f).trans ?_
    simp [decodeTwoRegMisc, h1, h2, ne_of_masked h2, masked_ne_of_masked h2]
  | notInSourceTwoRegMisc f =>
    refine (decode_FTwoRegMisc f).trans ?_
    rcases of_decide_eq_true h with h | h | h | ⟨hsize, h⟩ | h
    case inr.inr.inr.inl => simp [decodeTwoRegMisc, ne_of_masked hsize, h]
    all_goals simp [decodeTwoRegMisc, h]
  | vdupScalar f | unallocatedDup2 f =>
    refine (decode_FDup f).trans ?_
    simp [decodeDup, of_decide_eq_true h]
  | unallocatedDup3 f | unallocatedDup4 f =>
    have h1 := of_decide_eq_true h
    refine (decode_FDup f).trans ?_
    simp [decodeDup, h1, ne_of_masked h1, masked_ne_of_masked h1]
  | vaddl f | vaddw f | vsubl f | vaddhn f | vsubw f | vsubhn f | vqdmlal3diff f | vabal f | vqdmlsl3diff f
  | vqdmull3diff f | vabdlInt f | vmlalInt f | vmlslInt f | vraddhn f | vrsubhn f | unallocatedThreeDiff17 f
  | unallocatedThreeDiff18 f | unallocatedThreeDiff19 f | unallocatedThreeDiff20 f =>
    have hc := of_decide_eq_true h
    refine (decode_FThreeDiff f (by simp [hc])).trans ?_
    simp [decodeThreeDiff, hc]
  | vmullIntPoly f =>
    obtain ⟨h1, hsize⟩ := of_decide_eq_true h
    refine (decode_FThreeDiff f hsize).trans ?_
    simp [decodeThreeDiff, h1, ne_of_masked h1]
  | vqdmlalScalar f | vmlalScalar f | vqdmlslScalar f | vqdmullScalar f | vmlslScalar f
  | unallocatedTwoRegScalar9 f | vmullScalar f | unallocatedTwoRegScalar11 f | vqdmulhScalar f | vqrdmulhScalar f
  | unallocatedTwoRegScalar14 f | vqrdmlahScalar f | vqrdmlshScalar f =>
    have hc := of_decide_eq_true h
    refine (decode_FTwoRegScalar f (by simp [hc])).trans ?_
    simp [decodeTwoRegScalar, hc]
  | vmlaScalar f | vmlsScalar f | vmulScalar f =>
    obtain ⟨h1, hsize⟩ := of_decide_eq_true h
    refine (decode_FTwoRegScalar f hsize).trans ?_
    simp [decodeTwoRegScalar, h1, ne_of_masked h1]
  -- "Advanced SIMD shifts and immediate generation".
  | vmovImmA1 f | vmvnImmA1 f | vorrImmA1 f | vbicImmA1 f | vmovImmA3 f | vmvnImmA2 f | vorrImmA2 f | vbicImmA2 f
  | vmovImmA4 f | vmvnImmA3 f =>
    obtain ⟨h1, h2⟩ := of_decide_eq_true h
    refine (decode_FOneRegImm f).trans ?_
    simp [decodeOneRegImm, h1, h2, masked_ne_of_masked h1]
  | vmovImmA5 f | unallocatedOneRegImm12 f =>
    refine (decode_FOneRegImm f).trans ?_
    simp [decodeOneRegImm, of_decide_eq_true h]
  | vshr f | vsra f | vmovl f | vrshr f | vrsra f | vqshlImm f | vqshrn f | vqrshrn f | vshllImm f | vshlImm f
  | vshrn f | vrshrn f | vsri f | vsli f | vqshluImm f | vqshrun f | vqrshrun f =>
    have hc := of_decide_eq_true h
    refine (decode_FTwoRegShift f (by simp only [hc, not_false_eq_true])).trans ?_
    simp [decodeTwoRegShift, hc]
  | vcvtFpFixedAsimd f =>
    obtain ⟨h1, himm⟩ := of_decide_eq_true h
    refine (decode_FTwoRegShift f himm).trans ?_
    simp [decodeTwoRegShift, h1, ne_of_masked h1]
  | notInSourceTwoRegShift f =>
    rcases of_decide_eq_true h with h | h | h | h <;>
      exact (decode_FTwoRegShift f (by simp only [h, not_false_eq_true])).trans (by simp [decodeTwoRegShift, h])
  -- "Memory hints and barriers" and its three tables.
  | constrainedUnpredictableMemHint2 f =>
    refine (decode_FMemHint f).trans ?_
    simp [decodeMemHint, of_decide_eq_true h]
  | constrainedUnpredictableMemHint1 f | constrainedUnpredictableMemHint4 f =>
    have h0 := of_decide_eq_true h
    refine (decode_FMemHint f).trans ?_
    simp [decodeMemHint, h0, ne_of_masked h0, masked_ne_of_masked h0]
  | constrainedUnpredictableMemHint7 f | unallocatedMemHint8 f =>
    obtain ⟨h0, h1⟩ := of_decide_eq_true h
    refine (decode_FMemHint f).trans ?_
    simp [decodeMemHint, h0, ne_of_masked h0, masked_ne_of_masked h0, h1]
  | constrainedUnpredictableBarrier1 f | clrex f | dsb f | ssbb f | pssbb f | dmb f | isb f | sb f =>
    refine (decode_FBarrier f).trans ?_
    simp [decodeBarrier, of_decide_eq_true h]
  | constrainedUnpredictableBarrier3 f | constrainedUnpredictableBarrier10 f =>
    have h1 := of_decide_eq_true h
    refine (decode_FBarrier f).trans ?_
    simp [decodeBarrier, h1, ne_of_masked h1, masked_ne_of_masked h1]
  | reservedHintNopPldImm f | pliImmLit f | pldLit f | pldwImm f | pldImm f =>
    refine (decode_FPldImm f).trans ?_
    simp [decodePldImm, of_decide_eq_true h]
  | reservedHintNopPldReg f | pliReg f | pldwReg f | pldReg f =>
    refine (decode_FPldReg f).trans ?_
    simp [decodePldReg, of_decide_eq_true h]
  -- "Advanced SIMD element or structure load/store".
  | asimdLdstMult f =>
    exact decode_FLdStMult f
  | asimdLdAll f =>
    exact decode_FLdStAll f
  | asimdLdstOne f =>
    exact decode_FLdStOne f (of_decide_eq_true h)

end Sys2Proof
end

section
/-! Every word of the space decodes to a well-formed instruction (rule R89), and a vector word is the encoding of what
it decodes to (rules R66 to R82). -/

namespace Sys2Proof

/-! ## The instructions of a table are well-formed

A table tests a few fields of the record. The row that takes the record is the one whose cells they satisfy, and what no
row takes satisfies the cells of the last row or of the residue: checked over every value of those fields. -/

theorem decodeCps_wellFormed (f : FCps) : (decodeCps f).WellFormed = true := by
  simp only [decodeCps, apply_ite Instr.WellFormed]
  simp only [Instr.WellFormed]
  generalize f.op = op, f.mode = mode
  revert op mode
  decide +kernel

theorem decodeThreeSame_wellFormed (f : FThreeSame) : (decodeThreeSame f).WellFormed = true := by
  simp only [decodeThreeSame, apply_ite Instr.WellFormed]
  simp only [Instr.WellFormed]
  generalize f.U = U, f.size = size, f.opc = opc, f.Q = Q, f.o1 = o1
  revert U size opc Q o1
  decide +kernel

theorem decodeTwoRegMisc_wellFormed (f : FTwoRegMisc) : (decodeTwoRegMisc f).WellFormed = true := by
  simp only [decodeTwoRegMisc, apply_ite Instr.WellFormed]
  simp only [Instr.WellFormed]
  generalize f.size = size, f.opc1 = opc1, f.opc2 = opc2, f.Q = Q
  revert size opc1 opc2 Q
  decide +kernel

theorem decodeDup_wellFormed (f : FDup) : (decodeDup f).WellFormed = true := by
  simp only [decodeDup, apply_ite Instr.WellFormed]
  simp only [Instr.WellFormed]
  generalize f.opc = opc
  revert opc
  decide +kernel

theorem decodeThreeDiff_wellFormed (f : FThreeDiff) (hsize : f.size ≠ 0b11#2) :
    (decodeThreeDiff f).WellFormed = true := by
  simp only [decodeThreeDiff, apply_ite Instr.WellFormed]
  simp only [Instr.WellFormed, hsize, ne_eq, not_false_eq_true, and_true]
  generalize f.U = U, f.opc = opc
  revert U opc
  decide +kernel

theorem decodeTwoRegScalar_wellFormed (f : FTwoRegScalar) (hsize : f.size ≠ 0b11#2) :
    (decodeTwoRegScalar f).WellFormed = true := by
  simp only [decodeTwoRegScalar, apply_ite Instr.WellFormed]
  simp only [Instr.WellFormed, hsize, ne_eq, not_false_eq_true, and_true]
  generalize f.Q = Q, f.opc = opc
  revert Q opc
  decide +kernel

theorem decodeOneRegImm_wellFormed (f : FOneRegImm) : (decodeOneRegImm f).WellFormed = true := by
  simp only [decodeOneRegImm, apply_ite Instr.WellFormed]
  simp only [Instr.WellFormed]
  generalize f.cmode = cmode, f.op = op
  revert cmode op
  decide +kernel

theorem decodeTwoRegShift_wellFormed (f : FTwoRegShift) (himm : ¬(f.imm3H = 0b000#3 ∧ f.L = 0b0#1)) :
    (decodeTwoRegShift f).WellFormed = true := by
  simp only [decodeTwoRegShift, apply_ite Instr.WellFormed]
  simp only [Instr.WellFormed, himm, not_false_eq_true, and_true, true_and]
  generalize f.U = U, f.imm3L = imm3L, f.opc = opc, f.Q = Q
  revert U imm3L opc Q
  decide +kernel

theorem decodeBarrier_wellFormed (f : FBarrier) : (decodeBarrier f).WellFormed = true := by
  simp only [decodeBarrier, apply_ite Instr.WellFormed]
  simp only [Instr.WellFormed]
  generalize f.opcode = opcode, f.option = option
  revert opcode option
  decide +kernel

theorem decodePldImm_wellFormed (f : FPldImm) : (decodePldImm f).WellFormed = true := by
  simp only [decodePldImm, apply_ite Instr.WellFormed]
  simp only [Instr.WellFormed]
  generalize f.D = D, f.R = R, f.Rn = Rn
  revert D R Rn
  decide +kernel

theorem decodePldReg_wellFormed (f : FPldReg) : (decodePldReg f).WellFormed = true := by
  simp only [decodePldReg, apply_ite Instr.WellFormed]
  simp only [Instr.WellFormed]
  generalize f.D = D, f.o2 = o2
  revert D o2
  decide +kernel

theorem decodeMisc_wellFormed (w : Word) : (decodeMisc w).WellFormed = true := by
  simp only [decodeMisc, apply_ite Instr.WellFormed, decodeCps_wellFormed]
  simp only [Instr.WellFormed]
  generalize (FMisc.ofWord w).op0 = op0, (FMisc.ofWord w).op1 = op1
  revert op0 op1
  decide +kernel

theorem decodeMemHint_wellFormed (w : Word) : (decodeMemHint w).WellFormed = true := by
  simp only [decodeMemHint, apply_ite Instr.WellFormed, decodeBarrier_wellFormed,
    decodePldImm_wellFormed, decodePldReg_wellFormed]
  simp only [Instr.WellFormed]
  generalize (FMemHint.ofWord w).op0 = op0, (FMemHint.ofWord w).op1 = op1
  revert op0 op1
  decide +kernel

/-- A choice whose two sides are well-formed where they are taken. -/
theorem wellFormed_ite {c : Prop} [Decidable c] {i j : Instr} (hi : c → i.WellFormed = true)
    (hj : ¬c → j.WellFormed = true) : (if c then i else j).WellFormed = true := by
  split
  · next h => exact hi h
  · next h => exact hj h

theorem decodeTwoRegThreeDiff_wellFormed (w : Word) : (decodeTwoRegThreeDiff w).WellFormed = true := by
  unfold decodeTwoRegThreeDiff
  extract_lets f
  refine wellFormed_ite (fun _ => decodeTwoRegMisc_wellFormed _) fun hmisc => ?_
  refine wellFormed_ite (fun _ => decodeDup_wellFormed _) fun hdup => ?_
  refine wellFormed_ite (fun h => decodeThreeDiff_wellFormed _ h.1) fun _ => ?_
  refine wellFormed_ite (fun h => decodeTwoRegScalar_wellFormed _ h) fun hscalar => ?_
  have residue : ∀ (op0 : BitVec 1) (op1 op2 : BitVec 2),
      ¬(op0 = 0b1#1 ∧ op1 = 0b11#2 ∧ op2 &&& 0b10#2 = 0b00#2) →
      ¬(op0 = 0b1#1 ∧ op1 = 0b11#2 ∧ op2 = 0b11#2) → ¬op1 ≠ 0b11#2 →
        (op0 = 0b0#1 ∧ op1 = 0b11#2) ∨ (op0 = 0b1#1 ∧ op1 = 0b11#2 ∧ op2 = 0b10#2) := by decide
  exact decide_eq_true (residue f.op0 f.op1 f.op2 hmisc hdup hscalar)

theorem decodeShiftImm_wellFormed (w : Word) : (decodeShiftImm w).WellFormed = true :=
  wellFormed_ite (fun _ => decodeOneRegImm_wellFormed _) fun himm => decodeTwoRegShift_wellFormed _ himm

theorem decodeSimdData_wellFormed (w : Word) : (decodeSimdData w).WellFormed = true :=
  wellFormed_ite (fun _ => decodeThreeSame_wellFormed _) fun _ =>
    wellFormed_ite (fun _ => decodeTwoRegThreeDiff_wellFormed w) fun _ => decodeShiftImm_wellFormed w

theorem decodeLdSt_wellFormed (w : Word) : (decodeLdSt w).WellFormed = true :=
  wellFormed_ite (fun _ => rfl) fun _ => wellFormed_ite (fun _ => rfl) fun hsize => decide_eq_true hsize

theorem decodeTop_wellFormed (w : Word) : (decodeTop w).WellFormed = true := by
  unfold decodeTop
  extract_lets f
  refine wellFormed_ite (fun _ => decodeMisc_wellFormed w) fun h0 => ?_
  refine wellFormed_ite (fun _ => decodeSimdData_wellFormed w) fun h1 => ?_
  refine wellFormed_ite (fun _ => decodeMemHint_wellFormed w) fun hop1 => ?_
  have hop1 : f.op1 = 0b0#1 := (BitVec.eq_zero_or_eq_one f.op1).resolve_right hop1
  refine wellFormed_ite (fun h3 => decide_eq_true ⟨h3, hop1⟩) fun h3 => ?_
  refine wellFormed_ite (fun _ => decodeLdSt_wellFormed w) fun h24 => ?_
  have hop0 : ∀ x : BitVec 2, x ≠ 0b00#2 → x ≠ 0b01#2 → x ≠ 0b11#2 → x = 0b10#2 := by decide
  have hhigh : ∀ x : BitVec 4, x.extractLsb' 3 1 = 0b1#1 → x &&& 0b1000#4 = 0b1000#4 := by decide
  have h21 : (bits w 21 4).extractLsb' 3 1 = 0b1#1 :=
    (extractLsb'_bits w 21 4 (by decide)).trans (eq_one_of_ne_zero h24)
  exact decide_eq_true ⟨hop0 f.op0 h0 h1 h3, hhigh _ h21, hop1⟩

/-- Settles O3: the decoder tests the space first, and every table gives well-formed instructions. -/
theorem decodeCoversTheSpace : Obligations.DecodeCoversTheSpace := fun w =>
  ⟨fun h => ⟨decodeTop w, decode_of_space h, decodeTop_wellFormed w⟩, fun h => if_neg h⟩

/-! ## The words of a table's instructions -/

/-- A choice whose two sides have the word where they are taken. -/
theorem encode_ite {c : Prop} [Decidable c] {i j : Instr} {w : Word} (hi : c → encode i = w)
    (hj : ¬c → encode j = w) : encode (if c then i else j) = w := by
  split
  · next h => exact hi h
  · next h => exact hj h

@[simp] theorem encode_decodeThreeSame (f : FThreeSame) : encode (decodeThreeSame f) = f.toWord := by
  unfold decodeThreeSame
  repeat refine encode_ite (fun _ => rfl) fun _ => ?_
  rfl

@[simp] theorem encode_decodeTwoRegMisc (f : FTwoRegMisc) : encode (decodeTwoRegMisc f) = f.toWord := by
  unfold decodeTwoRegMisc
  repeat refine encode_ite (fun _ => rfl) fun _ => ?_
  rfl

@[simp] theorem encode_decodeDup (f : FDup) : encode (decodeDup f) = f.toWord := by
  unfold decodeDup
  repeat refine encode_ite (fun _ => rfl) fun _ => ?_
  rfl

@[simp] theorem encode_decodeThreeDiff (f : FThreeDiff) : encode (decodeThreeDiff f) = f.toWord := by
  unfold decodeThreeDiff
  repeat refine encode_ite (fun _ => rfl) fun _ => ?_
  rfl

@[simp] theorem encode_decodeTwoRegScalar (f : FTwoRegScalar) : encode (decodeTwoRegScalar f) = f.toWord := by
  unfold decodeTwoRegScalar
  repeat refine encode_ite (fun _ => rfl) fun _ => ?_
  rfl

@[simp] theorem encode_decodeOneRegImm (f : FOneRegImm) : encode (decodeOneRegImm f) = f.toWord := by
  unfold decodeOneRegImm
  repeat refine encode_ite (fun _ => rfl) fun _ => ?_
  rfl

@[simp] theorem encode_decodeTwoRegShift (f : FTwoRegShift) : encode (decodeTwoRegShift f) = f.toWord := by
  unfold decodeTwoRegShift
  repeat refine encode_ite (fun _ => rfl) fun _ => ?_
  rfl

section
variable {w : Word}

theorem encode_decodeTwoRegThreeDiff (h25 : bits w 25 7 = 0b1111001#7) (h23 : bits w 23 1 = 0b1#1)
    (h4 : bits w 4 1 = 0b0#1) : encode (decodeTwoRegThreeDiff w) = w := by
  have upper (h24 : bits w 24 1 = 0b1#1) : bits w 23 9 = 0b111100111#9 := by
    have h : bits w 25 7 ++ bits w 24 1 ++ bits w 23 1 = bits w 23 9 := by simp only [bits_append]
    rw [← h, h25, h24, h23]
    rfl
  unfold decodeTwoRegThreeDiff
  extract_lets f
  refine encode_ite (fun hmisc => ?_) fun _ => encode_ite (fun hdup => ?_) fun _ =>
    encode_ite (fun hdiff => ?_) fun hdiff => encode_ite (fun hscalar => ?_) fun _ => ?_
  · obtain ⟨h24, h20, h10⟩ := hmisc
    have hhigh : ∀ x : BitVec 2, x &&& 0b10#2 = 0b00#2 → x.extractLsb' 1 1 = 0b0#1 := by decide
    have h11 : bits w 11 1 = 0b0#1 := (extractLsb'_bits w 10 2 (by decide)).symm.trans (hhigh _ h10)
    rw [encode_decodeTwoRegMisc, FTwoRegMisc.toWord_ofWord (upper h24) h20 h11 h4]
  · obtain ⟨h24, h20, h10⟩ := hdup
    rw [encode_decodeDup, FDup.toWord_ofWord (upper h24) h20 h10 h4]
  · rw [encode_decodeThreeDiff, FThreeDiff.toWord_ofWord h25 h23 hdiff.2 h4]
  · have h6 : bits w 6 1 = 0b1#1 := eq_one_of_ne_zero fun h => hdiff ⟨hscalar, h⟩
    rw [encode_decodeTwoRegScalar, FTwoRegScalar.toWord_ofWord h25 h23 h6 h4]
  · exact FTwoRegThreeDiff.toWord_ofWord h25 h23 h4

theorem encode_decodeShiftImm (h25 : bits w 25 7 = 0b1111001#7) (h23 : bits w 23 1 = 0b1#1)
    (h4 : bits w 4 1 = 0b1#1) : encode (decodeShiftImm w) = w := by
  unfold decodeShiftImm
  refine encode_ite (fun himm => ?_) fun _ => ?_
  · rw [encode_decodeOneRegImm, FOneRegImm.toWord_ofWord h25 h23 himm.1 himm.2 h4]
  · rw [encode_decodeTwoRegShift, FTwoRegShift.toWord_ofWord h25 h23 h4]

theorem encode_decodeSimdData (h25 : bits w 25 7 = 0b1111001#7) : encode (decodeSimdData w) = w := by
  refine encode_ite (fun h23 => ?_) fun h23 => encode_ite (fun h4 => ?_) fun h4 => ?_
  · rw [encode_decodeThreeSame, FThreeSame.toWord_ofWord h25 h23]
  · exact encode_decodeTwoRegThreeDiff h25 (eq_one_of_ne_zero h23) h4
  · exact encode_decodeShiftImm h25 (eq_one_of_ne_zero h23) (eq_one_of_ne_zero h4)

theorem encode_decodeLdSt (h24 : bits w 24 8 = 0b11110100#8) (h20 : bits w 20 1 = 0b0#1) :
    encode (decodeLdSt w) = w := by
  have upper {b : BitVec 1} (h23 : bits w 23 1 = b) : bits w 23 9 = 0b11110100#8 ++ b := by
    have h : bits w 24 8 ++ bits w 23 1 = bits w 23 9 := bits_append rfl
    rw [← h, h24, h23]
  unfold decodeLdSt
  refine encode_ite (fun h23 => ?_) fun h23 => encode_ite (fun h10 => ?_) fun _ => ?_
  · exact FLdStMult.toWord_ofWord (upper h23) h20
  · exact FLdStAll.toWord_ofWord (upper (eq_one_of_ne_zero h23)) h20 h10
  · exact FLdStOne.toWord_ofWord (upper (eq_one_of_ne_zero h23)) h20

/-- An Advanced SIMD data-processing word. -/
theorem decode_simdData (h25 : bits w 25 7 = 0b1111001#7) : decode w = .instr (decodeSimdData w) := by
  have hspace : bits w 27 5 = 0b11110#5 := bits_of_bits h25 (k := 2) (by decide)
  have hop0 : bits w 25 2 = 0b01#2 := bits_of_bits h25 (k := 0) (by decide)
  rw [decode_of_space hspace]
  simp [decodeTop, FTop.ofWord, hop0]

/-- An Advanced SIMD load/store word. -/
theorem decode_ldSt (h24 : bits w 24 8 = 0b11110100#8) (h20 : bits w 20 1 = 0b0#1) :
    decode w = .instr (decodeLdSt w) := by
  have hspace : bits w 27 5 = 0b11110#5 := bits_of_bits h24 (k := 3) (by decide)
  have hop0 : bits w 25 2 = 0b10#2 := bits_of_bits h24 (k := 1) (by decide)
  have hlow : bits w 24 1 = 0b0#1 := bits_of_bits h24 (k := 0) (by decide)
  rw [decode_of_space hspace]
  simp [decodeTop, FTop.ofWord, hop0, h20, hlow]

end

/-- Settles O2: each table keeps the record, and each diagram of a vector word draws every bit. -/
theorem vectorWordsKeepEveryBit : Obligations.VectorWordsKeepEveryBit := by
  intro w i hw hi
  obtain h25 | ⟨h24, h20⟩ := hw
  · obtain rfl : decodeSimdData w = i := Decoded.instr.inj ((decode_simdData h25).symm.trans hi)
    exact encode_decodeSimdData h25
  · obtain rfl : decodeLdSt w = i := Decoded.instr.inj ((decode_ldSt h24 h20).symm.trans hi)
    exact encode_decodeLdSt h24 h20

end Sys2Proof
end

section
/-! What the step does with a word that a row of the source takes by its mask and match (rule R90): such a word is the
encoding of a well-formed instruction of that row, and so decodes to it. -/

namespace Sys2Proof.Machine

/-- A word that is the encoding of a well-formed instruction decodes to it. -/
theorem decode_of_encode {w : Word} {i : Instr} (hw : encode i = w) (hi : i.WellFormed = true) :
    decode w = .instr i := hw ▸ decodeOfEncode i hi

/-- A step whose word passes the feature gate and the should-be bits (rules R441, R454). -/
theorem step_of_decode {s : State} {w : Word} {i : Instr} (hs : s.Fetches w) (hd : decode w = .instr i)
    (hg : gateOpen s.params i = true := by rfl) (hb : sbViolation w i = false := by rfl) : step s = exec i s := by
  obtain ⟨hpc, hf⟩ := hs
  simp [step, runDecoded, hpc, hf, hd, hg, hb]

section
variable {w : Word}

/-- The excluded pattern of rules R297 and R314 is size = 11. -/
theorem size_ne_of_excluded (hx : ∀ e ∈ [(0x00300000#32, 0x00300000#32)], w &&& e.1 ≠ e.2) :
    bits w 20 2 ≠ 0b11#2 :=
  fun h => hx _ (List.mem_singleton_self _) (masked_of_bits h)

/-- The excluded pattern of rule R369 is imm3H = 000 with L = 0. -/
theorem imm_of_excluded (hx : ∀ e ∈ [(0x00380080#32, 0x00000000#32)], w &&& e.1 ≠ e.2) :
    ¬(bits w 19 3 = 0b000#3 ∧ bits w 7 1 = 0b0#1) := by
  rintro ⟨h19, h7⟩
  have himm : w &&& 0x00380000#32 = 0#32 := masked_of_bits h19
  have hL : w &&& 0x00000080#32 = 0#32 := masked_of_bits h7
  have hboth : w &&& (0x00380000#32 ||| 0x00000080#32) = 0#32 := by
    rw [BitVec.and_or_distrib_left, himm, hL, BitVec.or_self]
  exact hx _ (List.mem_singleton_self _) hboth

/-- The row of rule R107, whose words need not have the printed parenthesised bits. -/
theorem decode_unallocatedCps3 (h : w &&& 0xFFF10030#32 = 0xF1010010#32) :
    decode w = .instr (.unallocatedCps3 (.ofWord w)) := by
  have hmisc : decode w = .instr (decodeMisc w) := by
    have hw : (FMisc.ofWord w).toWord = w := FMisc.toWord_ofWord (bits_of_masked h)
    exact hw ▸ decode_FMisc (.ofWord w)
  have hop0 : (FMisc.ofWord w).op0 = 0b10000#5 := bits_of_masked h
  have hop1 : (FMisc.ofWord w).op1 &&& 0b0010#4 = 0b0000#4 := masked_bits_of_masked h
  have hop : (FCps.ofWord w).op = 0b1#1 := bits_of_masked h
  have hmode : (FCps.ofWord w).mode &&& 0b10000#5 = 0b10000#5 := masked_bits_of_masked h
  rw [hmisc]
  simp [decodeMisc, hop0, hop1, decodeCps, hop, hmode]

end

/-- A step whose word is the encoding of a well-formed instruction. -/
theorem step_of_encode {s : State} {w : Word} (hs : s.Fetches w) (i : Instr) (hw : encode i = w)
    (hi : i.WellFormed = true) (hg : gateOpen s.params i = true := by rfl) (hb : sbViolation w i = false := by rfl) :
    step s = exec i s :=
  step_of_decode hs (decode_of_encode hw hi) hg hb

/-- Settles O5: for each row its instruction, the fixed bits of the diagram and the cells of the row, which the mask
covers. -/
theorem unallocatedRowsFault : Obligations.UnallocatedRowsFault := by
  intro s w hs
  simp only [unallocatedRows, List.forall_mem_cons]
  exact ⟨
    -- "Unconditional instructions" (rule R96).
    fun ⟨h, _⟩ => step_of_encode hs (.unallocatedTop5 (.ofWord w)) (FTop.toWord_ofWord (bits_of_masked h))
      (decide_eq_true ⟨bits_of_masked h, bits_of_masked h⟩),
    -- "Miscellaneous" (rule R102).
    fun ⟨h, _⟩ => step_of_encode hs (.unallocatedMisc1 (.ofWord w)) (FMisc.toWord_ofWord (bits_of_masked h))
      (decide_eq_true (masked_bits_of_masked h)),
    fun ⟨h, _⟩ => step_of_encode hs (.unallocatedMisc3 (.ofWord w)) (FMisc.toWord_ofWord (bits_of_masked h))
      (decide_eq_true ⟨bits_of_masked h, bits_of_masked h⟩),
    fun ⟨h, _⟩ => step_of_encode hs (.unallocatedMisc4 (.ofWord w)) (FMisc.toWord_ofWord (bits_of_masked h))
      (decide_eq_true ⟨bits_of_masked h, masked_bits_of_masked h⟩),
    fun ⟨h, _⟩ => step_of_encode hs (.unallocatedMisc5 (.ofWord w)) (FMisc.toWord_ofWord (bits_of_masked h))
      (decide_eq_true ⟨bits_of_masked h, masked_bits_of_masked h⟩),
    fun ⟨h, _⟩ => step_of_encode hs (.unallocatedMisc7 (.ofWord w)) (FMisc.toWord_ofWord (bits_of_masked h))
      (decide_eq_true ⟨masked_bits_of_masked h, bits_of_masked h⟩),
    fun ⟨h, _⟩ => step_of_encode hs (.unallocatedMisc9 (.ofWord w)) (FMisc.toWord_ofWord (bits_of_masked h))
      (decide_eq_true ⟨bits_of_masked h, bits_of_masked h⟩),
    fun ⟨h, _⟩ => step_of_encode hs (.unallocatedMisc10 (.ofWord w)) (FMisc.toWord_ofWord (bits_of_masked h))
      (decide_eq_true ⟨masked_bits_of_masked h, masked_bits_of_masked h⟩),
    fun ⟨h, _⟩ => step_of_encode hs (.unallocatedMisc11 (.ofWord w)) (FMisc.toWord_ofWord (bits_of_masked h))
      (decide_eq_true ⟨masked_bits_of_masked h, bits_of_masked h⟩),
    fun ⟨h, _⟩ => step_of_encode hs (.unallocatedMisc12 (.ofWord w)) (FMisc.toWord_ofWord (bits_of_masked h))
      (decide_eq_true ⟨masked_bits_of_masked h, masked_bits_of_masked h⟩),
    fun ⟨h, _⟩ => step_of_encode hs (.unallocatedMisc13 (.ofWord w)) (FMisc.toWord_ofWord (bits_of_masked h))
      (decide_eq_true ⟨masked_bits_of_masked h, masked_bits_of_masked h⟩),
    fun ⟨h, _⟩ => step_of_encode hs (.unallocatedMisc14 (.ofWord w)) (FMisc.toWord_ofWord (bits_of_masked h))
      (decide_eq_true (masked_bits_of_masked h)),
    fun ⟨h, _⟩ => step_of_encode hs (.unallocatedMisc15 (.ofWord w)) (FMisc.toWord_ofWord (bits_of_masked h))
      (decide_eq_true (masked_bits_of_masked h)),
    -- "Change Process State" (rule R107).
    fun ⟨h, _⟩ => step_of_decode hs (decode_unallocatedCps3 h),
    -- "Advanced SIMD three registers of the same length" (rule R187).
    fun ⟨h, _⟩ => step_of_encode hs (.unallocatedThreeSame21 (.ofWord w)) (FThreeSame.toWord_of_masked h)
      (decide_eq_true ⟨bits_of_masked h, masked_bits_of_masked h, bits_of_masked h, bits_of_masked h⟩),
    fun ⟨h, _⟩ => step_of_encode hs (.unallocatedThreeSame53 (.ofWord w)) (FThreeSame.toWord_of_masked h)
      (decide_eq_true ⟨bits_of_masked h, bits_of_masked h⟩),
    fun ⟨h, _⟩ => step_of_encode hs (.unallocatedThreeSame69 (.ofWord w)) (FThreeSame.toWord_of_masked h)
      (decide_eq_true ⟨bits_of_masked h, bits_of_masked h, bits_of_masked h, bits_of_masked h⟩),
    -- "Advanced SIMD two registers misc" (rule R249).
    fun ⟨h, _⟩ => step_of_encode hs (.unallocatedTwoRegMisc4 (.ofWord w)) (FTwoRegMisc.toWord_of_masked h)
      (decide_eq_true ⟨bits_of_masked h, bits_of_masked h⟩),
    fun ⟨h, _⟩ => step_of_encode hs (.unallocatedTwoRegMisc40 (.ofWord w)) (FTwoRegMisc.toWord_of_masked h)
      (decide_eq_true ⟨bits_of_masked h, bits_of_masked h, bits_of_masked h⟩),
    fun ⟨h, _⟩ => step_of_encode hs (.unallocatedTwoRegMisc43 (.ofWord w)) (FTwoRegMisc.toWord_of_masked h)
      (decide_eq_true ⟨bits_of_masked h, bits_of_masked h, bits_of_masked h⟩),
    -- "Advanced SIMD duplicate (scalar)" (rule R257).
    fun ⟨h, _⟩ => step_of_encode hs (.unallocatedDup2 (.ofWord w)) (FDup.toWord_of_masked h)
      (decide_eq_true (bits_of_masked h)),
    fun ⟨h, _⟩ => step_of_encode hs (.unallocatedDup3 (.ofWord w)) (FDup.toWord_of_masked h)
      (decide_eq_true (masked_bits_of_masked h)),
    fun ⟨h, _⟩ => step_of_encode hs (.unallocatedDup4 (.ofWord w)) (FDup.toWord_of_masked h)
      (decide_eq_true (masked_bits_of_masked h)),
    -- "Advanced SIMD three registers of different lengths" (rule R297).
    fun ⟨h, hx⟩ => step_of_encode hs (.unallocatedThreeDiff17 (.ofWord w)) (FThreeDiff.toWord_of_masked h)
      (decide_eq_true ⟨bits_of_masked h, bits_of_masked h, size_ne_of_excluded hx⟩),
    fun ⟨h, hx⟩ => step_of_encode hs (.unallocatedThreeDiff18 (.ofWord w)) (FThreeDiff.toWord_of_masked h)
      (decide_eq_true ⟨bits_of_masked h, bits_of_masked h, size_ne_of_excluded hx⟩),
    fun ⟨h, hx⟩ => step_of_encode hs (.unallocatedThreeDiff19 (.ofWord w)) (FThreeDiff.toWord_of_masked h)
      (decide_eq_true ⟨bits_of_masked h, bits_of_masked h, size_ne_of_excluded hx⟩),
    fun ⟨h, hx⟩ => step_of_encode hs (.unallocatedThreeDiff20 (.ofWord w)) (FThreeDiff.toWord_of_masked h)
      (decide_eq_true ⟨bits_of_masked h, size_ne_of_excluded hx⟩),
    -- "Advanced SIMD two registers and a scalar" (rule R314).
    fun ⟨h, hx⟩ => step_of_encode hs (.unallocatedTwoRegScalar9 (.ofWord w)) (FTwoRegScalar.toWord_of_masked h)
      (decide_eq_true ⟨bits_of_masked h, bits_of_masked h, size_ne_of_excluded hx⟩),
    fun ⟨h, hx⟩ => step_of_encode hs (.unallocatedTwoRegScalar11 (.ofWord w)) (FTwoRegScalar.toWord_of_masked h)
      (decide_eq_true ⟨bits_of_masked h, bits_of_masked h, size_ne_of_excluded hx⟩),
    fun ⟨h, hx⟩ => step_of_encode hs (.unallocatedTwoRegScalar14 (.ofWord w)) (FTwoRegScalar.toWord_of_masked h)
      (decide_eq_true ⟨bits_of_masked h, bits_of_masked h, size_ne_of_excluded hx⟩),
    -- "Advanced SIMD one register and modified immediate" (rule R342).
    fun ⟨h, _⟩ => step_of_encode hs (.unallocatedOneRegImm12 (.ofWord w))
      (FOneRegImm.toWord_ofWord (bits_of_masked h) (bits_of_masked h) (bits_of_masked h) (bits_of_masked h)
        (bits_of_masked h))
      (decide_eq_true ⟨bits_of_masked h, bits_of_masked h⟩),
    -- "Memory hints and barriers" (rule R381).
    fun ⟨h, _⟩ => step_of_encode hs (.unallocatedMemHint8 (.ofWord w))
      (FMemHint.toWord_ofWord (bits_of_masked h) (bits_of_masked h))
      (decide_eq_true ⟨masked_bits_of_masked h, bits_of_masked h⟩),
    nofun⟩

/-- Settles O7: the same for the patterns without a row. -/
theorem encodingsWithoutRowAreRefused : Obligations.EncodingsWithoutRowAreRefused := by
  intro s w hs
  simp only [rowlessPatterns, List.forall_mem_cons]
  exact ⟨
    -- "Unconditional instructions" (rule R97).
    fun ⟨h, _⟩ => step_of_encode hs (.notInSourceTop (.ofWord w)) (FTop.toWord_ofWord (bits_of_masked h))
      (decide_eq_true ⟨bits_of_masked h, masked_bits_of_masked h, bits_of_masked h⟩),
    -- "Advanced SIMD three registers of the same length" (rule R188).
    fun ⟨h, _⟩ => step_of_encode hs (.notInSourceThreeSame (.ofWord w)) (FThreeSame.toWord_of_masked h)
      (decide_eq_true (.inl ⟨bits_of_masked h, bits_of_masked h, bits_of_masked h, bits_of_masked h⟩)),
    fun ⟨h, _⟩ => step_of_encode hs (.notInSourceThreeSame (.ofWord w)) (FThreeSame.toWord_of_masked h)
      (decide_eq_true (.inr (.inl ⟨bits_of_masked h, bits_of_masked h, bits_of_masked h⟩))),
    fun ⟨h, _⟩ => step_of_encode hs (.notInSourceThreeSame (.ofWord w)) (FThreeSame.toWord_of_masked h)
      (decide_eq_true (.inr (.inr ⟨bits_of_masked h, masked_bits_of_masked h, bits_of_masked h, bits_of_masked h⟩))),
    -- "Advanced SIMD two registers, or three registers of different lengths" (rule R98).
    fun ⟨h, _⟩ => step_of_encode hs (.notInSourceTwoRegThreeDiff (.ofWord w))
      (FTwoRegThreeDiff.toWord_ofWord (bits_of_masked h) (bits_of_masked h) (bits_of_masked h))
      (decide_eq_true (.inl ⟨bits_of_masked h, bits_of_masked h⟩)),
    fun ⟨h, _⟩ => step_of_encode hs (.notInSourceTwoRegThreeDiff (.ofWord w))
      (FTwoRegThreeDiff.toWord_ofWord (bits_of_masked h) (bits_of_masked h) (bits_of_masked h))
      (decide_eq_true (.inr ⟨bits_of_masked h, bits_of_masked h, bits_of_masked h⟩)),
    -- "Advanced SIMD two registers misc" (rule R250).
    fun ⟨h, _⟩ => step_of_encode hs (.notInSourceTwoRegMisc (.ofWord w)) (FTwoRegMisc.toWord_of_masked h)
      (decide_eq_true (.inl ⟨bits_of_masked h, bits_of_masked h, bits_of_masked h⟩)),
    fun ⟨h, _⟩ => step_of_encode hs (.notInSourceTwoRegMisc (.ofWord w)) (FTwoRegMisc.toWord_of_masked h)
      (decide_eq_true (.inr (.inl ⟨bits_of_masked h, bits_of_masked h⟩))),
    fun ⟨h, _⟩ => step_of_encode hs (.notInSourceTwoRegMisc (.ofWord w)) (FTwoRegMisc.toWord_of_masked h)
      (decide_eq_true (.inr (.inr (.inl ⟨bits_of_masked h, bits_of_masked h, bits_of_masked h⟩)))),
    fun ⟨h, _⟩ => step_of_encode hs (.notInSourceTwoRegMisc (.ofWord w)) (FTwoRegMisc.toWord_of_masked h)
      (decide_eq_true (.inr (.inr (.inr (.inl ⟨masked_bits_of_masked h, bits_of_masked h, bits_of_masked h⟩))))),
    fun ⟨h, _⟩ => step_of_encode hs (.notInSourceTwoRegMisc (.ofWord w)) (FTwoRegMisc.toWord_of_masked h)
      (decide_eq_true (.inr (.inr (.inr (.inr ⟨bits_of_masked h, bits_of_masked h, bits_of_masked h⟩))))),
    -- "Advanced SIMD two registers and shift amount" (rule R369).
    fun ⟨h, hx⟩ => step_of_encode hs (.notInSourceTwoRegShift (.ofWord w)) (FTwoRegShift.toWord_of_masked h)
      (decide_eq_true (.inl ⟨bits_of_masked h, bits_of_masked h, imm_of_excluded hx⟩)),
    fun ⟨h, hx⟩ => step_of_encode hs (.notInSourceTwoRegShift (.ofWord w)) (FTwoRegShift.toWord_of_masked h)
      (decide_eq_true (.inr (.inl ⟨bits_of_masked h, bits_of_masked h, imm_of_excluded hx⟩))),
    fun ⟨h, hx⟩ => step_of_encode hs (.notInSourceTwoRegShift (.ofWord w)) (FTwoRegShift.toWord_of_masked h)
      (decide_eq_true (.inr (.inr (.inl ⟨bits_of_masked h, bits_of_masked h, imm_of_excluded hx⟩)))),
    fun ⟨h, hx⟩ => step_of_encode hs (.notInSourceTwoRegShift (.ofWord w)) (FTwoRegShift.toWord_of_masked h)
      (decide_eq_true (.inr (.inr (.inr ⟨bits_of_masked h, imm_of_excluded hx⟩)))),
    nofun⟩

/-- Settles O4: five closed words. -/
theorem knownWordsDecode : Obligations.KnownWordsDecode := by
  unfold Obligations.KnownWordsDecode
  decide +kernel

end Sys2Proof.Machine
end

section
/-! What the step does with a word of the CONSTRAINED UNPREDICTABLE rows (rules R103, R382, R393). The words of the table
"Barriers" need not have the printed parenthesised bits, which the encoder writes (rule R9). -/

namespace Sys2Proof.Machine

section
variable {w : Word}

/-- A word of the table "Barriers" decodes as the word of its record, whatever its bits [19:8] (rules R76, R385). -/
theorem decode_barrier (h20 : bits w 20 12 = 0xF57#12) : decode w = decode (FBarrier.ofWord w).toWord := by
  have hmemHint : decode w = .instr (decodeMemHint w) := by
    have hw : (FMemHint.ofWord w).toWord = w :=
      FMemHint.toWord_ofWord (bits_of_bits h20 (k := 6) (by decide)) (bits_of_bits h20 (k := 0) (by decide))
    exact hw ▸ decode_FMemHint (.ofWord w)
  have hop0 : (FMemHint.ofWord w).op0 = 0b01011#5 := bits_of_bits h20 (k := 1) (by decide)
  rw [hmemHint, decode_FBarrier]
  simp [decodeMemHint, hop0]

/-- A step whose word is in the table "Barriers" and whose record is that of a well-formed instruction. -/
theorem step_of_barrier {s : State} (hs : s.Fetches w) (i : Instr) (h20 : bits w 20 12 = 0xF57#12)
    (hi : i.WellFormed = true) (hw : encode i = (FBarrier.ofWord w).toWord := by rfl)
    (hg : gateOpen s.params i = true := by rfl) (hb : sbViolation w i = false := by rfl) : step s = exec i s :=
  step_of_decode hs ((decode_barrier h20).trans (decode_of_encode hw hi)) hg hb

end

/-- Settles O6: for each row its instruction, the fixed bits of the diagram, without the parenthesised ones, and the
cells of the row, which the mask covers. -/
theorem constrainedUnpredictableRowsFault : Obligations.ConstrainedUnpredictableRowsFault := by
  intro s w hs
  simp only [constrainedUnpredictableRows, List.forall_mem_cons]
  exact ⟨
    -- "Miscellaneous" (rule R103).
    fun ⟨h, _⟩ => step_of_encode hs (.constrainedUnpredictableMisc8 (.ofWord w))
      (FMisc.toWord_ofWord (bits_of_masked h))
      (decide_eq_true ⟨bits_of_masked h, bits_of_masked h⟩),
    -- "Memory hints and barriers" (rule R382).
    fun ⟨h, _⟩ => step_of_encode hs (.constrainedUnpredictableMemHint1 (.ofWord w))
      (FMemHint.toWord_ofWord (bits_of_masked h) (bits_of_masked h))
      (decide_eq_true (masked_bits_of_masked h)),
    fun ⟨h, _⟩ => step_of_encode hs (.constrainedUnpredictableMemHint2 (.ofWord w))
      (FMemHint.toWord_ofWord (bits_of_masked h) (bits_of_masked h))
      (decide_eq_true (bits_of_masked h)),
    fun ⟨h, _⟩ => step_of_encode hs (.constrainedUnpredictableMemHint4 (.ofWord w))
      (FMemHint.toWord_ofWord (bits_of_masked h) (bits_of_masked h))
      (decide_eq_true (masked_bits_of_masked h)),
    fun ⟨h, _⟩ => step_of_encode hs (.constrainedUnpredictableMemHint7 (.ofWord w))
      (FMemHint.toWord_ofWord (bits_of_masked h) (bits_of_masked h))
      (decide_eq_true ⟨masked_bits_of_masked h, bits_of_masked h⟩),
    -- "Barriers" (rule R393).
    fun ⟨h, _⟩ => step_of_barrier hs (.constrainedUnpredictableBarrier1 (.ofWord w)) (bits_of_masked h)
      (decide_eq_true (bits_of_masked h)),
    fun ⟨h, _⟩ => step_of_barrier hs (.constrainedUnpredictableBarrier3 (.ofWord w)) (bits_of_masked h)
      (decide_eq_true (masked_bits_of_masked h)),
    fun ⟨h, _⟩ => step_of_barrier hs (.constrainedUnpredictableBarrier10 (.ofWord w)) (bits_of_masked h)
      (decide_eq_true (masked_bits_of_masked h)),
    nofun⟩

end Sys2Proof.Machine
end

section
/-! Three registers of different lengths, and two registers and a scalar (rules R281 to R296, R301 to R309, R320):
integers modulo the lane width, the row shapes of the two tables, and the statements about their rows. -/

namespace Sys2Proof.Machine

/-! ## Integers modulo the lane width -/

theorem ofInt_sub (e : Nat) (x y : Int) : BitVec.ofInt e (x - y) = BitVec.ofInt e x - BitVec.ofInt e y := by
  rw [Int.sub_eq_add_neg, BitVec.ofInt_add, BitVec.ofInt_neg, BitVec.sub_eq_add_neg]

section
variable {e : Nat} (x y : BitVec e)

theorem ofInt_toNat : BitVec.ofInt e x.toNat = x := by simp

theorem ofInt_toNat_add (v : Int) : BitVec.ofInt e (x.toNat + v) = x + BitVec.ofInt e v := by
  rw [BitVec.ofInt_add, ofInt_toNat]

theorem ofInt_toNat_sub (v : Int) : BitVec.ofInt e (x.toNat - v) = x - BitVec.ofInt e v := by
  rw [ofInt_sub, ofInt_toNat]

theorem ofInt_toNat_mul : BitVec.ofInt e (x.toNat * y.toNat) = x * y := by
  rw [BitVec.ofInt_mul, ofInt_toNat, ofInt_toNat]

/-- The sign of a lane does not matter for a sum modulo its width. -/
theorem ofInt_toInt_add : BitVec.ofInt e (x.toInt + y.toInt) = BitVec.ofInt e (x.toNat + y.toNat) := by
  rw [BitVec.ofInt_add, BitVec.ofInt_toInt, BitVec.ofInt_toInt, ofInt_toNat_add, ofInt_toNat]

theorem ofInt_toInt_sub : BitVec.ofInt e (x.toInt - y.toInt) = BitVec.ofInt e (x.toNat - y.toNat) := by
  rw [ofInt_sub, BitVec.ofInt_toInt, BitVec.ofInt_toInt, ofInt_toNat_sub, ofInt_toNat]

end

@[simp] theorem plain_fst {e : Nat} (x : BitVec e) : (plain x).1 = x := rfl

/-! ## The high half of a lane -/

theorem emod_sq_ediv {p : Int} (hp : 0 < p) (x : Int) : x % (p * p) / p = x / p % p := by
  rw [Int.emod_def, Int.emod_def, Int.mul_assoc, Int.sub_mul_ediv_left _ _ (Int.ne_of_gt hp),
    Int.ediv_ediv_of_nonneg (Int.le_of_lt hp)]

/-- The upper `e` bits of an integer taken modulo 2^(2 * e) are its quotient by 2^e, modulo 2^e. -/
theorem extractLsb'_ofInt_double (e : Nat) (x : Int) :
    (BitVec.ofInt (2 * e) x).extractLsb' e e = BitVec.ofInt e (x / 2 ^ e) := by
  have hp : (0 : Int) < 2 ^ e := Int.pow_pos (by decide)
  have hsq : (2 : Int) ^ (2 * e) = 2 ^ e * 2 ^ e := by rw [Nat.two_mul, Int.pow_add]
  have hcast : ((2 ^ e : Nat) : Int) = 2 ^ e := Int.natCast_pow 2 e
  have hcastSq : ((2 ^ (2 * e) : Nat) : Int) = 2 ^ e * 2 ^ e := (Int.natCast_pow 2 _).trans hsq
  apply BitVec.eq_of_toNat_eq
  apply Int.ofNat_inj.mp
  rw [BitVec.extractLsb'_toNat, BitVec.toNat_ofInt, BitVec.toNat_ofInt, Nat.shiftRight_eq_div_pow, Int.natCast_emod,
    Int.natCast_ediv, hcast, hcastSq, Int.toNat_of_nonneg (Int.emod_nonneg _ (Int.ne_of_gt (Int.mul_pos hp hp))),
    Int.toNat_of_nonneg (Int.emod_nonneg _ (Int.ne_of_gt hp)), emod_sq_ediv hp, Int.emod_emod]

section
variable {e : Nat} {x y : Int} (h : BitVec.ofInt (2 * e) x = BitVec.ofInt (2 * e) y)
include h

/-- The high half without rounding is the quotient of any integer that agrees modulo 2^(2 * e). -/
theorem highHalf_truncated : highHalf (2 * e) e false x = BitVec.ofInt e (y / 2 ^ e) := by
  rw [← extractLsb'_ofInt_double, ← h]
  simp [highHalf, wrapInt]

/-- The high half with rounding is the quotient after half of 2^e is added. -/
theorem highHalf_rounded : highHalf (2 * e) e true x = BitVec.ofInt e ((y + 2 ^ (e - 1)) / 2 ^ e) := by
  rw [← extractLsb'_ofInt_double, BitVec.ofInt_add, ← h, ← BitVec.ofInt_add]
  rfl

end

/-! ## The lanes of the long doubling multiplies -/

section
variable {e o : Nat} (subtract : Bool) (acc : BitVec o) (x y : BitVec e)

theorem toInt_satDoubleMul (ho : 0 < o) :
    (satDoubleMul o x y).1.toInt = clamp o false (2 * (x.toInt * y.toInt)) :=
  laneInt_saturate ho false _

/-- The doubled product is saturated before it is added or subtracted, and the result again. -/
theorem toInt_satDoubleMulAcc (ho : 0 < o) :
    (satDoubleMulAcc subtract acc x y).1.toInt =
      clamp o false (if subtract then acc.toInt - clamp o false (2 * (x.toInt * y.toInt))
        else acc.toInt + clamp o false (2 * (x.toInt * y.toInt))) := by
  rw [← toInt_satDoubleMul x y ho]
  exact laneInt_saturate ho false _

/-- QC is set where either saturation leaves the range. -/
theorem satDoubleMulAcc_flag (ho : 0 < o) :
    (satDoubleMulAcc subtract acc x y).2.getLsbD 27 = true ↔
      OutOfRange o false (2 * (x.toInt * y.toInt)) ∨
        OutOfRange o false (if subtract then acc.toInt - clamp o false (2 * (x.toInt * y.toInt))
          else acc.toInt + clamp o false (2 * (x.toInt * y.toInt))) := by
  rw [← toInt_satDoubleMul x y ho]
  unfold satDoubleMulAcc
  rw [BitVec.getLsbD_or, Bool.or_eq_true, saturate_flag]
  exact or_congr_left (saturate_flag _ _ _)

end

/-- The three long doubling multiplies from their flagged lanes: `x j` and `y j` are the factors of lane `j`. -/
theorem givesLongDoubling {s : State} {e d : Nat} {x y : Nat → BitVec e} {mull mlal mlsl : Instr} (he : 0 < 2 * e)
    (hmull : GivesFlaggedLanes mull s flagQC (2 * e) d 2 (fun j => satDoubleMul (2 * e) (x j) (y j)))
    (hmlal : GivesFlaggedLanes mlal s flagQC (2 * e) d 2
      (fun j => satDoubleMulAcc false (s.laneAt (2 * e) d j) (x j) (y j)))
    (hmlsl : GivesFlaggedLanes mlsl s flagQC (2 * e) d 2
      (fun j => satDoubleMulAcc true (s.laneAt (2 * e) d j) (x j) (y j))) :
    GivesLongDoubling s e d (fun j => (s.laneAt (2 * e) d j).toInt) (fun j => 2 * ((x j).toInt * (y j).toInt))
      mull mlal mlsl :=
  ⟨hmull.saturatedOnce he fun _ => rfl,
    hmlal.saturatedLanes (fun _ => toInt_satDoubleMulAcc false _ _ _ he) fun _ => satDoubleMulAcc_flag false _ _ _ he,
    hmlsl.saturatedLanes (fun _ => toInt_satDoubleMulAcc true _ _ _ he) fun _ => satDoubleMulAcc_flag true _ _ _ he⟩

/-! ## The meanings of the rows -/

section
variable (f : FThreeDiff) (s : State)

@[simp] theorem exec_vaddl : exec (.vaddl f) s = execVaddl f s := rfl
@[simp] theorem exec_vaddw : exec (.vaddw f) s = execVaddw f s := rfl
@[simp] theorem exec_vsubl : exec (.vsubl f) s = execVsubl f s := rfl
@[simp] theorem exec_vaddhn : exec (.vaddhn f) s = execVaddhn f s := rfl
@[simp] theorem exec_vsubw : exec (.vsubw f) s = execVsubw f s := rfl
@[simp] theorem exec_vsubhn : exec (.vsubhn f) s = execVsubhn f s := rfl
@[simp] theorem exec_vqdmlal3diff : exec (.vqdmlal3diff f) s = execVqdmlal3diff f s := rfl
@[simp] theorem exec_vabal : exec (.vabal f) s = execVabal f s := rfl
@[simp] theorem exec_vqdmlsl3diff : exec (.vqdmlsl3diff f) s = execVqdmlsl3diff f s := rfl
@[simp] theorem exec_vqdmull3diff : exec (.vqdmull3diff f) s = execVqdmull3diff f s := rfl
@[simp] theorem exec_vabdlInt : exec (.vabdlInt f) s = execVabdlInt f s := rfl
@[simp] theorem exec_vmlalInt : exec (.vmlalInt f) s = execVmlalInt f s := rfl
@[simp] theorem exec_vmlslInt : exec (.vmlslInt f) s = execVmlslInt f s := rfl
@[simp] theorem exec_vraddhn : exec (.vraddhn f) s = execVraddhn f s := rfl
@[simp] theorem exec_vrsubhn : exec (.vrsubhn f) s = execVrsubhn f s := rfl
@[simp] theorem exec_vmullIntPoly : exec (.vmullIntPoly f) s = execVmullIntPoly f s := rfl

end

section
variable (f : FTwoRegScalar) (s : State)

@[simp] theorem exec_vmlaScalar : exec (.vmlaScalar f) s = execVmlaScalar f s := rfl
@[simp] theorem exec_vqdmlalScalar : exec (.vqdmlalScalar f) s = execVqdmlalScalar f s := rfl
@[simp] theorem exec_vmlalScalar : exec (.vmlalScalar f) s = execVmlalScalar f s := rfl
@[simp] theorem exec_vqdmlslScalar : exec (.vqdmlslScalar f) s = execVqdmlslScalar f s := rfl
@[simp] theorem exec_vmlsScalar : exec (.vmlsScalar f) s = execVmlsScalar f s := rfl
@[simp] theorem exec_vqdmullScalar : exec (.vqdmullScalar f) s = execVqdmullScalar f s := rfl
@[simp] theorem exec_vmlslScalar : exec (.vmlslScalar f) s = execVmlslScalar f s := rfl
@[simp] theorem exec_vmulScalar : exec (.vmulScalar f) s = execVmulScalar f s := rfl
@[simp] theorem exec_vmullScalar : exec (.vmullScalar f) s = execVmullScalar f s := rfl

end

/-! ## The row shapes of "three registers of different lengths" -/

section
variable {i : Instr} {s : State} {A : Flags} {f : FThreeDiff} {undef : Bool}

/-- The row shape `long`. -/
theorem long_flagged {op : (e : Nat) → BitVec e → BitVec e → Lane (2 * e)} (he : exec i s = long f undef op s)
    (hu : undef = false) (hr : s.SimdReady) (hd : f.d % 2 = 0) (hz : f.size ≠ 0b11#2)
    (hw : ∀ e (x y : BitVec e), (op e x y).Within A) :
    GivesFlaggedLanes i s A (2 * esize f.size) f.d 2
      (fun j => op _ (s.laneAt (esize f.size) f.n j) (s.laneAt (esize f.size) f.m j)) :=
  long_binary_flagged (laneWidth_double hz) he (by simp [odd, hd, hu]) hr (quad_fits (hi := f.D) (lo := f.Vd) hd) (hw _)

/-- The row shape `longAcc`. -/
theorem longAcc_flagged {op : (e : Nat) → BitVec (2 * e) → BitVec e → BitVec e → Lane (2 * e)}
    (he : exec i s = longAcc f undef op s) (hu : undef = false) (hr : s.SimdReady) (hd : f.d % 2 = 0)
    (hz : f.size ≠ 0b11#2) (hw : ∀ e x (y z : BitVec e), (op e x y z).Within A) :
    GivesFlaggedLanes i s A (2 * esize f.size) f.d 2
      (fun j => op _ (s.laneAt (2 * esize f.size) f.d j) (s.laneAt (esize f.size) f.n j)
        (s.laneAt (esize f.size) f.m j)) :=
  long_accumulate_flagged (laneWidth_double hz) he (by simp [odd, hd, hu]) hr (quad_fits (hi := f.D) (lo := f.Vd) hd)
    (hw _)

/-- The row shape `wide`. -/
theorem wide_flagged {op : (e : Nat) → BitVec (2 * e) → BitVec e → Lane (2 * e)} (he : exec i s = wide f op s)
    (hr : s.SimdReady) (hd : f.d % 2 = 0) (hn : f.n % 2 = 0) (hz : f.size ≠ 0b11#2)
    (hw : ∀ e x (y : BitVec e), (op e x y).Within A) :
    GivesFlaggedLanes i s A (2 * esize f.size) f.d 2
      (fun j => op _ (s.laneAt (2 * esize f.size) f.n j) (s.laneAt (esize f.size) f.m j)) :=
  binary_flagged (laneWidth_double hz) he (by simp [odd, hd, hn]) hr (quad_fits (hi := f.D) (lo := f.Vd) hd) rfl
    (wide_lanes (laneWidth_double hz)).symm (hw _)

/-- The row shape `highNarrow`. -/
theorem highNarrow_flagged {op : (e : Nat) → BitVec (2 * e) → BitVec (2 * e) → Lane e}
    (he : exec i s = highNarrow f op s) (hr : s.SimdReady) (hn : f.n % 2 = 0) (hm : f.m % 2 = 0)
    (hz : f.size ≠ 0b11#2) (hw : ∀ e (x y : BitVec (2 * e)), (op e x y).Within A) :
    GivesFlaggedLanes i s A (esize f.size) f.d 1
      (fun j => op _ (s.laneAt (2 * esize f.size) f.n j) (s.laneAt (2 * esize f.size) f.m j)) :=
  binary_flagged (laneWidth_esize _) he (by simp [odd, hn, hm]) hr (vreg_lt f.D f.Vd) (wide_lanes (laneWidth_double hz))
    (wide_lanes (laneWidth_double hz)) (hw _)

end

/-! ## The long row shapes of "two registers and a scalar"

The rows by scalar, and the doubling multiplies of both tables, have lanes of 16 and 32 bits. -/

section
variable {size : BitVec 2} (h : size = 0b01#2 ∨ size = 0b10#2)
include h

theorem size_ne_byte : size ≠ 0b00#2 := by rcases h with rfl | rfl <;> decide

theorem size_ne_double : size ≠ 0b11#2 := by rcases h with rfl | rfl <;> decide

theorem notDoubling_eq_false : notDoubling size = false := by rcases h with rfl | rfl <;> decide

end

section
variable {i : Instr} {s : State} {A : Flags} {f : FTwoRegScalar}

/-- The row shape `longScalar`. -/
theorem longScalar_flagged {op : (e : Nat) → BitVec e → BitVec e → Lane (2 * e)}
    (he : exec i s = longScalar f op s) (hr : s.SimdReady) (hd : f.d % 2 = 0) (hz : f.size = 0b01#2 ∨ f.size = 0b10#2)
    (hw : ∀ e (x y : BitVec e), (op e x y).Within A) :
    GivesFlaggedLanes i s A (2 * esize f.size) f.d 2
      (fun j => op _ (s.laneAt (esize f.size) f.n j) (scalarOf f (esize f.size) s)) :=
  long_unary_flagged (op := fun a => op (esize f.size) a (scalarOf f (esize f.size) s))
    (laneWidth_double (size_ne_double hz)) he (by simp [odd, hd, size_ne_byte hz]) hr
    (quad_fits (hi := f.D) (lo := f.Vd) hd) (fun _ => hw _ _ _)

/-- The row shape `longScalarAcc`. -/
theorem longScalarAcc_flagged {op : (e : Nat) → BitVec (2 * e) → BitVec e → BitVec e → Lane (2 * e)}
    (he : exec i s = longScalarAcc f op s) (hr : s.SimdReady) (hd : f.d % 2 = 0)
    (hz : f.size = 0b01#2 ∨ f.size = 0b10#2) (hw : ∀ e x (y z : BitVec e), (op e x y z).Within A) :
    GivesFlaggedLanes i s A (2 * esize f.size) f.d 2
      (fun j => op _ (s.laneAt (2 * esize f.size) f.d j) (s.laneAt (esize f.size) f.n j)
        (scalarOf f (esize f.size) s)) :=
  long_accumulateOne_flagged (op := fun d a => op (esize f.size) d a (scalarOf f (esize f.size) s))
    (laneWidth_double (size_ne_double hz)) he (by simp [odd, hd, size_ne_byte hz]) hr
    (quad_fits (hi := f.D) (lo := f.Vd) hd) (fun _ _ => hw _ _ _ _)

end

/-! ## The statements -/

/-- Settles O47: each row is its shape, and its lane is the exact integer modulo 2^(2 * esize), since narrowing commutes
with sum, difference and product. -/
theorem longAndWideArithmetic : Obligations.LongAndWideArithmetic := by
  constructor
  · rintro f s _ _ _ _ hr hd rfl hz rfl rfl rfl
    refine ⟨?_, fun hp => ?_, fun hn => ⟨?_, ?_⟩⟩
    · simp only [List.forall_mem_cons]
      exact ⟨
        (long_flagged (exec_vaddl f s) rfl hr hd hz fun _ _ _ => plain_within _ _).plainLanes fun _ =>
          (BitVec.ofInt_add _ _).symm,
        (long_flagged (exec_vsubl f s) rfl hr hd hz fun _ _ _ => plain_within _ _).plainLanes fun _ =>
          (ofInt_sub _ _ _).symm,
        (long_flagged (exec_vabdlInt f s) rfl hr hd hz fun _ _ _ => plain_within _ _).plainLanes fun _ => rfl,
        (longAcc_flagged (exec_vabal f s) rfl hr hd hz fun _ _ _ _ => plain_within _ _).plainLanes fun _ =>
          (ofInt_toNat_add _ _).symm,
        (longAcc_flagged (exec_vmlalInt f s) rfl hr hd hz fun _ _ _ _ => plain_within _ _).plainLanes fun _ =>
          (ofInt_toNat_add _ _).symm,
        (longAcc_flagged (exec_vmlslInt f s) rfl hr hd hz fun _ _ _ _ => plain_within _ _).plainLanes fun _ =>
          (ofInt_toNat_sub _ _).symm,
        List.forall_mem_nil _⟩
    · have hpoly : mullPoly f = false := hp
      exact (long_flagged (exec_vmullIntPoly f s) (by simp [mullUndef, hpoly]) hr hd hz
        fun _ _ _ => plain_within _ _).plainLanes fun _ => by simp [hpoly, mulInt, wrapInt]
    · exact (wide_flagged (exec_vaddw f s) hr hd hn hz fun _ _ _ => plain_within _ _).plainLanes fun _ =>
        (ofInt_toNat_add _ _).symm
    · exact (wide_flagged (exec_vsubw f s) hr hd hn hz fun _ _ _ => plain_within _ _).plainLanes fun _ =>
        (ofInt_toNat_sub _ _).symm
  · rintro f s _ _ _ _ hr hd hz rfl rfl rfl rfl
    simp only [List.forall_mem_cons]
    exact ⟨
      (longScalarAcc_flagged (exec_vmlalScalar f s) hr hd hz fun _ _ _ _ => plain_within _ _).plainLanes fun _ =>
        (ofInt_toNat_add _ _).symm,
      (longScalarAcc_flagged (exec_vmlslScalar f s) hr hd hz fun _ _ _ _ => plain_within _ _).plainLanes fun _ =>
        (ofInt_toNat_sub _ _).symm,
      (longScalar_flagged (exec_vmullScalar f s) hr hd hz fun _ _ _ => plain_within _ _).plainLanes fun _ => rfl,
      List.forall_mem_nil _⟩

/-- Settles O48: the six rows are their shapes, and each table has its factors of lane `j`. -/
theorem longDoublingMultiplies : Obligations.LongDoublingMultiplies := by
  constructor
  · rintro f s _ _ _ hr hd hz rfl rfl rfl
    have h11 := size_ne_double hz
    have hu := notDoubling_eq_false hz
    exact givesLongDoubling (laneWidth_double h11).pos
      (long_flagged (exec_vqdmull3diff f s) hu hr hd h11 fun _ => satDoubleMul_within _)
      (longAcc_flagged (exec_vqdmlal3diff f s) hu hr hd h11 fun _ => satDoubleMulAcc_within _)
      (longAcc_flagged (exec_vqdmlsl3diff f s) hu hr hd h11 fun _ => satDoubleMulAcc_within _)
  · rintro f s _ _ _ hr hd hz rfl rfl rfl
    exact givesLongDoubling (laneWidth_double (size_ne_double hz)).pos
      (longScalar_flagged (exec_vqdmullScalar f s) hr hd hz fun _ => satDoubleMul_within _)
      (longScalarAcc_flagged (exec_vqdmlalScalar f s) hr hd hz fun _ => satDoubleMulAcc_within _)
      (longScalarAcc_flagged (exec_vqdmlslScalar f s) hr hd hz fun _ => satDoubleMulAcc_within _)

/-- Settles O49: the four rows are their shape, and the high half of a wrapped sum is the quotient of the exact one. -/
theorem highHalfNarrowing : Obligations.HighHalfNarrowing := by
  rintro f s _ _ _ hr hn hm hz rfl rfl rfl
  exact ⟨
    (highNarrow_flagged (exec_vaddhn f s) hr hn hm hz fun _ _ _ => plain_within _ _).plainLanes fun _ =>
      highHalf_truncated (ofInt_toInt_add _ _),
    (highNarrow_flagged (exec_vsubhn f s) hr hn hm hz fun _ _ _ => plain_within _ _).plainLanes fun _ =>
      highHalf_truncated (ofInt_toInt_sub _ _),
    (highNarrow_flagged (exec_vraddhn f s) hr hn hm hz fun _ _ _ => plain_within _ _).plainLanes fun _ =>
      highHalf_rounded (ofInt_toInt_add _ _),
    (highNarrow_flagged (exec_vrsubhn f s) hr hn hm hz fun _ _ _ => plain_within _ _).plainLanes fun _ =>
      highHalf_rounded (ofInt_toInt_sub _ _)⟩

/-! ## VMLA, VMLS and VMUL by scalar -/

/-- A lane of the first register of an operand. -/
theorem State.laneAt_first (s : State) {e n j : Nat} (h : j < 64 / e) : s.laneAt e n j = lane e (s.readD n) j := by
  rw [State.laneAt, Nat.div_eq_of_lt h, Nat.mod_eq_of_lt h, Nat.add_zero]

/-- The bits M:Vm<3> as a number. -/
theorem toNat_append_bit3 :
    ∀ (m : BitVec 1) (v : BitVec 4), (m ++ v.extractLsb' 3 1).toNat = 2 * m.toNat + v.toNat / 8 := by decide

/-- The scalar of 16-bit lanes: lane M:Vm<3> of register Vm<2:0> (rule R320). -/
theorem scalarOf_half {f : FTwoRegScalar} (h : f.size = 0b01#2) (s : State) :
    scalarOf f 16 s = s.laneAt 16 (f.Vm.extractLsb' 0 3).toNat (f.M ++ f.Vm.extractLsb' 3 1).toNat := by
  have hreg : f.m = (f.Vm.extractLsb' 0 3).toNat := by simp [FTwoRegScalar.m, h]
  have hindex : f.index = (f.M ++ f.Vm.extractLsb' 3 1).toNat := by
    rw [FTwoRegScalar.index, if_pos h, toNat_append_bit3]
  rw [scalarOf, hreg, hindex, State.laneAt_first s (BitVec.isLt _)]

/-- The scalar of 32-bit lanes: lane M of register Vm (rule R320). -/
theorem scalarOf_single {f : FTwoRegScalar} (h : f.size = 0b10#2) (s : State) :
    scalarOf f 32 s = s.laneAt 32 f.Vm.toNat f.M.toNat := by
  have hreg : f.m = f.Vm.toNat := by simp [FTwoRegScalar.m, h]
  have hindex : f.index = f.M.toNat := by simp [FTwoRegScalar.index, h]
  rw [scalarOf, hreg, hindex, State.laneAt_first s (BitVec.isLt _)]

/-- The scalar of both lane widths of the rows by scalar. -/
theorem scalarOf_eq {f : FTwoRegScalar} {s : State} {b : BitVec (esize f.size)}
    (h : (f.size = 0b01#2 ∧
        b = s.laneAt (esize f.size) (f.Vm.extractLsb' 0 3).toNat (f.M ++ f.Vm.extractLsb' 3 1).toNat) ∨
      (f.size = 0b10#2 ∧ b = s.laneAt (esize f.size) f.Vm.toNat f.M.toNat)) :
    scalarOf f (esize f.size) s = b := by
  rcases h with ⟨h, rfl⟩ | ⟨h, rfl⟩
  · rw [show esize f.size = 16 from congrArg esize h]; exact scalarOf_half h s
  · rw [show esize f.size = 32 from congrArg esize h]; exact scalarOf_single h s

/-- Settles O50: opc<0> decides which branch of the row's operation its lanes take, and the scalar is `b`. -/
theorem multipliesByScalar : Obligations.MultipliesByScalar := by
  rintro f s _ _ _ b hr hv rfl rfl rfl hb
  obtain rfl := scalarOf_eq hb
  have hz : f.size ≠ 0b00#2 := size_ne_byte (hb.imp And.left And.left)
  refine ⟨fun hx => ?_, fun hx hfp16 => ?_⟩
  · have hint : scalarFloat f = false := hx
    have hu : scalarNoHalf f s = false := by simp [scalarNoHalf, hint]
    refine ⟨?_, ?_, ?_⟩
    · exact (byScalarAcc_flagged (op := fun _ d a b => plain (d + a * b))
        (by simp [execVmlaScalar, hint]) hu hz hr hv fun _ _ _ _ => plain_within _ _).plainLanes fun _ => by
          rw [plain_fst, ofInt_toNat_add, ofInt_toNat_mul]
    · exact (byScalarAcc_flagged (op := fun _ d a b => plain (d - a * b))
        (by simp [execVmlsScalar, hint]) hu hz hr hv fun _ _ _ _ => plain_within _ _).plainLanes fun _ => by
          rw [plain_fst, ofInt_toNat_sub, ofInt_toNat_mul]
    · exact (byScalar_flagged (op := fun _ a b => plain (a * b))
        (by simp [execVmulScalar, hint]) hu hz hr hv fun _ _ _ => plain_within _ _).plainLanes fun _ =>
          (ofInt_toNat_mul _ _).symm
  · have hfloat : scalarFloat f = true := hx
    have hu : scalarNoHalf f s = false := by simpa [scalarNoHalf, noHalf, hfloat] using hfp16
    exact ⟨
      byScalarAcc_flagged (op := fun _ => fpMulThenAdd false) (by simp [execVmlaScalar, hfloat]) hu hz hr hv
        fun _ => fpMulThenAdd_within _,
      byScalarAcc_flagged (op := fun _ => fpMulThenAdd true) (by simp [execVmlsScalar, hfloat]) hu hz hr hv
        fun _ => fpMulThenAdd_within _,
      byScalar_flagged (op := fun _ => fpMul) (by simp [execVmulScalar, hfloat]) hu hz hr hv
        fun _ => fpMul_within⟩

end Sys2Proof.Machine
end

section
/-! One register and modified immediate, and two registers and shift amount (rules R331 to R341, R351 to R358, R361 to
R368, R375): the expanded constant lane by lane, the lane width and the amounts that L:imm6 gives, the shifts by an
immediate as arithmetic on integers, and the statements about the rows. -/

namespace Sys2Proof.Machine

/-! ## The meanings of the rows -/

section
variable (f : FOneRegImm) (s : State)

@[simp] theorem exec_vmovImmA1 : exec (.vmovImmA1 f) s = execVmovImmA1 f s := rfl
@[simp] theorem exec_vmvnImmA1 : exec (.vmvnImmA1 f) s = execVmvnImmA1 f s := rfl
@[simp] theorem exec_vorrImmA1 : exec (.vorrImmA1 f) s = execVorrImmA1 f s := rfl
@[simp] theorem exec_vbicImmA1 : exec (.vbicImmA1 f) s = execVbicImmA1 f s := rfl
@[simp] theorem exec_vmovImmA3 : exec (.vmovImmA3 f) s = execVmovImmA3 f s := rfl
@[simp] theorem exec_vmvnImmA2 : exec (.vmvnImmA2 f) s = execVmvnImmA2 f s := rfl
@[simp] theorem exec_vorrImmA2 : exec (.vorrImmA2 f) s = execVorrImmA2 f s := rfl
@[simp] theorem exec_vbicImmA2 : exec (.vbicImmA2 f) s = execVbicImmA2 f s := rfl
@[simp] theorem exec_vmovImmA4 : exec (.vmovImmA4 f) s = execVmovImmA4 f s := rfl
@[simp] theorem exec_vmvnImmA3 : exec (.vmvnImmA3 f) s = execVmvnImmA3 f s := rfl
@[simp] theorem exec_vmovImmA5 : exec (.vmovImmA5 f) s = execVmovImmA5 f s := rfl

end

section
variable (f : FTwoRegShift) (s : State)

@[simp] theorem exec_vshr : exec (.vshr f) s = execVshr f s := rfl
@[simp] theorem exec_vsra : exec (.vsra f) s = execVsra f s := rfl
@[simp] theorem exec_vrshr : exec (.vrshr f) s = execVrshr f s := rfl
@[simp] theorem exec_vrsra : exec (.vrsra f) s = execVrsra f s := rfl
@[simp] theorem exec_vqshlImm : exec (.vqshlImm f) s = execVqshlImm f s := rfl
@[simp] theorem exec_vqshrn : exec (.vqshrn f) s = execVqshrn f s := rfl
@[simp] theorem exec_vqrshrn : exec (.vqrshrn f) s = execVqrshrn f s := rfl
@[simp] theorem exec_vshlImm : exec (.vshlImm f) s = execVshlImm f s := rfl
@[simp] theorem exec_vshrn : exec (.vshrn f) s = execVshrn f s := rfl
@[simp] theorem exec_vrshrn : exec (.vrshrn f) s = execVrshrn f s := rfl
@[simp] theorem exec_vsri : exec (.vsri f) s = execVsri f s := rfl
@[simp] theorem exec_vsli : exec (.vsli f) s = execVsli f s := rfl
@[simp] theorem exec_vqshluImm : exec (.vqshluImm f) s = execVqshluImm f s := rfl
@[simp] theorem exec_vqshrun : exec (.vqshrun f) s = execVqshrun f s := rfl
@[simp] theorem exec_vqrshrun : exec (.vqrshrun f) s = execVqrshrun f s := rfl

end

/-! ## Modified immediates -/

/-- A 64-bit lane is a whole doubleword register. -/
theorem State.laneAt_doubleword (s : State) (n k : Nat) : s.laneAt 64 n k = s.readD (n + k) := by
  simp [State.laneAt, lane, Nat.mod_one]

/-- The row shape `immediateRow`. -/
theorem immediateRow_completes {i : Instr} {s : State} {f : FOneRegImm} {op : DWord → DWord → DWord}
    (he : exec i s = immediateRow f op s) (hr : s.SimdReady) (hv : EvenFor f.Q [f.d]) :
    Completes i s fun t =>
      VectorFrame 0#32 (Regs f.d (regCount f.Q)) s t ∧
        ∀ k, k < regCount f.Q → t.readD (f.d + k) = op (s.readD (f.d + k)) (expandImm f.cmode f.op f.imm8) := by
  obtain ⟨t, ht, hframe, hlanes, -⟩ := unary_flagged (A := 0#32) (by simp [LaneWidth]) he
    (oddQuad_of_even hv (by simp)) hr (fits_of_even (hi := f.D) (lo := f.Vd) hv (by simp [FOneRegImm.d])) rfl
    fun _ => plain_within _ _
  refine ⟨t, ht, hframe, fun k hk => ?_⟩
  have hlane := hlanes k (by simpa using hk)
  rwa [State.laneAt_doubleword, plain_fst, State.laneAt_doubleword] at hlane

/-- Settles O51: each row is `immediateRow` of its operation on the destination and the constant. -/
theorem modifiedImmediates : Obligations.ModifiedImmediates := by
  rintro f s _ hr hv rfl
  simp only [List.forall_mem_cons]
  exact ⟨immediateRow_completes (exec_vmovImmA1 f s) hr hv, immediateRow_completes (exec_vmovImmA3 f s) hr hv,
    immediateRow_completes (exec_vmovImmA4 f s) hr hv, immediateRow_completes (exec_vmovImmA5 f s) hr hv,
    immediateRow_completes (exec_vmvnImmA1 f s) hr hv, immediateRow_completes (exec_vmvnImmA2 f s) hr hv,
    immediateRow_completes (exec_vmvnImmA3 f s) hr hv, immediateRow_completes (exec_vorrImmA1 f s) hr hv,
    immediateRow_completes (exec_vorrImmA2 f s) hr hv, immediateRow_completes (exec_vbicImmA1 f s) hr hv,
    immediateRow_completes (exec_vbicImmA2 f s) hr hv, List.forall_mem_nil _⟩

/-! ## The expanded constant

The constant is one lane value repeated: as packed lanes it gives that value back in each lane. -/

section
variable {e : Nat} (x : BitVec e)

theorem packLanes_singleton : packLanes e [x] = x.setWidth 64 := by simp [packLanes]

theorem packLanes_cons_eq_append {n : Nat} {rest : List (BitVec e)} {y : BitVec n}
    (h : packLanes e rest = y.setWidth 64) : packLanes e (x :: rest) = (y ++ x).setWidth 64 := by
  rw [packLanes, h, BitVec.setWidth_append_eq_shiftLeft_setWidth_or, BitVec.or_comm]

end

theorem getD_replicate_of_lt {α : Type} (x : α) {n k : Nat} {y : α} (hk : k < n) :
    (List.replicate n x).getD k y = x := by
  rw [List.getD_eq_getElem?_getD, List.getElem?_replicate_of_lt hk, Option.getD_some]

theorem lane_twice32 (x : BitVec 32) {k : Nat} (hk : k < 2) : lane 32 (twice32 x) k = x := by
  have hp : packLanes 32 (List.replicate 2 x) = twice32 x :=
    (packLanes_cons_eq_append x (packLanes_singleton x)).trans (BitVec.setWidth_eq _)
  rw [← hp, lane_packLanes 32 (by unfold LaneWidth; decide) _ _ hk, getD_replicate_of_lt x hk]

theorem lane_four16 (x : BitVec 16) {k : Nat} (hk : k < 4) : lane 16 (four16 x) k = x := by
  have hp : packLanes 16 (List.replicate 4 x) = four16 x :=
    (packLanes_cons_eq_append x <| packLanes_cons_eq_append x <| packLanes_cons_eq_append x <|
      packLanes_singleton x).trans (BitVec.setWidth_eq _)
  rw [← hp, lane_packLanes 16 (by unfold LaneWidth; decide) _ _ hk, getD_replicate_of_lt x hk]

/-- Eight bytes beside each other, the last in the least significant bits, as packed lanes. -/
theorem packLanes_eq_append8 (a b c d p q r s : BitVec 8) :
    packLanes 8 [a, b, c, d, p, q, r, s] = s ++ r ++ q ++ p ++ d ++ c ++ b ++ a :=
  (packLanes_cons_eq_append a <| packLanes_cons_eq_append b <| packLanes_cons_eq_append c <|
    packLanes_cons_eq_append d <| packLanes_cons_eq_append p <| packLanes_cons_eq_append q <|
    packLanes_cons_eq_append r <| packLanes_singleton s).trans (BitVec.setWidth_eq _)

theorem lane_eight8 (x : BitVec 8) {k : Nat} (hk : k < 8) : lane 8 (eight8 x) k = x := by
  have hp : packLanes 8 (List.replicate 8 x) = eight8 x := packLanes_eq_append8 x x x x x x x x
  rw [← hp, lane_packLanes 8 (.inl rfl) _ _ hk, getD_replicate_of_lt x hk]

theorem lane_bitsToBytes (x : BitVec 8) {k : Nat} (hk : k < 8) :
    lane 8 (bitsToBytes x) k = byteOfBit (x.getLsbD k) := by
  have hp : packLanes 8 ((List.range 8).map fun i => byteOfBit (x.getLsbD i)) = bitsToBytes x :=
    packLanes_eq_append8 _ _ _ _ _ _ _ _
  rw [← hp, lane_packLanes 8 (.inl rfl) _ _ hk, List.getD_eq_getElem?_getD, List.getElem?_map,
    List.getElem?_range hk, Option.map_some, Option.getD_some]

/-- A value with zeros above it. -/
theorem zero_append_eq_setWidth {m n : Nat} (x : BitVec n) : 0#m ++ x = x.setWidth (m + n) := by
  rw [← BitVec.setWidth_eq (0#m ++ x), BitVec.setWidth_append_eq_shiftLeft_setWidth_or]
  simp

/-- A value with another below it. -/
theorem append_eq_shiftLeft_or {m n : Nat} (x : BitVec m) (y : BitVec n) :
    x ++ y = x.setWidth (m + n) <<< n ||| y.setWidth (m + n) := by
  rw [← BitVec.setWidth_eq (x ++ y), BitVec.setWidth_append_eq_shiftLeft_setWidth_or]

/-- A value with zeros above it and another value below. -/
theorem zero_append_append_eq {m n p : Nat} (x : BitVec n) (y : BitVec p) :
    0#m ++ x ++ y = x.setWidth (m + n + p) <<< p ||| y.setWidth (m + n + p) := by
  rw [← BitVec.setWidth_eq (0#m ++ x ++ y), BitVec.setWidth_append_append_eq_shiftLeft_setWidth_or]
  simp

/-- The cells of `cmode` with bit 3 clear, each with the byte of the word that the immediate stands in. -/
theorem cmode_word : ∀ c : BitVec 4, c.getLsbD 3 = false →
    (c &&& 0b1110#4 = 0b0000#4 ∧ c.toNat / 2 = 0) ∨ (c &&& 0b1110#4 = 0b0010#4 ∧ c.toNat / 2 = 1) ∨
      (c &&& 0b1110#4 = 0b0100#4 ∧ c.toNat / 2 = 2) ∨ (c &&& 0b1110#4 = 0b0110#4 ∧ c.toNat / 2 = 3) := by
  decide

section
variable (op : BitVec 1) (x : BitVec 8)

theorem expandImm_word {cmode : BitVec 4} (h : cmode.getLsbD 3 = false) :
    expandImm cmode op x = twice32 (x.setWidth 32 <<< (8 * (cmode.toNat / 2))) := by
  rcases cmode_word cmode h with ⟨hc, hn⟩ | ⟨hc, hn⟩ | ⟨hc, hn⟩ | ⟨hc, hn⟩
  · simp [expandImm, hc, hn, zero_append_eq_setWidth (m := 24) x]
  · simp [expandImm, hc, hn, zero_append_append_eq (m := 16) x 0#8]
  · simp [expandImm, hc, hn, zero_append_append_eq (m := 8) x 0#16]
  · simp [expandImm, hc, hn, append_eq_shiftLeft_or x 0#24]

theorem extractLsb'_one {n : Nat} (y : BitVec n) (i : Nat) : y.extractLsb' i 1 = BitVec.ofBool (y.getLsbD i) := by
  ext k hk
  obtain rfl : k = 0 := by omega
  simp

theorem fpConstant_eq : fpConstant x =
    BitVec.ofBool (x.getLsbD 7) ++ BitVec.ofBool (!x.getLsbD 6) ++ BitVec.ofBool (x.getLsbD 6) ++
      BitVec.ofBool (x.getLsbD 6) ++ BitVec.ofBool (x.getLsbD 6) ++ BitVec.ofBool (x.getLsbD 6) ++
      BitVec.ofBool (x.getLsbD 6) ++ x.extractLsb' 0 6 ++ 0#19 := by
  rw [fpConstant, extractLsb'_one, extractLsb'_one]
  cases x.getLsbD 7 <;> cases x.getLsbD 6 <;> rfl

end

/-- Settles O52: each cell of `cmode` and `op` repeats one lane value over the doubleword, or expands each bit to a
byte. -/
theorem modifiedImmediateTable : Obligations.ModifiedImmediateTable := by
  rintro cmode op x _ rfl
  refine ⟨fun h k hk => ?_, fun h k hk => ?_, fun h k hk => ?_, ?_, ?_, ?_, ?_, ?_⟩
  · rw [expandImm_word op x h, lane_twice32 _ hk]
  · rcases h with rfl | rfl <;> exact (lane_four16 (0#8 ++ x) hk).trans (zero_append_eq_setWidth x)
  · have hx : x ++ 0#8 = x.setWidth 16 <<< 8 := by simp [append_eq_shiftLeft_or x 0#8]
    rcases h with rfl | rfl <;> exact (lane_four16 (x ++ 0#8) hk).trans hx
  · rintro rfl k hk
    exact (lane_twice32 _ hk).trans (zero_append_append_eq (m := 16) x 0xFF#8)
  · rintro rfl k hk
    exact (lane_twice32 _ hk).trans (zero_append_append_eq (m := 8) x 0xFFFF#16)
  · rintro rfl rfl k hk
    exact lane_eight8 x hk
  · rintro rfl rfl k hk
    exact lane_bitsToBytes x hk
  · rintro rfl rfl k hk
    exact (lane_twice32 _ hk).trans (fpConstant_eq x)

/-! ## The lane width and the amounts of a shift by an immediate -/

/-- The amount of a right shift is never 0. -/
theorem shift_right_pos (f : FTwoRegShift) : 0 < f.right := by
  have hwide : f.imm6 < 64 := BitVec.isLt _
  have hlane : ∀ hi lo : BitVec 3,
      (hi ++ lo).toNat < 2 * (if hi.getLsbD 2 then 32 else if hi.getLsbD 1 then 16 else 8) := by decide
  unfold FTwoRegShift.right FTwoRegShift.esize
  split
  · omega
  · exact Nat.sub_pos_of_lt (hlane f.imm3H f.imm3L)

section
variable {f : FTwoRegShift}

/-- The lane width by the leading one of imm6 (rule R375). -/
theorem esize_eq_of_leading_one (hL : f.L = 0#1) (h8 : 8 ≤ f.imm6) : f.esize = 8 * 2 ^ Nat.log2 (f.imm6 / 8) := by
  have hlane : ∀ hi lo : BitVec 3, 8 ≤ (hi ++ lo).toNat →
      (if hi.getLsbD 2 then 32 else if hi.getLsbD 1 then 16 else 8) = 8 * 2 ^ Nat.log2 ((hi ++ lo).toNat / 8) := by
    decide
  rw [FTwoRegShift.esize, if_neg (by simp [hL])]
  exact hlane f.imm3H f.imm3L h8

/-- Where L = 0 the amounts are relative to the lane width. -/
theorem shift_right_eq (hL : f.L = 0#1) : f.right = 2 * f.esize - f.imm6 := if_neg (by simp [hL])

/-- The lane width and the amounts as the table of rule R375 gives them. -/
theorem shift_amounts {e right left : Nat}
    (h : (f.L = 1#1 ∧ e = 64 ∧ right = 64 - f.imm6 ∧ left = f.imm6) ∨
      (f.L = 0#1 ∧ 8 ≤ f.imm6 ∧ e = 8 * 2 ^ Nat.log2 (f.imm6 / 8) ∧ right = 2 * e - f.imm6 ∧ left = f.imm6 - e)) :
    e = f.esize ∧ right = f.right ∧ left = f.left := by
  rcases h with ⟨hL, rfl, rfl, rfl⟩ | ⟨hL, h8, he, rfl, rfl⟩
  · simp [FTwoRegShift.esize, FTwoRegShift.right, FTwoRegShift.left, hL]
  · rw [← esize_eq_of_leading_one hL h8] at he
    simp [he, FTwoRegShift.right, FTwoRegShift.left, hL]

end

/-! ## Shifts as arithmetic on integers -/

section
variable {e : Nat} (unsigned : Bool) (x : BitVec e)

theorem ofInt_laneInt : BitVec.ofInt e (laneInt unsigned x) = x := by
  cases unsigned
  · exact BitVec.ofInt_toInt
  · exact ofInt_toNat x

/-- A left shift multiplies the lane, read with or without its sign. -/
theorem shiftLeft_eq_ofInt (n : Nat) : x <<< n = BitVec.ofInt e (laneInt unsigned x * 2 ^ n) := by
  have hcast : (2 : Int) ^ n = (2 ^ n : Nat) := (Int.natCast_pow 2 n).symm
  have hpow : BitVec.ofInt e (2 ^ n) = BitVec.twoPow e n := by
    rw [hcast, BitVec.ofInt_natCast]
    exact BitVec.eq_of_toNat_eq (by rw [BitVec.toNat_ofNat, BitVec.toNat_twoPow])
  rw [BitVec.ofInt_mul, ofInt_laneInt, hpow, BitVec.shiftLeft_eq_mul_twoPow]

theorem shiftInt_natCast (v : Int) (n : Nat) : shiftInt v n = v * 2 ^ n := by simp [shiftInt]

theorem shiftInt_neg (v : Int) (n : Nat) : shiftInt v (-(n : Int)) = v / 2 ^ n := by
  rcases Nat.eq_zero_or_pos n with rfl | hn
  · simp [shiftInt]
  · rw [shiftInt, if_neg (by omega), Int.neg_neg, Int.toNat_natCast]

/-- A right shift rounds the quotient down. -/
theorem shiftRightInt_truncated (n : Nat) :
    shiftRightInt unsigned false n x = laneInt unsigned x / 2 ^ n := by
  simp [shiftRightInt, shiftInt_neg]

/-- A rounding right shift adds half a unit first. -/
theorem shiftRightInt_rounded {n : Nat} (hn : 0 < n) :
    shiftRightInt unsigned true n x = (laneInt unsigned x + 2 ^ (n - 1)) / 2 ^ n := by
  have hround : roundConst (-(n : Int)) = 2 ^ (n - 1) := by
    rw [roundConst, if_pos (by omega), Int.neg_neg, Int.toNat_natCast]
  rw [shiftRightInt, shiftInt_neg, if_pos rfl, hround]

/-- The low bits of a lane shifted right are those of the quotient of its value. -/
theorem setWidth_ushiftRight_eq_ofInt (o n : Nat) :
    (x >>> n).setWidth o = BitVec.ofInt o ((x.toNat : Int) / 2 ^ n) := by
  rw [← BitVec.ofNat_toNat, BitVec.toNat_ushiftRight, Nat.shiftRight_eq_div_pow, ← BitVec.ofInt_natCast,
    Int.natCast_ediv, Int.natCast_pow]
  rfl

end

section
variable {e : Nat} (n : Nat) (d x : BitVec e) {b : Nat}

/-- The bits of a right shift with insertion. -/
theorem getLsbD_shiftRightInsert (hb : b < e) :
    (shiftRightInsert n d x).getLsbD b = if b + n < e then x.getLsbD (b + n) else d.getLsbD b := by
  by_cases h : b + n < e
  · simp [shiftRightInsert, hb, h, Nat.add_comm n b]
  · have hx : x.getLsbD (b + n) = false := BitVec.getLsbD_of_ge _ _ (by omega)
    simp [shiftRightInsert, hb, h, hx, Nat.add_comm n b]

/-- The bits of a left shift with insertion. -/
theorem getLsbD_shiftLeftInsert (hb : b < e) :
    (shiftLeftInsert n d x).getLsbD b = if b < n then d.getLsbD b else x.getLsbD (b - n) := by
  by_cases h : b < n
  · simp [shiftLeftInsert, hb, h]
  · simp [shiftLeftInsert, hb, h, show b - n < e by omega]

end

/-! ## The statements about shifts -/

/-- The row shape `narrowRow`. -/
theorem narrowRow_flagged {i : Instr} {s : State} {A : Flags} {f : FTwoRegShift}
    {op : (e : Nat) → BitVec (2 * e) → Lane e} (he : exec i s = narrowRow f op s) (hr : s.SimdReady) (hL : f.L = 0#1)
    (hm : f.m % 2 = 0) (hw : ∀ e (x : BitVec (2 * e)), (op e x).Within A) :
    GivesFlaggedLanes i s A f.esize f.d 1 (fun j => op _ (s.laneAt (2 * f.esize) f.m j)) :=
  narrow_flagged (laneWidth_shift f) (laneWidth_shift_double hL) he (by simp [isSet, odd, hL, hm]) hr
    (vreg_lt f.D f.Vd) (hw _)

/-- Lanes that set no flag, whose bits are known. -/
theorem GivesFlaggedLanes.plainBits {i : Instr} {s : State} {e d count : Nat} {r : Nat → Lane e}
    {bit : Nat → Nat → Bool} (h : GivesFlaggedLanes i s 0#32 e d count r)
    (hbit : ∀ j b, b < e → (r j).1.getLsbD b = bit j b) :
    Completes i s fun t =>
      VectorFrame 0#32 (Regs d count) s t ∧
        ∀ j, j < count * (64 / e) → ∀ b, b < e → (t.laneAt e d j).getLsbD b = bit j b := by
  obtain ⟨t, ht, hframe, hlanes, -⟩ := h
  exact ⟨t, ht, hframe, fun j hj b hb => by rw [hlanes j hj, hbit j b hb]⟩

/-- Settles O53: the lane width and the amounts are the model's, and each row is its shape with the shift as integer
arithmetic, or bit by bit where it inserts. -/
theorem shiftsByImmediate : Obligations.ShiftsByImmediate := by
  rintro f s e right left _ _ hr hv hamounts rfl rfl
  obtain ⟨rfl, rfl, rfl⟩ := shift_amounts hamounts
  refine ⟨?_, ?_, ?_, ?_, ?_, ?_, ?_⟩
  · exact (shiftRow_flagged (exec_vshr f s) hr hv fun _ _ => plain_within _ _).plainLanes fun _ =>
      congrArg (wrapInt _) (shiftRightInt_truncated _ _ _)
  · exact (shiftRowAcc_flagged (exec_vsra f s) hr hv fun _ _ _ => plain_within _ _).plainLanes fun _ => by
      rw [plain_fst, shiftRightInt_truncated, ofInt_toNat_add]; rfl
  · exact (shiftRow_flagged (exec_vrshr f s) hr hv fun _ _ => plain_within _ _).plainLanes fun _ =>
      congrArg (wrapInt _) (shiftRightInt_rounded _ _ (shift_right_pos f))
  · exact (shiftRowAcc_flagged (exec_vrsra f s) hr hv fun _ _ _ => plain_within _ _).plainLanes fun _ => by
      rw [plain_fst, shiftRightInt_rounded _ _ (shift_right_pos f), ofInt_toNat_add]; rfl
  · exact (shiftRow_flagged (exec_vshlImm f s) hr hv fun _ _ => plain_within _ _).plainLanes fun _ =>
      shiftLeft_eq_ofInt _ _ _
  · exact (shiftRowAcc_flagged (exec_vsri f s) hr hv fun _ _ _ => plain_within _ _).plainBits fun _ _ hb =>
      getLsbD_shiftRightInsert _ _ _ hb
  · exact (shiftRowAcc_flagged (exec_vsli f s) hr hv fun _ _ _ => plain_within _ _).plainBits fun _ _ hb =>
      getLsbD_shiftLeftInsert _ _ _ hb

/-- Settles O54: each row is its shape, and saturates or narrows the exact integer of its shift. -/
theorem saturatingAndNarrowingShifts : Obligations.SaturatingAndNarrowingShifts := by
  constructor
  · rintro f s _ _ _ _ hr hv rfl rfl rfl rfl
    have he := (laneWidth_shift f).pos
    exact ⟨
      (shiftRow_flagged (exec_vqshlImm f s) hr hv fun _ _ => saturate_within _ _ _).saturatedOnce he fun _ =>
        congrArg (saturate _ _) (shiftInt_natCast _ _),
      (shiftRow_flagged (exec_vqshluImm f s) hr hv fun _ _ => saturate_within _ _ _).saturatedOnce he fun _ =>
        congrArg (saturate _ _) (shiftInt_natCast _ _)⟩
  · rintro f s _ _ _ _ hr hm hL rfl rfl rfl rfl
    rw [← shift_right_eq hL]
    have he := (laneWidth_shift f).pos
    refine ⟨?_, ?_, ?_⟩
    · exact (narrowRow_flagged (exec_vshrn f s) hr hL hm fun _ _ => plain_within _ _).plainLanes fun _ => by
        rw [plain_fst, shiftRightInt_truncated, setWidth_ushiftRight_eq_ofInt]; rfl
    · exact (narrowRow_flagged (exec_vrshrn f s) hr hL hm fun _ _ => plain_within _ _).plainLanes fun _ =>
        congrArg (wrapInt _) (shiftRightInt_rounded _ _ (shift_right_pos f))
    · simp only [List.forall_mem_cons]
      exact ⟨
        (narrowRow_flagged (exec_vqshrn f s) hr hL hm fun _ _ => saturate_within _ _ _).saturatedOnce he fun _ =>
          congrArg (saturate _ _) (shiftRightInt_truncated _ _ _),
        (narrowRow_flagged (exec_vqrshrn f s) hr hL hm fun _ _ => saturate_within _ _ _).saturatedOnce he fun _ =>
          congrArg (saturate _ _) (shiftRightInt_rounded _ _ (shift_right_pos f)),
        (narrowRow_flagged (exec_vqshrun f s) hr hL hm fun _ _ => saturate_within _ _ _).saturatedOnce he fun _ =>
          congrArg (saturate _ _) (shiftRightInt_truncated false _ _),
        (narrowRow_flagged (exec_vqrshrun f s) hr hL hm fun _ _ => saturate_within _ _ _).saturatedOnce he fun _ =>
          congrArg (saturate _ _) (shiftRightInt_rounded false _ (shift_right_pos f)),
        List.forall_mem_nil _⟩

end Sys2Proof.Machine
end

section
/-! Barriers, preloads and reserved hints (rules R386 to R392, R401 to R405, R411 to R414, R416, R417): what they do, and
the step of a word of the two reserved hints, which need not have the printed bits [15:12] (rule R9). -/

namespace Sys2Proof.Machine

/-! ## The meanings of the rows -/

/-- CLREX (rule R386), the one instruction of this family that writes state other than the pc. -/
@[simp] theorem exec_clrex (f : FBarrier) (s : State) :
    exec (.clrex f) s = advance { s with reservation := none } :=
  rfl

/-- The barriers (rules R387 to R392, R416). -/
@[simp] theorem exec_barrier (f : FBarrier) (s : State) :
    exec (.dsb f) s = advance s ∧ exec (.ssbb f) s = advance s ∧ exec (.pssbb f) s = advance s ∧
      exec (.dmb f) s = advance s ∧ exec (.isb f) s = advance s ∧ exec (.sb f) s = advance s :=
  ⟨rfl, rfl, rfl, rfl, rfl, rfl⟩

/-- The rows of "Preload (immediate)" (rules R401 to R405, R417). -/
@[simp] theorem exec_pldImmTable (f : FPldImm) (s : State) :
    exec (.reservedHintNopPldImm f) s = advance s ∧ exec (.pliImmLit f) s = advance s ∧
      exec (.pldLit f) s = advance s ∧ exec (.pldwImm f) s = advance s ∧ exec (.pldImm f) s = advance s :=
  ⟨rfl, rfl, rfl, rfl, rfl⟩

/-- The rows of "Preload (register)" (rules R411 to R414, R417). -/
@[simp] theorem exec_pldRegTable (f : FPldReg) (s : State) :
    exec (.reservedHintNopPldReg f) s = advance s ∧ exec (.pliReg f) s = advance s ∧
      exec (.pldwReg f) s = advance s ∧ exec (.pldReg f) s = advance s :=
  ⟨rfl, rfl, rfl, rfl⟩

/-- Settles O25: CLREX is `advance` without the reservation, and every other row is `advance`. -/
theorem hintsAndBarriersComplete : Obligations.HintsAndBarriersComplete := by
  intro f g h s hs
  refine ⟨completes_advance (exec_clrex f s) hs rfl rfl, fun i hi => completes_advance ?nop hs rfl rfl⟩
  case nop =>
    revert i
    simp [exec_barrier, exec_pldImmTable, exec_pldRegTable]

/-! ## The words of the reserved hints -/

section
variable {w : Word}

/-- A word of the table "Memory hints and barriers" (rules R75, R83). -/
theorem decode_memHint (h26 : bits w 26 6 = 0b111101#6) (h20 : bits w 20 1 = 0b1#1) :
    decode w = .instr (decodeMemHint w) := by
  have hw : (FMemHint.ofWord w).toWord = w := FMemHint.toWord_ofWord h26 h20
  exact hw ▸ decode_FMemHint (.ofWord w)

/-- The reserved hint of "Preload (immediate)", whatever the other bits of the word (rule R405). -/
theorem decode_reservedHintNopPldImm (h : w &&& 0xFF700000#32 = 0xF4100000#32) :
    decode w = .instr (.reservedHintNopPldImm (.ofWord w)) := by
  have hends : (FMemHint.ofWord w).op0 &&& 0b10001#5 = 0b00000#5 := masked_bits_of_masked h
  have hD : (FPldImm.ofWord w).D = 0b0#1 := bits_of_masked h
  have hR : (FPldImm.ofWord w).R = 0b0#1 := bits_of_masked h
  rw [decode_memHint (bits_of_masked h) (bits_of_masked h)]
  simp [decodeMemHint, hends, ne_of_masked hends, masked_ne_of_masked hends, decodePldImm, hD, hR]

/-- The reserved hint of "Preload (register)", whatever the other bits of the word (rule R414). -/
theorem decode_reservedHintNopPldReg (h : w &&& 0xFF700010#32 = 0xF6100000#32) :
    decode w = .instr (.reservedHintNopPldReg (.ofWord w)) := by
  have hends : (FMemHint.ofWord w).op0 &&& 0b10001#5 = 0b10000#5 := masked_bits_of_masked h
  have hop1 : (FMemHint.ofWord w).op1 = 0b0#1 := bits_of_masked h
  have hD : (FPldReg.ofWord w).D = 0b0#1 := bits_of_masked h
  have ho2 : (FPldReg.ofWord w).o2 = 0b0#1 := bits_of_masked h
  rw [decode_memHint (bits_of_masked h) (bits_of_masked h)]
  simp [decodeMemHint, hends, ne_of_masked hends, masked_ne_of_masked hends, hop1, decodePldReg, hD, ho2]

end

/-! ## The step under the policy P8 -/

section
variable {s : State} {w : Word} {i : Instr}

/-- Past the alignment, the fetch and the decoder (rule R441). -/
theorem step_eq_runDecoded (hs : s.Fetches w) (hd : decode w = .instr i) : step s = runDecoded w i s := by
  obtain ⟨hpc, hf⟩ := hs
  simp [step, hpc, hf, hd]

/-- Should-be bits that differ, under P8 = Fault (rules R9, R441). -/
theorem step_of_shouldBeBits (hs : s.Fetches w) (hd : decode w = .instr i) (hg : gateOpen s.params i = true)
    (hb : s.params.sbPolicy = .fault ∧ sbViolation w i = true) : step s = .fault .shouldBeBits := by
  rw [step_eq_runDecoded hs hd]
  simp [runDecoded, hg, hb, raise]

/-- A step that no should-be bit stops (rules R9, R441). -/
theorem step_eq_exec (hs : s.Fetches w) (hd : decode w = .instr i) (hg : gateOpen s.params i = true)
    (hb : ¬(s.params.sbPolicy = .fault ∧ sbViolation w i = true)) : step s = exec i s := by
  rw [step_eq_runDecoded hs hd]
  simp [runDecoded, hg, hb]

end

/-- Settles O9: either word decodes to its hint, which no parameter covers, whose should-be bits are w[15:12] and whose
meaning is `advance`. -/
theorem reservedHintsAreNops : Obligations.ReservedHintsAreNops := by
  intro s w hs
  refine ⟨fun h => ⟨_, decode_reservedHintNopPldImm h⟩, fun h => ⟨_, decode_reservedHintNopPldReg h⟩, fun h => ?step⟩
  case step =>
    have hint : ∃ i, decode w = .instr i ∧ gateOpen s.params i = true ∧
        sbViolation w i = (bits w 12 4 != 0b1111#4) ∧ exec i s = advance s := by
      rcases h with h | h
      · exact ⟨_, decode_reservedHintNopPldImm h, rfl, rfl, (exec_pldImmTable _ s).1⟩
      · exact ⟨_, decode_reservedHintNopPldReg h, rfl, rfl, (exec_pldRegTable _ s).1⟩
    obtain ⟨i, hd, hg, hb, he⟩ := hint
    rw [← bne_iff_ne, ← hb]
    refine ⟨step_of_shouldBeBits hs hd hg, fun hpass => ?_⟩
    rw [step_eq_exec hs hd hg hpass, he]
    exact ⟨advance_eq, advance_refused⟩

end Sys2Proof.Machine
end

section
/-! The elements of a load or store moved one after the other, and what a transfer does and leaves alone (rules R25,
R41, R42, R425; notes/assumptions/9.md, 20.md, 26.md and 30.md). -/

namespace Sys2Proof.Machine

/-! ## Elements one after the other

A transfer moves the elements `(List.range count).map place` from an address on: element `j` stands at `a + j * (e / 8)`
and goes to the lanes `place j`, or comes from the first of them. -/

section
variable {s t : State} {e : Nat} {a : Word} {place : Nat → List (Nat × Nat)} {count j k i : Nat}

/-- An element read depends on memory and on the byte order alone (rule R41). -/
theorem State.readElem_congr (hmem : ∀ b, b < e / 8 → t.byte (a + BitVec.ofNat 32 b) = s.byte (a + BitVec.ofNat 32 b))
    (hcpsr : t.cpsr = s.cpsr) : t.readElem e a = s.readElem e a := by
  have hbytes : t.bytes a (e / 8) = s.bytes a (e / 8) :=
    List.map_congr_left fun b hb => hmem b (List.mem_range.mp hb)
  rw [State.readElem, State.readElem, hbytes, State.bigEndian, State.bigEndian, hcpsr]

/-- An element read after a load. -/
@[simp] theorem State.readElem_loadElems (s : State) (e' : Nat) (a' : Word) (tss : List (List (Nat × Nat))) :
    (s.loadElems e' a' tss).readElem e a = s.readElem e a :=
  State.readElem_congr (fun _ _ => by simp [State.byte]) (by simp)

/-- The address after a number of elements. -/
theorem address_add (a : Word) (m n b : Nat) :
    a + BitVec.ofNat 32 (m * b) + BitVec.ofNat 32 (n * b) = a + BitVec.ofNat 32 ((m + n) * b) := by
  rw [Nat.add_mul, BitVec.ofNat_add, BitVec.add_assoc]

theorem State.loadElems_append (s : State) (a : Word) (xs ys : List (List (Nat × Nat))) :
    s.loadElems e a (xs ++ ys) =
      (s.loadElems e a xs).loadElems e (a + BitVec.ofNat 32 (xs.length * (e / 8))) ys := by
  induction xs generalizing s a with
  | nil => simp [State.loadElems]
  | cons x xs ih =>
    rw [List.cons_append, State.loadElems, ih, State.loadElems, List.length_cons, Nat.add_comm xs.length,
      ← address_add, Nat.one_mul]

theorem State.storeElems_append (s : State) (a : Word) (xs ys : List (List (Nat × Nat))) :
    s.storeElems e a (xs ++ ys) =
      (s.storeElems e a xs).storeElems e (a + BitVec.ofNat 32 (xs.length * (e / 8))) ys := by
  induction xs generalizing s a with
  | nil => simp [State.storeElems]
  | cons x xs ih =>
    rw [List.cons_append, State.storeElems, ih, State.storeElems, List.length_cons, Nat.add_comm xs.length,
      ← address_add, Nat.one_mul]

/-- The last element of a load. -/
theorem State.loadElems_range_succ (s : State) (e : Nat) (a : Word) (place : Nat → List (Nat × Nat)) (n : Nat) :
    s.loadElems e a ((List.range (n + 1)).map place) =
      (s.loadElems e a ((List.range n).map place)).setLanes (s.readElem e (a + BitVec.ofNat 32 (n * (e / 8))))
        (place n) := by
  simp [List.range_succ, State.loadElems_append, State.loadElems]

/-- The doubleword that a store reads does not change while it runs. -/
@[simp] theorem State.sourceD_storeElems (s : State) (e : Nat) (a : Word) (tss : List (List (Nat × Nat))) (n : Nat) :
    (s.storeElems e a tss).sourceD n = s.sourceD n := by
  simp [State.sourceD, State.free]

/-- The last element of a store. -/
theorem State.storeElems_range_succ (s : State) (e : Nat) (a : Word) (place : Nat → List (Nat × Nat)) (n : Nat) :
    s.storeElems e a ((List.range (n + 1)).map place) =
      (s.storeElems e a ((List.range n).map place)).writeElem (a + BitVec.ofNat 32 (n * (e / 8)))
        (lane e (s.sourceD ((place n).headD (0, 0)).1) ((place n).headD (0, 0)).2) := by
  simp [List.range_succ, State.storeElems_append, State.storeElems]

/-- The lanes of the registers after one element is written to some of them. -/
theorem State.lane_setLanes (he : LaneWidth e) (s : State) (v : BitVec e) {ts : List (Nat × Nat)}
    (hts : ∀ t ∈ ts, t.2 < 64 / e) (hk : k < 32) (hi : i < 64 / e) :
    lane e ((s.setLanes v ts).readD k) i = if (k, i) ∈ ts then v else lane e (s.readD k) i := by
  induction ts generalizing s with
  | nil => simp [State.setLanes]
  | cons t rest ih =>
    obtain ⟨n, m⟩ := t
    obtain ⟨hm, hrest⟩ := List.forall_mem_cons.mp hts
    rw [State.setLanes, ih _ hrest, State.readD_writeD]
    by_cases hn : k = n
    · subst hn
      simp only [hk, and_self, if_true, lane_setLane he _ _ _ _ hm hi, List.mem_cons, Prod.mk.injEq, true_and]
      by_cases him : i = m <;> simp [him]
    · simp [hn]

/-- A lane that no element of a load goes to. -/
theorem State.lane_loadElems_other (he : LaneWidth e) (hlanes : ∀ j, j < count → ∀ t ∈ place j, t.2 < 64 / e)
    (hk : k < 32) (hi : i < 64 / e) (hnot : ∀ j, j < count → (k, i) ∉ place j) :
    lane e ((s.loadElems e a ((List.range count).map place)).readD k) i = lane e (s.readD k) i := by
  induction count with
  | zero => rfl
  | succ n ih =>
    rw [State.loadElems_range_succ, State.lane_setLanes he _ _ (hlanes n (by omega)) hk hi, if_neg (hnot n (by omega))]
    exact ih (fun j hj => hlanes j (by omega)) (fun j hj => hnot j (by omega))

/-- A lane that one element of a load goes to. -/
theorem State.lane_loadElems (he : LaneWidth e) (hlanes : ∀ j, j < count → ∀ t ∈ place j, t.2 < 64 / e)
    (hk : k < 32) (hi : i < 64 / e) (hj : j < count) (hin : (k, i) ∈ place j)
    (honly : ∀ j', j' < count → (k, i) ∈ place j' → j' = j) :
    lane e ((s.loadElems e a ((List.range count).map place)).readD k) i =
      s.readElem e (a + BitVec.ofNat 32 (j * (e / 8))) := by
  induction count with
  | zero => exact absurd hj (Nat.not_lt_zero j)
  | succ n ih =>
    rw [State.loadElems_range_succ, State.lane_setLanes he _ _ (hlanes n (by omega)) hk hi]
    by_cases hn : (k, i) ∈ place n
    · rw [if_pos hn, honly n (by omega) hn]
    · have hjn : j ≠ n := fun h => hn (h ▸ hin)
      rw [if_neg hn]
      exact ih (fun j hj => hlanes j (by omega)) (by omega) fun j' hj' => honly j' (by omega)

/-- An element that another one is stored beside. -/
theorem State.readElem_writeElem_other {m n : Nat} (x : BitVec e) (hm : Memory.wf s.mem = true) (hmn : m < n)
    (hn : (n + 1) * (e / 8) ≤ 2 ^ 32) :
    (s.writeElem (a + BitVec.ofNat 32 (n * (e / 8))) x).readElem e (a + BitVec.ofNat 32 (m * (e / 8))) =
      s.readElem e (a + BitVec.ofNat 32 (m * (e / 8))) := by
  refine State.readElem_congr (fun b hb => State.byte_writeElem_other s _ _ x hm fun c hc heq => ?_) (by simp)
  have hle : (m + 1) * (e / 8) ≤ n * (e / 8) := Nat.mul_le_mul_right _ hmn
  rw [Nat.add_mul, Nat.one_mul] at hle hn
  rw [BitVec.add_assoc, BitVec.add_assoc, BitVec.add_right_inj, ← BitVec.ofNat_add, ← BitVec.ofNat_add] at heq
  have := congrArg BitVec.toNat heq
  simp only [BitVec.toNat_ofNat] at this
  omega

/-- Each element of a store, read back. -/
theorem State.readElem_storeElems (hm : Memory.wf s.mem = true) (he : 8 ∣ e) (hcount : count * (e / 8) ≤ 2 ^ 32)
    (hj : j < count) :
    (s.storeElems e a ((List.range count).map place)).readElem e (a + BitVec.ofNat 32 (j * (e / 8))) =
      lane e (s.sourceD ((place j).headD (0, 0)).1) ((place j).headD (0, 0)).2 := by
  induction count with
  | zero => exact absurd hj (Nat.not_lt_zero j)
  | succ n ih =>
    have hwf := State.storeElems_wf s e a ((List.range n).map place) hm
    have hcount' := hcount
    rw [Nat.add_mul, Nat.one_mul] at hcount'
    rw [State.storeElems_range_succ]
    by_cases hjn : j = n
    · rw [hjn, State.readElem_writeElem _ _ _ hwf he (by omega)]
    · rw [State.readElem_writeElem_other _ hwf (by omega) hcount]
      exact ih (by omega) (by omega)

end

/-! ## What a transfer does -/

/-- The registers that a transfer names are those of `named`, of which `last` is the last and none is eight or more
below it; and it moves `moved` bytes. -/
structure Transfer.Covers (x : Transfer) (moved last : Nat) (named : Nat → Prop) : Prop where
  bytes : x.bytes = moved
  names (k : Nat) : x.names k = true ↔ named k
  last_named : named last
  span {k : Nat} : named k → k ≤ last ∧ last < k + 8
  first : ∃ k, k < 32 ∧ named k

section
variable {s u : State} {Rn Rm : BitVec 4} {x : Transfer} {moved last : Nat} {named : Nat → Prop}

/-- A write to a general register changes nothing but what it writes. -/
theorem SameGeneral.writeReg (h : SameGeneral s u) (hcpsr : u.cpsr = s.cpsr) (n : BitVec 4) (v : Word) :
    SameGeneral (s.writeReg n v) (u.writeReg n v) := by
  obtain ⟨hr, hfiq, hsp, hlr⟩ := h
  have hmode : u.mode = s.mode := by rw [State.mode, State.mode, State.modeBits, State.modeBits, hcpsr]
  simp only [SameGeneral, State.writeReg_r, State.writeReg_rFiq, State.writeReg_sp, State.writeReg_lr, hr, hfiq, hsp,
    hlr, hmode, and_self]

theorem SameGeneral.baseUpdated (h : SameGeneral s u) (hcpsr : u.cpsr = s.cpsr) :
    BaseUpdated Rn Rm moved s (u.updateBase Rn Rm (s.readReg Rn) (s.readReg Rm) moved) := by
  refine ⟨fun h15 => ?_, fun h13 => ?_, fun h15 h13 => ?_⟩
  · simpa [State.updateBase, h15] using h
  · simpa [State.updateBase, h13] using h.writeReg hcpsr _ _
  · simpa [State.updateBase, h15, h13] using h.writeReg hcpsr _ _

/-- The base register after a load or store. -/
theorem transferEffect_baseUpdated (L : BitVec 1) (Rn Rm : BitVec 4) (x : Transfer) (s : State) :
    BaseUpdated Rn Rm x.bytes s (transferEffect L Rn Rm x s) := by
  unfold transferEffect
  split
  · exact SameGeneral.baseUpdated (by simp [SameGeneral]) (by simp)
  · exact SameGeneral.baseUpdated (by simp [SameGeneral]) (by simp)

theorem Transfer.Covers.freeUsed (h : x.Covers moved last named) : x.freeUsed = Machine.freeUsed last := by
  have hpast : x.pastD31 = true ↔ 31 < last := by
    have hnames : x.pastD31 = true ↔ ∃ k, x.names k = true ∧ 31 < k := by
      simp only [Transfer.pastD31, Transfer.names, List.any_eq_true, decide_eq_true_eq, beq_iff_eq]
      exact ⟨fun ⟨ts, hts, t, ht, hlt⟩ => ⟨t.1, ⟨ts, hts, t, ht, rfl⟩, hlt⟩,
        fun ⟨_, ⟨ts, hts, t, ht, hk⟩, hlt⟩ => ⟨ts, hts, t, ht, hk ▸ hlt⟩⟩
    rw [hnames]
    refine ⟨fun ⟨k, hk, hlt⟩ => ?_, fun hlt => ⟨last, (h.names last).mpr h.last_named, hlt⟩⟩
    exact Nat.lt_of_lt_of_le hlt (h.span ((h.names k).mp hk)).1
  by_cases hlast : 31 < last
  · rw [Transfer.freeUsed, if_pos (hpast.mpr hlast), Machine.freeUsed, if_neg (by omega)]
  · rw [Transfer.freeUsed, if_neg (mt hpast.mp hlast), Machine.freeUsed, if_pos (by omega)]

@[simp] theorem transferEffect_freeCount (L : BitVec 1) (Rn Rm : BitVec 4) (x : Transfer) (s : State) :
    (transferEffect L Rn Rm x s).freeCount = s.freeCount + x.freeUsed := rfl

/-- The vector registers after a load. -/
theorem readD_transferEffect_load (Rn Rm : BitVec 4) (x : Transfer) (s : State) (k : Nat) :
    (transferEffect 1#1 Rn Rm x s).readD k =
      if k < 8 ∧ x.names (32 + k) = true then Config.freeDWord (s.freeCount + k)
      else (s.loadElems x.e (s.readReg Rn) x.elems).readD k := by
  have hpast := State.readD_freePastD31 (s.loadElems x.e (s.readReg Rn) x.elems) x 8 k (by decide)
  rw [State.free, State.loadElems_freeCount] at hpast
  rw [← hpast]
  exact State.readD_updateBase ..

/-- The vector registers after a store. -/
@[simp] theorem readD_transferEffect_store (Rn Rm : BitVec 4) (x : Transfer) (s : State) (k : Nat) :
    (transferEffect 0#1 Rn Rm x s).readD k = s.readD k :=
  (State.readD_updateBase ..).trans (State.readD_storeElems ..)

/-- Data memory after a store. -/
theorem transferEffect_store_mem (Rn Rm : BitVec 4) (x : Transfer) (s : State) :
    (transferEffect 0#1 Rn Rm x s).mem = (s.storeElems x.e (s.readReg Rn) x.elems).mem :=
  State.updateBase_mem ..

/-- The frame of a load. -/
theorem loadFrame_transferEffect (h : x.Covers moved last named) :
    LoadFrame Rn Rm moved last named s { transferEffect 1#1 Rn Rm x s with pc := s.pc + 4#32 } := by
  have hlt : last < 40 := by
    obtain ⟨d, hd, hdn⟩ := h.first
    have := h.span hdn
    omega
  refine ⟨rfl, transferEffect_fixed 1#1 Rn Rm x s, fun a => ?memory, transferEffect_cpsr .., transferEffect_fpscr ..,
    transferEffect_reservation .., congrArg (s.freeCount + ·) h.freeUsed, h.bytes ▸ transferEffect_baseUpdated ..,
    fun k hk => ?past, fun k hk hk' => ?others⟩
  case memory => simp [State.byte, transferEffect]
  case past =>
    have := (h.span hk).1
    rw [State.readD_setPc, readD_transferEffect_load, if_pos ⟨by omega, (h.names _).mpr hk⟩]
  case others =>
    rw [State.readD_setPc, readD_transferEffect_load, if_neg fun hp => hk' ((h.names _).mp hp.2)]
    refine State.readD_loadElems_other _ _ _ _ _ fun ts hts t ht htk => hk ((h.names k).mp ?_)
    simp only [Transfer.names, List.any_eq_true, beq_iff_eq]
    exact ⟨ts, hts, t, ht, htk⟩

/-- The frame of a store. -/
theorem storeFrame_transferEffect (h : x.Covers moved last named) (hm : Memory.wf s.mem = true) :
    StoreFrame Rn Rm moved last (s.readReg Rn) s { transferEffect 0#1 Rn Rm x s with pc := s.pc + 4#32 } := by
  refine ⟨rfl, transferEffect_fixed 0#1 Rn Rm x s, readD_transferEffect_store Rn Rm x s, transferEffect_cpsr ..,
    transferEffect_fpscr .., transferEffect_reservation .., congrArg (s.freeCount + ·) h.freeUsed,
    h.bytes ▸ transferEffect_baseUpdated .., fun a ha => ?memory⟩
  case memory =>
    rw [State.byte, transferEffect_store_mem]
    refine State.byte_storeElems_other s x.e _ a x.elems hm fun i hi heq => ha ?_
    have hi : i < moved := h.bytes ▸ hi
    rw [heq, BitVec.add_comm, BitVec.add_sub_cancel, BitVec.toNat_ofNat]
    exact Nat.lt_of_le_of_lt (Nat.mod_le ..) hi

end

section
variable {s : State} {i : Instr} {L : BitVec 1} {Rn Rm : BitVec 4} {x : Transfer} {P : State → Prop}

/-- Where a transfer may run, its instruction completes with its effect. -/
theorem completes_transfer (hi : exec i s = loadStore L Rn Rm (some x) s) (h15 : Rn ≠ 15#4) (hr : s.SimdReady)
    (ha : (s.readReg Rn).toNat % alignment s x.e x.align = 0) (hp : s.MayAccess (s.readReg Rn) x.bytes)
    (hP : P { transferEffect L Rn Rm x s with pc := s.pc + 4#32 }) : Completes i s P :=
  ⟨_, hi.trans (loadStore_eq h15 hr ha ((State.permitsBytes_iff s _ _).mpr hp)), hP⟩

/-- Where a transfer may not run, its instruction stops, and this is the order of the checks. -/
theorem stopsInOrder_transfer (hi : exec i s = loadStore L Rn Rm (some x) s) :
    StopsInOrder i s Rn (alignment s x.e x.align) x.bytes := by
  rw [← Transfer.required_eq]
  refine ⟨fun h15 => ?_, fun h15 hs => ?_, fun h15 hs ha => ?_, fun h15 hs ha hp => ?_⟩ <;> rw [hi]
  · simp [loadStore, raise, h15]
  · simp [loadStore, raise, h15, hs]
  · simp [loadStore, raise, h15, hs, ha]
  · rw [← State.permitsBytes_iff, Bool.not_eq_true] at hp
    simp [loadStore, raise, h15, hs, ha, hp]

end

/-- The lanes of a doubleword have its eight bytes. -/
theorem LaneWidth.bytes_mul_lanes {e : Nat} (he : LaneWidth e) : e / 8 * (64 / e) = 8 := by
  rcases he with rfl | rfl | rfl | rfl <;> rfl

theorem LaneWidth.whole_bytes {e : Nat} (he : LaneWidth e) : 8 ∣ e := by
  rcases he with rfl | rfl | rfl | rfl <;> decide

theorem LaneWidth.bytes_le {e : Nat} (he : LaneWidth e) : e / 8 ≤ 8 := by
  rcases he with rfl | rfl | rfl | rfl <;> decide

section
variable {s : State} {Rn Rm : BitVec 4} {x : Transfer} {moved last : Nat} {named : Nat → Prop} {count j k i : Nat}
  {place : Nat → List (Nat × Nat)}

/-- The registers that a load names, but for the free values, hold what its elements leave. -/
theorem Transfer.Covers.readD_load (h : x.Covers moved last named) (hk : named k) :
    (transferEffect 1#1 Rn Rm x s).readD k = (s.loadElems x.e (s.readReg Rn) x.elems).readD k := by
  rw [readD_transferEffect_load, if_neg]
  rintro ⟨-, hpast⟩
  have hlast := (h.span hk).2
  have hle := (h.span ((h.names _).mp hpast)).1
  omega

/-- An element that a store has put into memory. -/
theorem readElem_transferEffect_store (Rn Rm : BitVec 4) (hx : x.elems = (List.range count).map place)
    (hm : Memory.wf s.mem = true) (he : LaneWidth x.e) (hbytes : x.bytes ≤ 2 ^ 32) (hj : j < count) :
    (transferEffect 0#1 Rn Rm x s).readElem x.e (s.readReg Rn + BitVec.ofNat 32 (j * (x.e / 8))) =
      lane x.e (storedD s ((place j).headD (0, 0)).1) ((place j).headD (0, 0)).2 := by
  have hcount : count * (x.e / 8) ≤ 2 ^ 32 := by
    rwa [Transfer.bytes, hx, List.length_map, List.length_range, Nat.mul_comm] at hbytes
  rw [State.readElem_congr (s := s.storeElems x.e (s.readReg Rn) x.elems)
      (fun _ _ => by rw [State.byte, State.byte, transferEffect_store_mem]) (by simp), hx,
    State.readElem_storeElems hm he.whole_bytes hcount hj]
  rfl

end

end Sys2Proof.Machine
end

section
/-! The forms of the three load/store classes (rules R421 to R423, R425; notes/assumptions/20.md): the registers that
each names, the transfer that the model makes of a form and of no other word, and the elements it moves. -/

namespace Sys2Proof.Machine

/-! ## The registers of a form -/

/-- The registers of a form do not overlap, and the first and last are fewer than eight apart: `n` groups, `inc` apart,
of `regs` registers. -/
structure RegisterGrid (n regs inc : Nat) : Prop where
  n_pos : 0 < n
  n_le : n ≤ 4
  regs_pos : 0 < regs
  regs_le : regs ≤ 4
  apart : regs ≤ inc ∨ n = 1
  span : regs - 1 + (n - 1) * inc < 8

theorem registerGrid_iff {n regs inc : Nat} :
    RegisterGrid n regs inc ↔
      0 < n ∧ n ≤ 4 ∧ 0 < regs ∧ regs ≤ 4 ∧ (regs ≤ inc ∨ n = 1) ∧ regs - 1 + (n - 1) * inc < 8 :=
  ⟨fun ⟨hn, hn4, hregs, hregs4, hapart, hspan⟩ => ⟨hn, hn4, hregs, hregs4, hapart, hspan⟩,
    fun ⟨hn, hn4, hregs, hregs4, hapart, hspan⟩ => ⟨hn, hn4, hregs, hregs4, hapart, hspan⟩⟩

/-- Register number `k` is one of a grid from register `d` on. -/
def InGrid (d n regs inc k : Nat) : Prop := ∃ r q, r < regs ∧ q < n ∧ k = d + r + q * inc

theorem inGrid_one (d n inc : Nat) : InGrid d n 1 inc = fun k => ∃ q, q < n ∧ k = d + q * inc := by
  funext k
  refine propext ⟨fun ⟨r, q, hr, hq, hk⟩ => ⟨q, hq, by omega⟩, fun ⟨q, hq, hk⟩ => ⟨0, q, Nat.one_pos, hq, hk⟩⟩

section
variable {n regs inc d moved : Nat} {x : Transfer}

/-- A register number has one place in a grid. -/
theorem RegisterGrid.place_unique (h : RegisterGrid n regs inc) {r r' q q' : Nat} (hr : r < regs) (hr' : r' < regs)
    (hq : q < n) (hq' : q' < n) (heq : d + r + q * inc = d + r' + q' * inc) : r' = r ∧ q' = q := by
  have hsum : r + q * inc = r' + q' * inc := by omega
  obtain hinc | hone := h.apart
  · have hmod := congrArg (· % inc) hsum
    simp only [Nat.add_mul_mod_self_right, Nat.mod_eq_of_lt (Nat.lt_of_lt_of_le hr hinc),
      Nat.mod_eq_of_lt (Nat.lt_of_lt_of_le hr' hinc)] at hmod
    subst hmod
    exact ⟨rfl, (Nat.eq_of_mul_eq_mul_right (by omega) (Nat.add_left_cancel hsum)).symm⟩
  · obtain ⟨rfl, rfl⟩ : q = 0 ∧ q' = 0 := by omega
    omega

/-- A transfer whose registers are those of a grid. -/
theorem RegisterGrid.covers (h : RegisterGrid n regs inc) (hd : d < 32) (hbytes : x.bytes = moved)
    (hnames : ∀ k, x.names k = true ↔ InGrid d n regs inc k) :
    x.Covers moved (d + (regs - 1) + (n - 1) * inc) (InGrid d n regs inc) := by
  have hspan := h.span
  refine ⟨hbytes, hnames, ⟨regs - 1, n - 1, Nat.sub_one_lt_of_lt h.regs_pos, Nat.sub_one_lt_of_lt h.n_pos, rfl⟩, ?_,
    d, hd, 0, 0, h.regs_pos, h.n_pos, by simp⟩
  rintro k ⟨r, q, hr, hq, rfl⟩
  have hq' : q * inc ≤ (n - 1) * inc := Nat.mul_le_mul_right inc (by omega)
  omega

end

theorem esize_eq (size : BitVec 2) : esize size = 8 * 2 ^ size.toNat := Nat.shiftLeft_eq ..

theorem two_bits_cases (x : BitVec 2) : x = 0b00#2 ∨ x = 0b01#2 ∨ x = 0b10#2 ∨ x = 0b11#2 := by
  revert x
  decide

/-! ## The meanings of the classes -/

theorem exec_asimdLdstMult (f : FLdStMult) (s : State) :
    exec (.asimdLdstMult f) s = loadStore f.L f.Rn f.Rm (multTransfer f) s :=
  rfl

theorem exec_asimdLdAll (f : FLdStAll) (s : State) :
    exec (.asimdLdAll f) s = loadStore f.L f.Rn f.Rm (allTransfer f) s :=
  rfl

theorem exec_asimdLdstOne (f : FLdStOne) (s : State) :
    exec (.asimdLdstOne f) s = loadStore f.L f.Rn f.Rm (oneTransfer f) s :=
  rfl

/-- A word without a transfer is UNDEFINED (rule R425). -/
theorem loadStore_none (L : BitVec 1) (Rn Rm : BitVec 4) (s : State) :
    loadStore L Rn Rm none s = .fault .undefinedInstruction :=
  rfl

/-- The bytes of a transfer whose elements are listed by their index. -/
theorem bytes_map_range (e align n : Nat) (place : Nat → List (Nat × Nat)) :
    Transfer.bytes ⟨e, align, (List.range n).map place⟩ = n * (e / 8) := by
  simp [Transfer.bytes, Nat.mul_comm]

/-! ## Multiple structures -/

/-- Two counters that run one inside the other, as one. -/
theorem flatMap_range_map_range {α : Type} (g : Nat → Nat → α) (m n : Nat) :
    (List.range m).flatMap (fun r => (List.range n).map (g r)) =
      (List.range (m * n)).map fun j => g (j / n) (j % n) := by
  induction m with
  | zero => simp
  | succ m ih =>
    rw [List.range_succ, List.flatMap_append, ih, Nat.succ_mul, List.range_add, List.map_append]
    refine congrArg _ ?_
    simp only [List.flatMap_singleton, List.map_map]
    refine List.map_congr_left fun j hj => ?_
    have hj := List.mem_range.mp hj
    simp [Nat.mul_comm m, Nat.mul_add_div (Nat.zero_lt_of_lt hj), Nat.mod_eq_of_lt hj, Nat.div_eq_of_lt hj]

/-- Where element `j` of "multiple structures" goes: the elements of a structure follow each other, then the lanes, then
the registers of a group (rule R425). -/
def multPlace (d e n inc j : Nat) : List (Nat × Nat) := [(d + j / n / (64 / e) + j % n * inc, j / n % (64 / e))]

theorem multLanes_eq (d e n regs inc : Nat) :
    multLanes d e n regs inc = (List.range (regs * (64 / e) * n)).map (multPlace d e n inc) := by
  simp only [multLanes, flatMap_range_map_range]
  rw [Nat.mul_assoc]
  refine List.map_congr_left fun j _ => ?_
  rw [multPlace, Nat.mod_mul_left_mod, Nat.mod_mul_left_div_self, Nat.mul_comm, Nat.div_div_eq_div_mul]

/-- The index of an element, taken apart. -/
theorem multPlace_index {d e n inc r i q : Nat} (hi : i < 64 / e) (hq : q < n) :
    multPlace d e n inc ((r * (64 / e) + i) * n + q) = [(d + r + q * inc, i)] := by
  have hdiv : ((r * (64 / e) + i) * n + q) / n = r * (64 / e) + i := by
    rw [Nat.mul_comm, Nat.mul_add_div (by omega), Nat.div_eq_of_lt hq, Nat.add_zero]
  have hmod : ((r * (64 / e) + i) * n + q) % n = q := by rw [Nat.mul_add_mod_self_right, Nat.mod_eq_of_lt hq]
  have hdiv' : (r * (64 / e) + i) / (64 / e) = r := by
    rw [Nat.mul_comm, Nat.mul_add_div (by omega), Nat.div_eq_of_lt hi, Nat.add_zero]
  have hmod' : (r * (64 / e) + i) % (64 / e) = i := by rw [Nat.mul_add_mod_self_right, Nat.mod_eq_of_lt hi]
  rw [multPlace, hdiv, hmod, hdiv', hmod']

/-- The index of an element from its place. -/
theorem multIndex_div_mod (W n j : Nat) : (j / n / W * W + j / n % W) * n + j % n = j := by
  rw [Nat.div_add_mod', Nat.div_add_mod']

section
variable {f : FLdStMult} {e n regs inc asked : Nat}

/-- The members by `type` are the rows of the table. -/
theorem multForm_eq_find (type : BitVec 4) :
    multForm type = (structureTable.find? (·.1 = type)).map fun r => (r.2.1, r.2.2.1, r.2.2.2.1) := by
  revert type
  decide

theorem multForm_of_mem :
    ∀ r ∈ structureTable, multForm r.1 = some (r.2.1, r.2.2.1, r.2.2.2.1) := by decide

theorem mem_of_multForm {type : BitVec 4} (h : multForm type = some (n, regs, inc)) :
    ∃ aligns, (type, n, regs, inc, aligns) ∈ structureTable := by
  rw [multForm_eq_find, Option.map_eq_some_iff] at h
  obtain ⟨⟨type', n', regs', inc', aligns⟩, hfind, heq⟩ := h
  obtain ⟨rfl, rfl, rfl⟩ : n' = n ∧ regs' = regs ∧ inc' = inc := by simpa using heq
  obtain rfl : type' = type := by simpa using List.find?_some hfind
  exact ⟨aligns, List.mem_of_find?_eq_some hfind⟩

/-- The registers of every row of the table. -/
theorem registerGrid_of_mem : ∀ r ∈ structureTable, RegisterGrid r.2.1 r.2.2.1 r.2.2.2.1 := by
  simp only [registerGrid_iff]
  decide

/-- The sizes and alignments that a row of the table allows. -/
theorem multUndef_eq_false_iff (f : FLdStMult) :
    ∀ r ∈ structureTable,
      multUndef f r.2.1 r.2.2.1 = false ↔ (r.2.1 = 1 ∨ f.size ≠ 0b11#2) ∧ f.align ∈ r.2.2.2.2 := by
  have htwo : f.align[1] = false ↔ f.align = 0b00#2 ∨ f.align = 0b01#2 := by
    generalize f.align = x
    revert x
    decide
  have hthree : f.align ≠ 0b11#2 ↔ f.align = 0b00#2 ∨ f.align = 0b01#2 ∨ f.align = 0b10#2 := by
    generalize f.align = x
    revert x
    decide
  simp [structureTable, multUndef, htwo, hthree, two_bits_cases f.align]

/-- A form of "multiple structures" and its transfer (rules R421, R425). -/
theorem MultForm.multTransfer_eq (h : MultForm f e n regs inc asked) :
    multTransfer f = some ⟨e, asked, multLanes f.d e n regs inc⟩ := by
  obtain ⟨⟨aligns, hrow, halign⟩, hsize, rfl, rfl⟩ := h
  have hundef := (multUndef_eq_false_iff f _ hrow).mpr ⟨hsize, halign⟩
  have htype : multForm f.type = some (n, regs, inc) := multForm_of_mem _ hrow
  simp [multTransfer, htype, hundef, esize_eq, Nat.shiftLeft_eq]

theorem multTransfer_eq_none (h : ∀ e n regs inc asked, ¬MultForm f e n regs inc asked) : multTransfer f = none := by
  rw [multTransfer]
  split
  · rfl
  · next n regs inc htype =>
    obtain ⟨aligns, hrow⟩ := mem_of_multForm htype
    refine if_pos (Decidable.byContradiction fun hundef => ?_)
    obtain ⟨hsize, halign⟩ := (multUndef_eq_false_iff f _ hrow).mp (eq_false_of_ne_true hundef)
    exact h _ _ _ _ _ ⟨⟨aligns, hrow, halign⟩, hsize, rfl, rfl⟩

theorem MultForm.laneWidth (h : MultForm f e n regs inc asked) : LaneWidth e := by
  obtain ⟨-, -, rfl, -⟩ := h
  exact esize_eq f.size ▸ laneWidth_esize f.size

theorem MultForm.grid (h : MultForm f e n regs inc asked) : RegisterGrid n regs inc := by
  obtain ⟨⟨aligns, hrow, -⟩, -⟩ := h
  exact registerGrid_of_mem _ hrow

/-- The bytes that "multiple structures" moves. -/
theorem bytes_multLanes (he : LaneWidth e) (align d : Nat) :
    Transfer.bytes ⟨e, align, multLanes d e n regs inc⟩ = n * regs * 8 := by
  rw [Transfer.bytes, multLanes_eq, List.length_map, List.length_range]
  calc e / 8 * (regs * (64 / e) * n) = n * regs * (e / 8 * (64 / e)) := by ac_rfl
    _ = n * regs * 8 := by rw [he.bytes_mul_lanes]

/-- The registers that "multiple structures" names. -/
theorem names_multLanes (he : LaneWidth e) (align d k : Nat) :
    Transfer.names ⟨e, align, multLanes d e n regs inc⟩ k = true ↔ InGrid d n regs inc k := by
  simp only [Transfer.names, multLanes, List.any_eq_true, List.mem_flatMap, List.mem_map, List.mem_range, beq_iff_eq,
    InGrid]
  constructor
  · rintro ⟨_, ⟨r, hr, i, -, q, hq, rfl⟩, _, hmem, rfl⟩
    rw [List.mem_singleton.mp hmem]
    exact ⟨r, q, hr, hq, rfl⟩
  · rintro ⟨r, q, hr, hq, rfl⟩
    exact ⟨_, ⟨r, hr, 0, he.some, q, hq, rfl⟩, _, List.mem_singleton_self _, rfl⟩

theorem MultForm.exec_eq (h : MultForm f e n regs inc asked) (s : State) :
    exec (.asimdLdstMult f) s = loadStore f.L f.Rn f.Rm (some ⟨e, asked, multLanes f.d e n regs inc⟩) s := by
  rw [exec_asimdLdstMult, h.multTransfer_eq]

theorem MultForm.covers (h : MultForm f e n regs inc asked) :
    Transfer.Covers ⟨e, asked, multLanes f.d e n regs inc⟩ (n * regs * 8) (f.d + (regs - 1) + (n - 1) * inc)
      (InGrid f.d n regs inc) :=
  h.grid.covers (vreg_lt f.D f.Vd) (bytes_multLanes h.laneWidth asked f.d) (names_multLanes h.laneWidth asked f.d)

/-- The lanes of an element are those of a doubleword. -/
theorem multPlace_lane_lt (he : LaneWidth e) {d j : Nat} : ∀ t ∈ multPlace d e n inc j, t.2 < 64 / e := by
  simp [multPlace, Nat.mod_lt _ he.some]

/-- The index of an element is below their number. -/
theorem multIndex_lt {r i q : Nat} (hr : r < regs) (hi : i < 64 / e) (hq : q < n) :
    (r * (64 / e) + i) * n + q < regs * (64 / e) * n := by
  have hlanes : (r + 1) * (64 / e) ≤ regs * (64 / e) := Nat.mul_le_mul_right _ hr
  have helems : (r * (64 / e) + i + 1) * n ≤ regs * (64 / e) * n :=
    Nat.mul_le_mul_right n (by rw [Nat.add_mul] at hlanes; omega)
  rw [Nat.add_mul _ 1] at helems
  omega

/-- One element goes to each lane of the registers of a grid. -/
theorem RegisterGrid.multIndex_unique (h : RegisterGrid n regs inc) {d r i q j : Nat} (hr : r < regs) (hq : q < n)
    (hj : j < regs * (64 / e) * n) (hin : (d + r + q * inc, i) ∈ multPlace d e n inc j) :
    j = (r * (64 / e) + i) * n + q := by
  obtain ⟨hreg, rfl⟩ := Prod.mk.inj (List.mem_singleton.mp hin)
  have hr' : j / n / (64 / e) < regs := Nat.div_lt_of_lt_mul <| Nat.div_lt_of_lt_mul <| by
    rwa [Nat.mul_comm n, Nat.mul_comm (64 / e)]
  obtain ⟨rfl, rfl⟩ := h.place_unique hr hr' hq (Nat.mod_lt _ h.n_pos) hreg
  exact (multIndex_div_mod _ n j).symm

/-- Each lane of the registers that a form loads (rules R421, R425). -/
theorem MultForm.lane_load (h : MultForm f e n regs inc asked) (s : State) {r i q : Nat} (hr : r < regs)
    (hi : i < 64 / e) (hq : q < n) (hk : f.d + r + q * inc < 32) :
    lane e ((transferEffect 1#1 f.Rn f.Rm ⟨e, asked, multLanes f.d e n regs inc⟩ s).readD (f.d + r + q * inc)) i =
      s.readElem e (s.readReg f.Rn + BitVec.ofNat 32 (((r * (64 / e) + i) * n + q) * (e / 8))) := by
  have hin : (f.d + r + q * inc, i) ∈ multPlace f.d e n inc ((r * (64 / e) + i) * n + q) := by
    rw [multPlace_index hi hq]
    exact List.mem_singleton_self _
  rw [h.covers.readD_load ⟨r, q, hr, hq, rfl⟩]
  simp only [multLanes_eq]
  exact State.lane_loadElems h.laneWidth (fun j _ => multPlace_lane_lt h.laneWidth) hk hi (multIndex_lt hr hi hq) hin
    fun j hj hin' => h.grid.multIndex_unique hr hq hj hin'

/-- Each element that a form stores (rules R421, R425). -/
theorem MultForm.readElem_store (h : MultForm f e n regs inc asked) {s : State} (hm : Memory.wf s.mem = true)
    {r i q : Nat} (hr : r < regs) (hi : i < 64 / e) (hq : q < n) :
    (transferEffect 0#1 f.Rn f.Rm ⟨e, asked, multLanes f.d e n regs inc⟩ s).readElem e
        (s.readReg f.Rn + BitVec.ofNat 32 (((r * (64 / e) + i) * n + q) * (e / 8))) =
      lane e (storedD s (f.d + r + q * inc)) i := by
  have hmoved : n * regs ≤ 4 * 4 := Nat.mul_le_mul h.grid.n_le h.grid.regs_le
  have hstored := readElem_transferEffect_store (s := s) f.Rn f.Rm (multLanes_eq f.d e n regs inc) hm h.laneWidth
    (Nat.le_trans (Nat.le_of_eq h.covers.bytes) (by omega)) (multIndex_lt hr hi hq)
  rwa [multPlace_index hi hq] at hstored

end

/-! ## Single structure to all lanes -/

theorem esize_eq_8_iff (size : BitVec 2) : esize size = 8 ↔ size = 0b00#2 := by
  revert size
  decide

theorem esize_eq_32_iff (size : BitVec 2) : esize size = 32 ↔ size = 0b10#2 := by
  revert size
  decide

section
variable {f : FLdStAll} {e n regs inc asked : Nat}

/-- The transfer of "to all lanes" (rules R422, R425): VLD1 has one element for one or two registers, the other members
one register for each element. -/
theorem AllForm.allTransfer_eq (h : AllForm f e n regs inc asked) :
    allTransfer f = some ⟨e, asked, (List.range n).map fun q => allLanes (f.d + q * inc) e regs⟩ := by
  obtain ⟨hL, rfl, rfl, rfl, rfl, h64, ha, rfl⟩ := h
  rw [← esize_eq, esize_eq_8_iff] at *
  have hflip (z : Nat) : (if f.a = 1#1 then z else 1) = if f.a = 0#1 then 1 else z := by
    rcases BitVec.eq_zero_or_eq_one f.a with h | h <;> simp [h]
  rcases two_bits_cases f.N with hN | hN | hN | hN
  · have h3 : f.size ≠ 0b11#2 := by simpa [hN] using h64
    have h8 : ¬(f.size = 0b00#2 ∧ f.a = 1#1) := fun h => by simpa [hN, h.1] using ha h.2
    simp [allTransfer, hL, hN, h3, h8, hflip]
  · have h3 : f.size ≠ 0b11#2 := by simpa [hN] using h64
    simp [allTransfer, hL, hN, h3, hflip]
  · have h3 : f.size ≠ 0b11#2 := by simpa [hN] using h64
    have h0 : f.a ≠ 1#1 := by simpa [hN] using ha
    simp [allTransfer, hL, hN, h3, h0, ← hflip]
  · have h3 : ¬(f.size = 0b11#2 ∧ f.a = 0#1) := fun ⟨h, h0⟩ => absurd ((h64 h).2.symm.trans h0) (by decide)
    simp [allTransfer, hL, hN, h3, esize_eq_32_iff]

theorem allTransfer_eq_none (h : ∀ e n regs inc asked, ¬AllForm f e n regs inc asked) : allTransfer f = none := by
  refine Decidable.byContradiction fun hne => h _ _ _ _ _ ⟨?load, rfl, rfl, rfl, rfl, ?doublewords, ?aligned, rfl⟩
  case load => exact eq_one_of_ne_zero fun hL => hne (if_pos hL)
  case doublewords =>
    intro hsize
    have hN : f.N = 0b11#2 := by
      rcases two_bits_cases f.N with hN | hN | hN | hN <;> simp [allTransfer, hsize, hN] at hne ⊢
    have ha : f.a ≠ 0#1 := fun ha => hne (by simp [allTransfer, hsize, hN, ha])
    exact ⟨by simp [hN], eq_one_of_ne_zero ha⟩
  case aligned =>
    intro ha
    rw [← esize_eq, esize_eq_8_iff]
    refine ⟨fun hn => ?three, fun ⟨hn, hsize⟩ => ?one⟩
    case three =>
      have hN : f.N = 0b10#2 := by bv_omega
      exact hne (by simp [allTransfer, hN, ha])
    case one =>
      have hN : f.N = 0b00#2 := by bv_omega
      exact hne (by simp [allTransfer, hN, ha, hsize])

theorem AllForm.laneWidth (h : AllForm f e n regs inc asked) : LaneWidth e := by
  obtain ⟨-, -, -, -, rfl, -⟩ := h
  exact esize_eq f.size ▸ laneWidth_esize f.size

theorem AllForm.grid (h : AllForm f e n regs inc asked) : RegisterGrid n regs inc := by
  obtain ⟨-, rfl, rfl, rfl, -⟩ := h
  have hN := f.N.isLt
  have hT := f.T.isLt
  have hspan : (f.N.toNat + 1 - 1) * (f.T.toNat + 1) ≤ 3 * 2 := Nat.mul_le_mul (by omega) (by omega)
  refine ⟨by omega, by omega, ?_, ?_, .inl ?_, ?_⟩ <;> split
  all_goals omega

theorem mem_allLanes {d k i : Nat} : (k, i) ∈ allLanes d e regs ↔ (∃ r, r < regs ∧ k = d + r) ∧ i < 64 / e := by
  simp only [allLanes, List.mem_flatMap, List.mem_map, List.mem_range, Prod.mk.injEq]
  constructor
  · rintro ⟨r, hr, i, hi, rfl, rfl⟩
    exact ⟨⟨r, hr, rfl⟩, hi⟩
  · rintro ⟨⟨r, hr, rfl⟩, hi⟩
    exact ⟨r, hr, i, hi, rfl, rfl⟩

/-- The class of all lanes has no stores (rule R425). -/
theorem AllForm.isLoad (h : AllForm f e n regs inc asked) : f.L = 1#1 := by
  obtain ⟨hL, -⟩ := h
  exact hL

theorem AllForm.exec_eq (h : AllForm f e n regs inc asked) (s : State) :
    exec (.asimdLdAll f) s =
      loadStore f.L f.Rn f.Rm (some ⟨e, asked, (List.range n).map fun q => allLanes (f.d + q * inc) e regs⟩) s := by
  rw [exec_asimdLdAll, h.allTransfer_eq]

theorem AllForm.covers (h : AllForm f e n regs inc asked) :
    Transfer.Covers ⟨e, asked, (List.range n).map fun q => allLanes (f.d + q * inc) e regs⟩ (n * (e / 8))
      (f.d + (regs - 1) + (n - 1) * inc) (InGrid f.d n regs inc) := by
  refine h.grid.covers (d := f.d) (vreg_lt f.D f.Vd) (bytes_map_range ..) fun k => ?names
  have hmem (q : Nat) : (∃ t ∈ allLanes (f.d + q * inc) e regs, t.1 = k) ↔ ∃ r, r < regs ∧ k = f.d + q * inc + r :=
    ⟨fun ⟨⟨_, _⟩, ht, hk⟩ => hk ▸ (mem_allLanes.mp ht).1,
      fun hr => ⟨(k, 0), mem_allLanes.mpr ⟨hr, h.laneWidth.some⟩, rfl⟩⟩
  simp only [Transfer.names, List.any_map, List.any_eq_true, List.mem_range, Function.comp_apply, beq_iff_eq, hmem]
  exact ⟨fun ⟨q, hq, r, hr, hk⟩ => ⟨r, q, hr, hq, by omega⟩, fun ⟨r, q, hr, hq, hk⟩ => ⟨q, hq, r, hr, by omega⟩⟩

/-- Each lane of the registers that a form loads (rules R422, R425). -/
theorem AllForm.lane_load (h : AllForm f e n regs inc asked) (s : State) {r q i : Nat} (hr : r < regs) (hq : q < n)
    (hi : i < 64 / e) (hk : f.d + r + q * inc < 32) :
    lane e ((transferEffect 1#1 f.Rn f.Rm ⟨e, asked, (List.range n).map fun q => allLanes (f.d + q * inc) e regs⟩
        s).readD (f.d + r + q * inc)) i =
      s.readElem e (s.readReg f.Rn + BitVec.ofNat 32 (q * (e / 8))) := by
  rw [h.covers.readD_load ⟨r, q, hr, hq, rfl⟩]
  refine State.lane_loadElems h.laneWidth (fun j _ t ht => (mem_allLanes.mp ht).2) hk hi hq
    (mem_allLanes.mpr ⟨⟨r, hr, by omega⟩, hi⟩) fun q' hq' hin => ?only
  obtain ⟨⟨r', hr', heq⟩, -⟩ := mem_allLanes.mp hin
  exact (h.grid.place_unique (d := f.d) hr hr' hq hq' (by omega)).2

end

/-! ## Single structure to one lane -/

section
variable {f : FLdStOne} {e n index inc asked : Nat}

/-- The spacings and alignments in the rows of the table that the fields of a word select. -/
def oneLaneRows (f : FLdStOne) : List (Nat × Nat) :=
  (oneLaneTable.filter fun r =>
    (r.1, r.2.1, r.2.2.1) = (f.size.toNat, f.N.toNat, f.index_align.toNat % 2 ^ (f.size.toNat + 1))).map (·.2.2.2)

/-- The table has one row for the fields of a word, with the spacing and the alignment of the model, and none where the
word is UNDEFINED: by the 256 values of `size`, `N` and `index_align`. -/
theorem oneLaneRows_eq (f : FLdStOne) :
    oneLaneRows f = if f.size = 0b11#2 ∨ oneUndef f = true then [] else [(oneSpacing f, oneAlign f)] := by
  have hfields : ∀ size N index_align,
      let g : FLdStOne := ⟨0, 0, 0, 0, size, N, index_align, 0⟩
      oneLaneRows g = if g.size = 0b11#2 ∨ oneUndef g = true then [] else [(oneSpacing g, oneAlign g)] := by
    decide +kernel
  exact hfields f.size f.N f.index_align

theorem mem_oneLaneTable_iff (f : FLdStOne) (inc asked : Nat) :
    (f.size.toNat, f.N.toNat, f.index_align.toNat % 2 ^ (f.size.toNat + 1), inc, asked) ∈ oneLaneTable ↔
      ¬(f.size = 0b11#2 ∨ oneUndef f = true) ∧ inc = oneSpacing f ∧ asked = oneAlign f := by
  have hrows : (f.size.toNat, f.N.toNat, f.index_align.toNat % 2 ^ (f.size.toNat + 1), inc, asked) ∈ oneLaneTable ↔
      (inc, asked) ∈ oneLaneRows f := by
    simp [oneLaneRows, and_comm, and_assoc]
  rw [hrows, oneLaneRows_eq]
  by_cases hundef : f.size = 0b11#2 ∨ oneUndef f = true
  · simp [hundef]
  · simp [hundef]

/-- The transfer of "to one lane" (rules R423, R425). -/
theorem OneForm.oneTransfer_eq (h : OneForm f e n index inc asked) :
    oneTransfer f = some ⟨e, asked, (List.range n).map fun q => [(f.d + q * inc, index)]⟩ := by
  obtain ⟨hrow, rfl, rfl, rfl⟩ := h
  obtain ⟨hdef, rfl, rfl⟩ := (mem_oneLaneTable_iff f inc asked).mp hrow
  rw [oneTransfer, if_neg hdef, esize_eq]
  rfl

theorem oneTransfer_eq_none (h : ∀ e n index inc asked, ¬OneForm f e n index inc asked) : oneTransfer f = none :=
  if_pos (Decidable.byContradiction fun hdef =>
    h _ _ _ _ _ ⟨(mem_oneLaneTable_iff f _ _).mpr ⟨hdef, rfl, rfl⟩, rfl, rfl, rfl⟩)

theorem OneForm.laneWidth (h : OneForm f e n index inc asked) : LaneWidth e := by
  obtain ⟨-, -, -, rfl⟩ := h
  exact esize_eq f.size ▸ laneWidth_esize f.size

theorem OneForm.grid (h : OneForm f e n index inc asked) : RegisterGrid n 1 inc := by
  obtain ⟨hrow, -, rfl, -⟩ := h
  obtain ⟨-, rfl, -⟩ := (mem_oneLaneTable_iff f inc asked).mp hrow
  have hN := f.N.isLt
  have hinc : 1 ≤ oneSpacing f ∧ oneSpacing f ≤ 2 := by unfold oneSpacing; split <;> (try split) <;> decide
  have hspan : f.N.toNat * oneSpacing f ≤ 3 * 2 := Nat.mul_le_mul (by omega) hinc.2
  refine ⟨by omega, by omega, by omega, by omega, .inl hinc.1, ?_⟩
  rw [Nat.add_sub_cancel]
  omega

/-- The lane index is a lane of a doubleword. -/
theorem OneForm.index_lt (h : OneForm f e n index inc asked) : index < 64 / e := by
  obtain ⟨hrow, rfl, -, rfl⟩ := h
  obtain ⟨hdef, -, -⟩ := (mem_oneLaneTable_iff f inc asked).mp hrow
  have hia := f.index_align.isLt
  rcases two_bits_cases f.size with hs | hs | hs | hs
  · simp [hs]; omega
  · simp [hs]; omega
  · simp [hs]; omega
  · exact absurd (.inl hs) hdef

theorem OneForm.exec_eq (h : OneForm f e n index inc asked) (s : State) :
    exec (.asimdLdstOne f) s =
      loadStore f.L f.Rn f.Rm (some ⟨e, asked, (List.range n).map fun q => [(f.d + q * inc, index)]⟩) s := by
  rw [exec_asimdLdstOne, h.oneTransfer_eq]

theorem OneForm.covers (h : OneForm f e n index inc asked) :
    Transfer.Covers ⟨e, asked, (List.range n).map fun q => [(f.d + q * inc, index)]⟩ (n * (e / 8))
      (f.d + (n - 1) * inc) (fun k => ∃ q, q < n ∧ k = f.d + q * inc) := by
  rw [← inGrid_one]
  refine h.grid.covers (d := f.d) (vreg_lt f.D f.Vd) (bytes_map_range ..) fun k => ?names
  rw [inGrid_one]
  simp [Transfer.names, eq_comm (a := k)]

/-- Each lane of the registers that a form loads into: the lane of the index is loaded, the others are kept (rules R423,
R425). -/
theorem OneForm.lane_load (h : OneForm f e n index inc asked) (s : State) {q i : Nat} (hq : q < n) (hi : i < 64 / e)
    (hk : f.d + q * inc < 32) :
    lane e ((transferEffect 1#1 f.Rn f.Rm ⟨e, asked, (List.range n).map fun q => [(f.d + q * inc, index)]⟩ s).readD
        (f.d + q * inc)) i =
      if i = index then s.readElem e (s.readReg f.Rn + BitVec.ofNat 32 (q * (e / 8)))
      else lane e (s.readD (f.d + q * inc)) i := by
  have hlanes : ∀ j, j < n → ∀ t ∈ [(f.d + j * inc, index)], t.2 < 64 / e := by simp [h.index_lt]
  have hmem (q' : Nat) :
      (f.d + q * inc, i) ∈ [(f.d + q' * inc, index)] ↔ f.d + q * inc = f.d + q' * inc ∧ i = index := by
    rw [List.mem_singleton, Prod.mk.injEq]
  rw [h.covers.readD_load ⟨q, hq, rfl⟩]
  split
  · next hindex =>
    exact State.lane_loadElems h.laneWidth hlanes hk hi hq ((hmem q).mpr ⟨rfl, hindex⟩) fun q' hq' hin =>
      (h.grid.place_unique (d := f.d) Nat.one_pos Nat.one_pos hq hq' ((hmem q').mp hin).1).2
  · next hindex =>
    exact State.lane_loadElems_other h.laneWidth hlanes hk hi fun q' _ hin => hindex ((hmem q').mp hin).2

/-- Each element that a form stores (rules R423, R425). -/
theorem OneForm.readElem_store (h : OneForm f e n index inc asked) {s : State} (hm : Memory.wf s.mem = true) {q : Nat}
    (hq : q < n) :
    (transferEffect 0#1 f.Rn f.Rm ⟨e, asked, (List.range n).map fun q => [(f.d + q * inc, index)]⟩ s).readElem e
        (s.readReg f.Rn + BitVec.ofNat 32 (q * (e / 8))) =
      lane e (storedD s (f.d + q * inc)) index := by
  have hmoved : n * (e / 8) ≤ 4 * 8 := Nat.mul_le_mul h.grid.n_le h.laneWidth.bytes_le
  exact readElem_transferEffect_store (s := s) f.Rn f.Rm rfl hm h.laneWidth
    (Nat.le_trans (Nat.le_of_eq h.covers.bytes) (by omega)) hq

end

end Sys2Proof.Machine
end

section
/-! The statements about VLD1 to VLD4 and VST1 to VST4 (rules R421 to R423, R425): each is what the transfer of a form
does. -/

namespace Sys2Proof.Machine

/-- Settles O55: the transfer of the form and its frame. -/
theorem loadsOfMultipleStructures : Obligations.LoadsOfMultipleStructures := by
  rintro f s e n regs inc asked _ hs hL h15 hform rfl ha hp
  have hc := hform.covers
  exact completes_transfer (hform.exec_eq s) h15 hs ha (hc.bytes ▸ hp)
    (hL ▸ ⟨loadFrame_transferEffect hc, fun _ _ _ hr hi hq hk => hform.lane_load s hr hi hq hk⟩)

/-- Settles O56: the transfers of the two classes and their frames. -/
theorem loadsOfASingleStructure : Obligations.LoadsOfASingleStructure := by
  refine ⟨?all, ?one⟩
  case all =>
    rintro f s e n regs inc asked _ hs h15 hform rfl ha hp
    have hc := hform.covers
    exact completes_transfer (hform.exec_eq s) h15 hs ha (hc.bytes ▸ hp)
      (hform.isLoad ▸ ⟨loadFrame_transferEffect hc, fun _ _ _ hr hq hi hk => hform.lane_load s hr hq hi hk⟩)
  case one =>
    rintro f s e n index inc asked _ hs hL h15 hform rfl ha hp
    have hc := hform.covers
    exact completes_transfer (hform.exec_eq s) h15 hs ha (hc.bytes ▸ hp)
      (hL ▸ ⟨loadFrame_transferEffect hc, fun _ _ hq hi hk => hform.lane_load s hq hi hk⟩)

/-- Settles O57: the transfers of the two classes that store, and their frames. -/
theorem storesOfStructures : Obligations.StoresOfStructures := by
  refine ⟨?mult, ?one⟩
  case mult =>
    rintro f s e n regs inc asked _ hs hm hL h15 hform rfl ha hp
    have hc := hform.covers
    exact completes_transfer (hform.exec_eq s) h15 hs ha (hc.bytes ▸ hp)
      (hL ▸ ⟨storeFrame_transferEffect hc hm, fun _ _ _ hr hi hq => hform.readElem_store hm hr hi hq⟩)
  case one =>
    rintro f s e n index inc asked _ hs hm hL h15 hform rfl ha hp
    have hc := hform.covers
    exact completes_transfer (hform.exec_eq s) h15 hs ha (hc.bytes ▸ hp)
      (hL ▸ ⟨storeFrame_transferEffect hc hm, fun _ hq => hform.readElem_store hm hq⟩)

/-- Settles O58: without a form there is no transfer, and a transfer is checked in the order of the statement. -/
theorem loadsAndStoresStop : Obligations.LoadsAndStoresStop := by
  intro f g h s
  refine ⟨fun hnone => ?_, fun hnone => ?_, fun hnone => ?_, fun e n regs inc asked hform => ?_,
    fun e n regs inc asked hform => ?_, fun e n index inc asked hform => ?_⟩
  · rw [exec_asimdLdstMult, multTransfer_eq_none hnone, loadStore_none]
  · rw [exec_asimdLdAll, allTransfer_eq_none hnone, loadStore_none]
  · rw [exec_asimdLdstOne, oneTransfer_eq_none hnone, loadStore_none]
  · exact hform.covers.bytes ▸ stopsInOrder_transfer (hform.exec_eq s)
  · exact hform.covers.bytes ▸ stopsInOrder_transfer (hform.exec_eq s)
  · exact hform.covers.bytes ▸ stopsInOrder_transfer (hform.exec_eq s)

end Sys2Proof.Machine
end

section
/-! What stops a step before its instruction, in the order of its checks (rules R9, R441, R444, R454), and the state a
run is launched from (rules R470, R471). -/

namespace Sys2Proof.Machine

/-- Settles O15: the pc is 0, data memory is empty, and the mode is Supervisor. -/
theorem launchMeetsTheInvariant : Obligations.LaunchMeetsTheInvariant := ⟨⟨rfl, rfl⟩, rfl⟩

/-- Settles O10: past the checks nothing is left of the step but `exec`. -/
theorem stepRunsTheDecodedInstruction : Obligations.StepRunsTheDecodedInstruction := fun _ _ _ => step_eq_exec

/-! ## The should-be bits -/

section
variable {w : Word} {i : Instr}

/-- The formats of SETEND and CPS (rules R105, R106). -/
theorem sbViolation_cpsTable {f : FCps} (hi : i ∈ [Instr.setend f, .cps f]) :
    sbViolation w i = (bits w 10 6 != 0b000000#6) := by
  revert i
  simp only [List.forall_mem_cons]
  exact ⟨rfl, rfl, List.forall_mem_nil _⟩

/-- The format of the barriers (rule R92). -/
theorem sbViolation_barrierTable {f : FBarrier}
    (hi : i ∈ [Instr.clrex f, .dsb f, .ssbb f, .pssbb f, .dmb f, .isb f, .sb f]) :
    sbViolation w i = (bits w 12 8 != 0b11111111#8 || bits w 8 4 != 0b0000#4) := by
  revert i
  simp only [List.forall_mem_cons]
  exact ⟨rfl, rfl, rfl, rfl, rfl, rfl, rfl, List.forall_mem_nil _⟩

/-- The format of the preloads (immediate) and of their reserved hint (rule R92). -/
theorem sbViolation_pldImmTable {f : FPldImm}
    (hi : i ∈ [Instr.pliImmLit f, .pldLit f, .pldwImm f, .pldImm f, .reservedHintNopPldImm f]) :
    sbViolation w i = (bits w 12 4 != 0b1111#4) := by
  revert i
  simp only [List.forall_mem_cons]
  exact ⟨rfl, rfl, rfl, rfl, rfl, List.forall_mem_nil _⟩

/-- The format of the preloads (register) and of their reserved hint (rule R92). -/
theorem sbViolation_pldRegTable {f : FPldReg}
    (hi : i ∈ [Instr.pliReg f, .pldwReg f, .pldReg f, .reservedHintNopPldReg f]) :
    sbViolation w i = (bits w 12 4 != 0b1111#4) := by
  revert i
  simp only [List.forall_mem_cons]
  exact ⟨rfl, rfl, rfl, rfl, List.forall_mem_nil _⟩

/-- The formats with parenthesised bits are all among the instructions outside the unit (rules R9, R441). -/
theorem sbViolation_eq_false (h : worksWithoutUnit i = false) : sbViolation w i = false := by
  cases i with
  | setpan | setend | cps | clrex | dsb | ssbb | pssbb | dmb | isb | sb | reservedHintNopPldImm | pliImmLit | pldLit
  | pldwImm | pldImm | reservedHintNopPldReg | pliReg | pldwReg | pldReg => exact absurd h.symm Bool.false_ne_true
  | _ => rfl

/-- A word of the Advanced SIMD diagrams is no instruction outside the unit (rules R83, R84, R420). -/
theorem worksWithoutUnit_of_vectorWord
    (hw : bits w 25 7 = 0b1111001#7 ∨ (bits w 24 8 = 0b11110100#8 ∧ bits w 20 1 = 0#1)) (hd : decode w = .instr i) :
    worksWithoutUnit i = false := by
  obtain rfl | rfl := decode_vectorWord hw hd
  · exact worksWithoutUnit_decodeSimdData w
  · exact worksWithoutUnit_decodeLdSt w

end

/-! ## The checks of a step -/

section
variable {s : State} {w : Word} {i : Instr}

/-- A word outside the space of rule R1 is refused (rules R89, R441). -/
theorem step_of_outside (hs : s.Fetches w) (hw : bits w 27 5 ≠ 0b11110#5) : step s = .refused .outsideScope := by
  obtain ⟨hpc, hf⟩ := hs
  have hd : decode w = .outside := if_neg hw
  simp [step, hpc, hf, hd]

/-- An instruction that a false parameter covers is UNDEFINED (rules R441, R454). -/
theorem step_of_gateClosed (hs : s.Fetches w) (hd : decode w = .instr i) (hg : gateOpen s.params i = false) :
    step s = .fault .undefinedInstruction := by
  rw [step_eq_runDecoded hs hd]
  simp [runDecoded, hg, raise]

end

/-- Settles O11: one lemma for each check, and one for the should-be bits of each format. -/
theorem stepChecksComeInOrder : Obligations.StepChecksComeInOrder := by
  refine ⟨fun s => ⟨step_of_misaligned, step_of_fetch_none, fun w hs => ⟨step_of_outside hs, fun i hd =>
    ⟨step_of_gateClosed hs hd, fun hg hp hb => step_of_shouldBeBits hs hd hg ⟨hp, hb⟩⟩⟩⟩, fun w i hd => ?bits⟩
  case bits =>
    refine ⟨fun f hi => ?cps, fun f hi => ?barrier, fun f hi => ?pldImm, fun f hi => ?pldReg, ?none⟩
    case cps => rw [sbViolation_cpsTable hi, bne_iff_ne]
    case barrier => rw [sbViolation_barrierTable hi, Bool.or_eq_true, bne_iff_ne, bne_iff_ne]
    case pldImm => rw [sbViolation_pldImmTable hi, bne_iff_ne]
    case pldReg => rw [sbViolation_pldRegTable hi, bne_iff_ne]
    case none =>
      rintro (⟨f, rfl⟩ | hw)
      · rfl
      · exact sbViolation_eq_false (worksWithoutUnit_of_vectorWord hw hd)

/-! ## The parameters that cover an instruction (rule R454) -/

/-- P1 and P2 cover VQRDMLAH and VQRDMLSH. -/
theorem gateOpen_vqrdmlxh (p : Params) :
    (∀ f : FThreeSame, gateOpen p (.vqrdmlah3same f) = (p.haveArmv81 && p.haveAsimd) ∧
        gateOpen p (.vqrdmlsh3same f) = (p.haveArmv81 && p.haveAsimd)) ∧
      ∀ f : FTwoRegScalar, gateOpen p (.vqrdmlahScalar f) = (p.haveArmv81 && p.haveAsimd) ∧
        gateOpen p (.vqrdmlshScalar f) = (p.haveArmv81 && p.haveAsimd) :=
  ⟨fun _ => ⟨rfl, rfl⟩, fun _ => ⟨rfl, rfl⟩⟩

/-- P2 and P3 cover the AES rows. -/
theorem gateOpen_aes (p : Params) (f : FTwoRegMisc) :
    gateOpen p (.aese f) = (p.haveAsimd && p.haveAes) ∧ gateOpen p (.aesd f) = (p.haveAsimd && p.haveAes) ∧
      gateOpen p (.aesmc f) = (p.haveAsimd && p.haveAes) ∧ gateOpen p (.aesimc f) = (p.haveAsimd && p.haveAes) :=
  ⟨rfl, rfl, rfl, rfl⟩

/-- P2 and P4 cover the SHA1 rows. -/
theorem gateOpen_sha1 (p : Params) :
    (∀ f : FThreeSame, gateOpen p (.sha1c f) = (p.haveAsimd && p.haveSha1) ∧
        gateOpen p (.sha1p f) = (p.haveAsimd && p.haveSha1) ∧ gateOpen p (.sha1m f) = (p.haveAsimd && p.haveSha1) ∧
        gateOpen p (.sha1su0 f) = (p.haveAsimd && p.haveSha1)) ∧
      ∀ f : FTwoRegMisc, gateOpen p (.sha1h f) = (p.haveAsimd && p.haveSha1) ∧
        gateOpen p (.sha1su1 f) = (p.haveAsimd && p.haveSha1) :=
  ⟨fun _ => ⟨rfl, rfl, rfl, rfl⟩, fun _ => ⟨rfl, rfl⟩⟩

/-- P2 and P5 cover the SHA256 rows. -/
theorem gateOpen_sha256 (p : Params) :
    (∀ f : FThreeSame, gateOpen p (.sha256h f) = (p.haveAsimd && p.haveSha256) ∧
        gateOpen p (.sha256h2 f) = (p.haveAsimd && p.haveSha256) ∧
        gateOpen p (.sha256su1 f) = (p.haveAsimd && p.haveSha256)) ∧
      ∀ f : FTwoRegMisc, gateOpen p (.sha256su0 f) = (p.haveAsimd && p.haveSha256) :=
  ⟨fun _ => ⟨rfl, rfl, rfl⟩, fun _ => rfl⟩

/-- The rows that are CONSTRAINED UNPREDICTABLE (rules R103, R382, R393). -/
def unpredictableRow : Instr → Bool
  | .constrainedUnpredictableMisc8 _ | .constrainedUnpredictableMemHint1 _ | .constrainedUnpredictableMemHint2 _
  | .constrainedUnpredictableMemHint4 _ | .constrainedUnpredictableMemHint7 _ | .constrainedUnpredictableBarrier1 _
  | .constrainedUnpredictableBarrier3 _ | .constrainedUnpredictableBarrier10 _ => true
  | _ => false

theorem unpredictableRow_decodeSimdData (w : Word) : unpredictableRow (decodeSimdData w) = false := by
  simp only [decodeSimdData, decodeThreeSame, decodeTwoRegThreeDiff, decodeTwoRegMisc, decodeDup, decodeThreeDiff,
    decodeTwoRegScalar, decodeShiftImm, decodeOneRegImm, decodeTwoRegShift, apply_ite unpredictableRow]
  simp only [unpredictableRow, ite_self]

theorem unpredictableRow_decodeLdSt (w : Word) : unpredictableRow (decodeLdSt w) = false := by
  simp only [decodeLdSt, apply_ite unpredictableRow]
  simp only [unpredictableRow, ite_self]

/-- The tables of the unit have no CONSTRAINED UNPREDICTABLE row (rules R83, R84, R420). -/
theorem unpredictableRow_of_vectorWord {w : Word} {i : Instr}
    (hw : bits w 25 7 = 0b1111001#7 ∨ (bits w 24 8 = 0b11110100#8 ∧ bits w 20 1 = 0#1)) (hd : decode w = .instr i) :
    unpredictableRow i = false := by
  obtain rfl | rfl := decode_vectorWord hw hd
  · exact unpredictableRow_decodeSimdData w
  · exact unpredictableRow_decodeLdSt w

/-- P2 covers every instruction of the unit; what else its tables hold is UNALLOCATED or has no row (rule R454). -/
theorem asimd_covers_or_row_stops {p : Params} (hp : p.haveAsimd = false) {i : Instr}
    (hi : worksWithoutUnit i = false) (hu : unpredictableRow i = false) (s : State) :
    gateOpen p i = false ∨ exec i s = .fault .undefinedInstruction ∨ ∃ tb, exec i s = .refused (.noRowInSource tb) := by
  cases i with
  | unallocatedTop5 | unallocatedMisc1 | unallocatedMisc3 | unallocatedMisc4 | unallocatedMisc5 | unallocatedMisc7
  | unallocatedMisc9 | unallocatedMisc10 | unallocatedMisc11 | unallocatedMisc12 | unallocatedMisc13
  | unallocatedMisc14 | unallocatedMisc15 | unallocatedCps3 | unallocatedThreeSame21 | unallocatedThreeSame53
  | unallocatedThreeSame69 | unallocatedTwoRegMisc4 | unallocatedTwoRegMisc40 | unallocatedTwoRegMisc43
  | unallocatedDup2 | unallocatedDup3 | unallocatedDup4 | unallocatedThreeDiff17 | unallocatedThreeDiff18
  | unallocatedThreeDiff19 | unallocatedThreeDiff20 | unallocatedTwoRegScalar9 | unallocatedTwoRegScalar11
  | unallocatedTwoRegScalar14 | unallocatedOneRegImm12 | unallocatedMemHint8 => exact .inr (.inl rfl)
  | notInSourceTop | notInSourceThreeSame | notInSourceTwoRegThreeDiff | notInSourceTwoRegMisc
  | notInSourceTwoRegShift => exact .inr (.inr ⟨_, rfl⟩)
  | constrainedUnpredictableMisc8 | constrainedUnpredictableMemHint1 | constrainedUnpredictableMemHint2
  | constrainedUnpredictableMemHint4 | constrainedUnpredictableMemHint7 | constrainedUnpredictableBarrier1
  | constrainedUnpredictableBarrier3 | constrainedUnpredictableBarrier10 => exact absurd hu.symm Bool.false_ne_true
  | setpan | setend | cps | clrex | dsb | ssbb | pssbb | dmb | isb | sb | reservedHintNopPldImm | pliImmLit | pldLit
  | pldwImm | pldImm | reservedHintNopPldReg | pliReg | pldwReg | pldReg => exact absurd hi.symm Bool.false_ne_true
  -- The instructions that a second parameter covers too.
  | vqrdmlah3same | vqrdmlsh3same | vqrdmlahScalar | vqrdmlshScalar => exact .inl (by simp [gateOpen_vqrdmlxh, hp])
  | aese | aesd | aesmc | aesimc => exact .inl (by simp [gateOpen_aes, hp])
  | sha1c | sha1p | sha1m | sha1su0 | sha1h | sha1su1 => exact .inl (by simp [gateOpen_sha1, hp])
  | sha256h | sha256h2 | sha256su1 | sha256su0 => exact .inl (by simp [gateOpen_sha256, hp])
  | _ => exact .inl hp

/-- Settles O13: each parameter closes the gate of the instructions it covers; the rows of the unit's tables that P2
does not cover are UNALLOCATED and fault by themselves. -/
theorem absentFeaturesAreUndefined : Obligations.AbsentFeaturesAreUndefined := by
  intro s w i hs hd
  have closed : gateOpen s.params i = false → step s = .fault .undefinedInstruction := step_of_gateClosed hs hd
  refine ⟨fun hp hw hrow => ?asimd, fun hp hi => closed ?armv81, fun hp hi => closed ?aes, fun hp hi => closed ?sha1,
    fun hp hi => closed ?sha256, fun hp hi => closed ?sb⟩
  case asimd =>
    have hunit := worksWithoutUnit_of_vectorWord hw hd
    cases hg : gateOpen s.params i with
    | false => exact closed hg
    | true =>
      have hstep : step s = exec i s := step_of_decode hs hd hg (sbViolation_eq_false hunit)
      obtain hclosed | hundef | ⟨tb, hnoRow⟩ :=
        asimd_covers_or_row_stops hp hunit (unpredictableRow_of_vectorWord hw hd) s
      · exact absurd (hclosed.symm.trans hg) Bool.false_ne_true
      · exact hstep.trans hundef
      · exact absurd hnoRow (hrow tb)
  case armv81 =>
    obtain ⟨f, rfl⟩ | hrows := hi
    · exact hp
    · rcases hrows with ⟨f, rfl⟩ | ⟨f, rfl⟩ | ⟨f, rfl⟩ | ⟨f, rfl⟩ <;> simp [gateOpen_vqrdmlxh, hp]
  case aes => rcases hi with ⟨f, rfl⟩ | ⟨f, rfl⟩ | ⟨f, rfl⟩ | ⟨f, rfl⟩ <;> simp [gateOpen_aes, hp]
  case sha1 =>
    rcases hi with ⟨f, rfl⟩ | ⟨f, rfl⟩ | ⟨f, rfl⟩ | ⟨f, rfl⟩ | ⟨f, rfl⟩ | ⟨f, rfl⟩ <;> simp [gateOpen_sha1, hp]
  case sha256 => rcases hi with ⟨f, rfl⟩ | ⟨f, rfl⟩ | ⟨f, rfl⟩ | ⟨f, rfl⟩ <;> simp [gateOpen_sha256, hp]
  case sb =>
    obtain ⟨f, rfl⟩ := hi
    exact hp

end Sys2Proof.Machine
end

section
/-! What an instruction and a step can answer, with the cause of each outcome (rules R11, R441, R442): one inductive and
one inversion lemma for each, and from them where the stops arise. -/

namespace Sys2Proof.Machine

/-! ## The answers of an instruction -/

/-- The instruction is an encoding without a row of the table (rules R97, R98, R188, R250, R369). -/
def WithoutRow (tb : TableId) (i : Instr) : Prop :=
  (tb = .top ∧ ∃ f, i = .notInSourceTop f) ∨ (tb = .threeSame ∧ ∃ f, i = .notInSourceThreeSame f) ∨
    (tb = .twoRegThreeDiff ∧ ∃ f, i = .notInSourceTwoRegThreeDiff f) ∨
    (tb = .twoRegMisc ∧ ∃ f, i = .notInSourceTwoRegMisc f) ∨ (tb = .twoRegShift ∧ ∃ f, i = .notInSourceTwoRegShift f)

/-- The rows and the operand forms that are CONSTRAINED UNPREDICTABLE or UNPREDICTABLE (rules R103, R110, R382, R393,
R425). -/
def UnpredictableForm (i : Instr) : Prop :=
  (∃ f, i = .constrainedUnpredictableMisc8 f) ∨
    (∃ f, i ∈ [Instr.constrainedUnpredictableMemHint1 f, .constrainedUnpredictableMemHint2 f,
      .constrainedUnpredictableMemHint4 f, .constrainedUnpredictableMemHint7 f]) ∨
    (∃ f, i ∈ [Instr.constrainedUnpredictableBarrier1 f, .constrainedUnpredictableBarrier3 f,
      .constrainedUnpredictableBarrier10 f]) ∨
    (∃ f, i = .cps f ∧ (f.imod = 0b01#2 ∨ (f.imod = 0b00#2 ∧ f.M = 0#1))) ∨
    (∃ f, i = .asimdLdstMult f ∧ f.Rn = 15#4) ∨ (∃ f, i = .asimdLdAll f ∧ f.Rn = 15#4) ∨
    ∃ f, i = .asimdLdstOne f ∧ f.Rn = 15#4

/-- The outcomes that instruction `i` may answer from `s`, each with what it tells of `i` and of `s`. -/
inductive ExecAnswer (i : Instr) (s : State) : Out → Prop
  | next (t) : ExecAnswer i s (.next t)
  | undefined : ExecAnswer i s (.fault .undefinedInstruction)
  | noSuccessor : ¬s.HasSuccessor → ExecAnswer i s (.refused .outsideScope)
  | withoutRow (tb) : WithoutRow tb i → ExecAnswer i s (.refused (.noRowInSource tb))
  | unpredictable : UnpredictableForm i → ExecAnswer i s (.fault .constrainedUnpredictable)
  | dataAbort (abort) : LoadStore i → ExecAnswer i s (.fault (.undefinedInstruction (some abort)))

@[simp] theorem pairwiseEffect_pc {e : Nat} (op : BitVec e → BitVec e → Lane e) (d n m : Nat) (s : State) :
    (pairwiseEffect op d n m s).pc = s.pc := by
  simp [pairwiseEffect]

@[simp] theorem rearrange_pc (e : Nat) (g : List (BitVec e) → List (BitVec e)) (d dCount m mCount : Nat) (s : State) :
    (rearrange e g d dCount m mCount s).pc = s.pc := by
  simp [rearrange]

@[simp] theorem exchange_pc {e : Nat} (g : List (BitVec e) → List (BitVec e) → List (BitVec e) × List (BitVec e))
    (d m count : Nat) (s : State) : (exchange e g d m count s).pc = s.pc := by
  unfold exchange
  split <;> simp

section
variable {i : Instr} {s : State}

/-- Going on to the next instruction is refused only where the pc has no successor (rule R22). -/
theorem advance_answer {u : State} (hu : u.pc = s.pc) : ExecAnswer i s (advance u) := by
  by_cases hs : u.HasSuccessor
  · exact advance_eq hs ▸ .next _
  · rw [advance_refused hs]
    rw [State.HasSuccessor, hu] at hs
    exact .noSuccessor hs

theorem simdOp_answer {undef : Bool} {k : State → State} (hk : (k s).pc = s.pc) :
    ExecAnswer i s (simdOp undef k s) := by
  unfold simdOp
  split
  · exact .undefined
  · exact advance_answer hk

theorem threeSameSha_answer {f : FThreeSame} {op : QWord → QWord → QWord → QWord} :
    ExecAnswer i s (threeSameSha f op s) :=
  simdOp_answer (State.writeQ_pc ..)

theorem twoRegSha_answer {f : FTwoRegMisc} {size : BitVec 2} {op : QWord → QWord → QWord} :
    ExecAnswer i s (twoRegSha f size op s) :=
  simdOp_answer (State.writeQ_pc ..)

/-- A load or store, in the order of its checks (rule R425). -/
theorem loadStore_answer {L : BitVec 1} {Rn Rm : BitVec 4} {tr : Option Transfer} (hi : LoadStore i)
    (h15 : Rn = 15#4 → UnpredictableForm i) : ExecAnswer i s (loadStore L Rn Rm tr s) := by
  unfold loadStore
  split
  · exact .undefined
  · split
    · next h => exact .unpredictable (h15 h)
    · split
      · exact .undefined
      · split
        · exact .dataAbort _ hi
        · split
          · exact .dataAbort _ hi
          · exact advance_answer (transferEffect_pc ..)

theorem setpan_answer (f : FMisc) : ExecAnswer (.setpan f) s (exec (.setpan f) s) := by
  cases hu : s.unprivileged with
  | true => exact exec_setpan_user f hu ▸ advance_answer rfl
  | false => exact exec_setpan_privileged f hu ▸ advance_answer rfl

theorem setend_answer (f : FCps) : ExecAnswer (.setend f) s (exec (.setend f) s) := by
  cases hd : s.ctl.sctlrSed with
  | true => exact exec_setend_disabled f hd ▸ .undefined
  | false => exact exec_setend f hd ▸ advance_answer rfl

theorem cps_answer (f : FCps) : ExecAnswer (.cps f) s (exec (.cps f) s) := by
  cases ha : cpsNotAllowed f with
  | true =>
    have hf := (cpsNotAllowed_iff f).mp ha
    exact exec_cps_notAllowed s ha ▸ .unpredictable (by simpa [UnpredictableForm] using hf)
  | false =>
    cases hu : s.unprivileged with
    | true => exact exec_cps_user ha hu ▸ advance_answer rfl
    | false => exact exec_cps_privileged ha hu ▸ advance_answer rfl

end

/-- Everything an instruction can answer: one case for each constructor, grouped by shape. -/
theorem exec_answer (i : Instr) (s : State) : ExecAnswer i s (exec i s) := by
  cases i with
  -- The rows that are no instruction.
  | unallocatedTop5 | unallocatedMisc1 | unallocatedMisc3 | unallocatedMisc4 | unallocatedMisc5 | unallocatedMisc7
  | unallocatedMisc9 | unallocatedMisc10 | unallocatedMisc11 | unallocatedMisc12 | unallocatedMisc13
  | unallocatedMisc14 | unallocatedMisc15 | unallocatedCps3 | unallocatedThreeSame21 | unallocatedThreeSame53
  | unallocatedThreeSame69 | unallocatedTwoRegMisc4 | unallocatedTwoRegMisc40 | unallocatedTwoRegMisc43
  | unallocatedDup2 | unallocatedDup3 | unallocatedDup4 | unallocatedThreeDiff17 | unallocatedThreeDiff18
  | unallocatedThreeDiff19 | unallocatedThreeDiff20 | unallocatedTwoRegScalar9 | unallocatedTwoRegScalar11
  | unallocatedTwoRegScalar14 | unallocatedOneRegImm12 | unallocatedMemHint8 => exact .undefined
  | constrainedUnpredictableMisc8 | constrainedUnpredictableMemHint1 | constrainedUnpredictableMemHint2
  | constrainedUnpredictableMemHint4 | constrainedUnpredictableMemHint7 | constrainedUnpredictableBarrier1
  | constrainedUnpredictableBarrier3 | constrainedUnpredictableBarrier10 =>
    exact .unpredictable (by simp [UnpredictableForm])
  | notInSourceTop | notInSourceThreeSame | notInSourceTwoRegThreeDiff | notInSourceTwoRegMisc
  | notInSourceTwoRegShift => exact .withoutRow _ (by simp [WithoutRow])
  -- System instructions, barriers and hints.
  | setpan f => exact setpan_answer f
  | setend f => exact setend_answer f
  | cps f => exact cps_answer f
  | clrex | dsb | ssbb | pssbb | dmb | isb | sb | reservedHintNopPldImm | pliImmLit | pldLit | pldwImm
  | pldImm | reservedHintNopPldReg | pliReg | pldwReg | pldReg => exact advance_answer rfl
  -- Loads and stores.
  | asimdLdstMult f => exact loadStore_answer (.inl ⟨f, rfl⟩) fun h => by simp [UnpredictableForm, h]
  | asimdLdAll f => exact loadStore_answer (.inr (.inl ⟨f, rfl⟩)) fun h => by simp [UnpredictableForm, h]
  | asimdLdstOne f => exact loadStore_answer (.inr (.inr ⟨f, rfl⟩)) fun h => by simp [UnpredictableForm, h]
  -- Rows of the unit whose effect is a `fun`; `show` stops unfolding there.
  | sha1c | sha1p | sha1m | sha1su0 | sha256h | sha256h2 | sha256su1 => exact threeSameSha_answer
  | aese | aesd | sha1su1 | sha256su0 => exact twoRegSha_answer
  | aesmc f => exact show ExecAnswer _ s (execAesmc f s) from twoRegSha_answer
  | aesimc f => exact show ExecAnswer _ s (execAesimc f s) from twoRegSha_answer
  | sha1h f => exact show ExecAnswer _ s (execSha1h f s) from twoRegSha_answer
  | vpaddl f => exact show ExecAnswer _ s (execVpaddl f s) from simdOp_answer (State.putLanes_pc ..)
  | vpadal f => exact show ExecAnswer _ s (execVpadal f s) from simdOp_answer (State.putLanes_pc ..)
  | vdupScalar f => exact show ExecAnswer _ s (execVdupScalar f s) from simdOp_answer (State.putLanes_pc ..)
  -- Every other row of the unit: its effect is one of the shared shapes, and each has its lemma that it keeps the pc.
  | _ => exact simdOp_answer (by simp)

/-! ## The answers of a step -/

/-- The outcomes that a step may answer, in the order of its checks (rules R441, R444), each with its cause. -/
inductive StepAnswer (s : State) : Out → Prop
  | misaligned : s.pc.toNat % 4 ≠ 0 → StepAnswer s (.refused .outsideScope)
  | noWord : s.pc.toNat % 4 = 0 → InstrMemory.fetch s.imem s.pc.toNat = none → StepAnswer s (.fault .fetchFault)
  | outside {w} : s.Fetches w → bits w 27 5 ≠ 0b11110#5 → StepAnswer s (.refused .outsideScope)
  | absentFeature : StepAnswer s (.fault .undefinedInstruction)
  | shouldBeBits {w i} : s.Fetches w → decode w = .instr i → s.params.sbPolicy = .fault ∧ sbViolation w i = true →
      StepAnswer s (.fault .shouldBeBits)
  | runs {w i o} : s.Fetches w → decode w = .instr i → ExecAnswer i s o → StepAnswer s o

/-- What a step over a decoded word can answer (rules R441, R454). -/
theorem step_answer_of_decode {s : State} {w : Word} {i : Instr} (hs : s.Fetches w) (hd : decode w = .instr i) :
    StepAnswer s (step s) := by
  cases hg : gateOpen s.params i with
  | false => exact step_of_gateClosed hs hd hg ▸ .absentFeature
  | true =>
    by_cases hb : s.params.sbPolicy = .fault ∧ sbViolation w i = true
    · exact step_of_shouldBeBits hs hd hg hb ▸ .shouldBeBits hs hd hb
    · exact step_eq_exec hs hd hg hb ▸ .runs hs hd (exec_answer i s)

/-- Everything a step can answer. -/
theorem step_answer (s : State) : StepAnswer s (step s) := by
  by_cases hpc : s.pc.toNat % 4 = 0
  · cases hf : InstrMemory.fetch s.imem s.pc.toNat with
    | none => exact step_of_fetch_none hpc hf ▸ .noWord hpc hf
    | some w =>
      have hs : s.Fetches w := ⟨hpc, hf⟩
      by_cases hw : bits w 27 5 = 0b11110#5
      · exact step_answer_of_decode hs (decode_of_space hw)
      · exact step_of_outside hs hw ▸ .outside hs hw
  · exact step_of_misaligned hpc ▸ .misaligned hpc

/-- Settles O20: each outcome has its cause among the answers of a step, or else among those of its instruction. -/
theorem stopsHaveTheirCauses : Obligations.StopsHaveTheirCauses := by
  intro s
  have answer {o : Out} (h : step s = o) : StepAnswer s o := h ▸ step_answer s
  refine ⟨fun h => ?fetchFault, fun h => ?outsideScope, fun h => ?shouldBeBits, fun tb h => ?noRow,
    fun h => ?unpredictable, fun abort h => ?dataAbort, fun m h => ?notModelled⟩
  case fetchFault =>
    cases answer h with
    | noWord hpc hf => exact ⟨hpc, hf⟩
    | runs _ _ he => nomatch he
  case outsideScope =>
    cases answer h with
    | misaligned hpc => exact .inl hpc
    | outside hs hw => exact .inr (.inr ⟨_, hs, hw⟩)
    | runs _ _ he => cases he with | noSuccessor hsucc => exact .inr (.inl hsucc)
  case shouldBeBits =>
    cases answer h with
    | shouldBeBits hs hd hb => exact ⟨hb.1, _, _, hs, hd, hb.2⟩
    | runs _ _ he => nomatch he
  case noRow =>
    cases answer h with
    | runs hs hd he => cases he with | withoutRow _ hrow => exact ⟨_, _, hs, hd, hrow⟩
  case unpredictable =>
    cases answer h with
    | runs hs hd he => cases he with | unpredictable hform => exact ⟨_, _, hs, hd, hform⟩
  case dataAbort =>
    cases answer h with
    | runs hs hd he => cases he with | dataAbort _ hls => exact ⟨_, _, hs, hd, hls⟩
  case notModelled =>
    cases answer h with
    | runs _ _ he => nomatch he

end Sys2Proof.Machine
end

section
/-! Three registers of the same length (rules R121 to R186, R196, R197): the meanings of the rows of this table and of
"two registers misc", the lane operations on integers, and the statements about the integer and bitwise rows. -/

namespace Sys2Proof.Machine

/-! ## The meanings of the rows -/

section
variable (f : FThreeSame) (s : State)

@[simp] theorem exec_vfma : exec (.vfma f) s = execVfma f s := rfl
@[simp] theorem exec_vaddFp : exec (.vaddFp f) s = execVaddFp f s := rfl
@[simp] theorem exec_vmlaFp : exec (.vmlaFp f) s = execVmlaFp f s := rfl
@[simp] theorem exec_vceqRegA2 : exec (.vceqRegA2 f) s = execVceqRegA2 f s := rfl
@[simp] theorem exec_vmaxFp : exec (.vmaxFp f) s = execVmaxFp f s := rfl
@[simp] theorem exec_vrecps : exec (.vrecps f) s = execVrecps f s := rfl
@[simp] theorem exec_vhadd : exec (.vhadd f) s = execVhadd f s := rfl
@[simp] theorem exec_vandReg : exec (.vandReg f) s = execVandReg f s := rfl
@[simp] theorem exec_vqadd : exec (.vqadd f) s = execVqadd f s := rfl
@[simp] theorem exec_vrhadd : exec (.vrhadd f) s = execVrhadd f s := rfl
@[simp] theorem exec_sha1c : exec (.sha1c f) s = execSha1c f s := rfl
@[simp] theorem exec_vhsub : exec (.vhsub f) s = execVhsub f s := rfl
@[simp] theorem exec_vbicReg : exec (.vbicReg f) s = execVbicReg f s := rfl
@[simp] theorem exec_vqsub : exec (.vqsub f) s = execVqsub f s := rfl
@[simp] theorem exec_vcgtRegA1 : exec (.vcgtRegA1 f) s = execVcgtRegA1 f s := rfl
@[simp] theorem exec_vcgeRegA1 : exec (.vcgeRegA1 f) s = execVcgeRegA1 f s := rfl
@[simp] theorem exec_sha1p : exec (.sha1p f) s = execSha1p f s := rfl
@[simp] theorem exec_vfms : exec (.vfms f) s = execVfms f s := rfl
@[simp] theorem exec_vsubFp : exec (.vsubFp f) s = execVsubFp f s := rfl
@[simp] theorem exec_vmlsFp : exec (.vmlsFp f) s = execVmlsFp f s := rfl
@[simp] theorem exec_vminFp : exec (.vminFp f) s = execVminFp f s := rfl
@[simp] theorem exec_vrsqrts : exec (.vrsqrts f) s = execVrsqrts f s := rfl
@[simp] theorem exec_vshlReg : exec (.vshlReg f) s = execVshlReg f s := rfl
@[simp] theorem exec_vaddInt : exec (.vaddInt f) s = execVaddInt f s := rfl
@[simp] theorem exec_vorrReg : exec (.vorrReg f) s = execVorrReg f s := rfl
@[simp] theorem exec_vtst : exec (.vtst f) s = execVtst f s := rfl
@[simp] theorem exec_vqshlReg : exec (.vqshlReg f) s = execVqshlReg f s := rfl
@[simp] theorem exec_vmlaInt : exec (.vmlaInt f) s = execVmlaInt f s := rfl
@[simp] theorem exec_vrshl : exec (.vrshl f) s = execVrshl f s := rfl
@[simp] theorem exec_vqrshl : exec (.vqrshl f) s = execVqrshl f s := rfl
@[simp] theorem exec_vqdmulh3same : exec (.vqdmulh3same f) s = execVqdmulh3same f s := rfl
@[simp] theorem exec_sha1m : exec (.sha1m f) s = execSha1m f s := rfl
@[simp] theorem exec_vpaddInt : exec (.vpaddInt f) s = execVpaddInt f s := rfl
@[simp] theorem exec_vmaxInt : exec (.vmaxInt f) s = execVmaxInt f s := rfl
@[simp] theorem exec_vornReg : exec (.vornReg f) s = execVornReg f s := rfl
@[simp] theorem exec_vminInt : exec (.vminInt f) s = execVminInt f s := rfl
@[simp] theorem exec_vabdInt : exec (.vabdInt f) s = execVabdInt f s := rfl
@[simp] theorem exec_vaba : exec (.vaba f) s = execVaba f s := rfl
@[simp] theorem exec_sha1su0 : exec (.sha1su0 f) s = execSha1su0 f s := rfl
@[simp] theorem exec_vpaddFp : exec (.vpaddFp f) s = execVpaddFp f s := rfl
@[simp] theorem exec_vmulFp : exec (.vmulFp f) s = execVmulFp f s := rfl
@[simp] theorem exec_vcgeRegA2 : exec (.vcgeRegA2 f) s = execVcgeRegA2 f s := rfl
@[simp] theorem exec_vacge : exec (.vacge f) s = execVacge f s := rfl
@[simp] theorem exec_vpmaxFp : exec (.vpmaxFp f) s = execVpmaxFp f s := rfl
@[simp] theorem exec_vmaxnm : exec (.vmaxnm f) s = execVmaxnm f s := rfl
@[simp] theorem exec_veor : exec (.veor f) s = execVeor f s := rfl
@[simp] theorem exec_vmulIntPoly : exec (.vmulIntPoly f) s = execVmulIntPoly f s := rfl
@[simp] theorem exec_sha256h : exec (.sha256h f) s = execSha256h f s := rfl
@[simp] theorem exec_vpmaxInt : exec (.vpmaxInt f) s = execVpmaxInt f s := rfl
@[simp] theorem exec_vbsl : exec (.vbsl f) s = execVbsl f s := rfl
@[simp] theorem exec_vpminInt : exec (.vpminInt f) s = execVpminInt f s := rfl
@[simp] theorem exec_sha256h2 : exec (.sha256h2 f) s = execSha256h2 f s := rfl
@[simp] theorem exec_vabdFp : exec (.vabdFp f) s = execVabdFp f s := rfl
@[simp] theorem exec_vcgtRegA2 : exec (.vcgtRegA2 f) s = execVcgtRegA2 f s := rfl
@[simp] theorem exec_vacgt : exec (.vacgt f) s = execVacgt f s := rfl
@[simp] theorem exec_vpminFp : exec (.vpminFp f) s = execVpminFp f s := rfl
@[simp] theorem exec_vminnm : exec (.vminnm f) s = execVminnm f s := rfl
@[simp] theorem exec_vsubInt : exec (.vsubInt f) s = execVsubInt f s := rfl
@[simp] theorem exec_vbit : exec (.vbit f) s = execVbit f s := rfl
@[simp] theorem exec_vceqRegA1 : exec (.vceqRegA1 f) s = execVceqRegA1 f s := rfl
@[simp] theorem exec_vmlsInt : exec (.vmlsInt f) s = execVmlsInt f s := rfl
@[simp] theorem exec_vqrdmulh3same : exec (.vqrdmulh3same f) s = execVqrdmulh3same f s := rfl
@[simp] theorem exec_sha256su1 : exec (.sha256su1 f) s = execSha256su1 f s := rfl
@[simp] theorem exec_vqrdmlah3same : exec (.vqrdmlah3same f) s = execVqrdmlah3same f s := rfl
@[simp] theorem exec_vbif : exec (.vbif f) s = execVbif f s := rfl
@[simp] theorem exec_vqrdmlsh3same : exec (.vqrdmlsh3same f) s = execVqrdmlsh3same f s := rfl

end

section
variable (f : FTwoRegMisc) (s : State)

@[simp] theorem exec_vrev64 : exec (.vrev64 f) s = execVrev64 f s := rfl
@[simp] theorem exec_vrev32 : exec (.vrev32 f) s = execVrev32 f s := rfl
@[simp] theorem exec_vrev16 : exec (.vrev16 f) s = execVrev16 f s := rfl
@[simp] theorem exec_vpaddl : exec (.vpaddl f) s = execVpaddl f s := rfl
@[simp] theorem exec_aese : exec (.aese f) s = execAese f s := rfl
@[simp] theorem exec_aesd : exec (.aesd f) s = execAesd f s := rfl
@[simp] theorem exec_aesmc : exec (.aesmc f) s = execAesmc f s := rfl
@[simp] theorem exec_aesimc : exec (.aesimc f) s = execAesimc f s := rfl
@[simp] theorem exec_vcls : exec (.vcls f) s = execVcls f s := rfl
@[simp] theorem exec_vswp : exec (.vswp f) s = execVswp f s := rfl
@[simp] theorem exec_vclz : exec (.vclz f) s = execVclz f s := rfl
@[simp] theorem exec_vcnt : exec (.vcnt f) s = execVcnt f s := rfl
@[simp] theorem exec_vmvnReg : exec (.vmvnReg f) s = execVmvnReg f s := rfl
@[simp] theorem exec_vpadal : exec (.vpadal f) s = execVpadal f s := rfl
@[simp] theorem exec_vqabs : exec (.vqabs f) s = execVqabs f s := rfl
@[simp] theorem exec_vqneg : exec (.vqneg f) s = execVqneg f s := rfl
@[simp] theorem exec_vcgtImm0 : exec (.vcgtImm0 f) s = execVcgtImm0 f s := rfl
@[simp] theorem exec_vcgeImm0 : exec (.vcgeImm0 f) s = execVcgeImm0 f s := rfl
@[simp] theorem exec_vceqImm0 : exec (.vceqImm0 f) s = execVceqImm0 f s := rfl
@[simp] theorem exec_vcleImm0 : exec (.vcleImm0 f) s = execVcleImm0 f s := rfl
@[simp] theorem exec_vcltImm0 : exec (.vcltImm0 f) s = execVcltImm0 f s := rfl
@[simp] theorem exec_vabs : exec (.vabs f) s = execVabs f s := rfl
@[simp] theorem exec_vneg : exec (.vneg f) s = execVneg f s := rfl
@[simp] theorem exec_sha1h : exec (.sha1h f) s = execSha1h f s := rfl
@[simp] theorem exec_vtrn : exec (.vtrn f) s = execVtrn f s := rfl
@[simp] theorem exec_vuzp : exec (.vuzp f) s = execVuzp f s := rfl
@[simp] theorem exec_vzip : exec (.vzip f) s = execVzip f s := rfl
@[simp] theorem exec_vmovn : exec (.vmovn f) s = execVmovn f s := rfl
@[simp] theorem exec_vqmovun : exec (.vqmovun f) s = execVqmovun f s := rfl
@[simp] theorem exec_vqmovn : exec (.vqmovn f) s = execVqmovn f s := rfl
@[simp] theorem exec_vshllMisc : exec (.vshllMisc f) s = execVshllMisc f s := rfl
@[simp] theorem exec_sha1su1 : exec (.sha1su1 f) s = execSha1su1 f s := rfl
@[simp] theorem exec_sha256su0 : exec (.sha256su0 f) s = execSha256su0 f s := rfl
@[simp] theorem exec_vrintnAsimd : exec (.vrintnAsimd f) s = execVrintnAsimd f s := rfl
@[simp] theorem exec_vrintxAsimd : exec (.vrintxAsimd f) s = execVrintxAsimd f s := rfl
@[simp] theorem exec_vrintaAsimd : exec (.vrintaAsimd f) s = execVrintaAsimd f s := rfl
@[simp] theorem exec_vrintzAsimd : exec (.vrintzAsimd f) s = execVrintzAsimd f s := rfl
@[simp] theorem exec_vcvtSpToHp : exec (.vcvtSpToHp f) s = execVcvtSpToHp f s := rfl
@[simp] theorem exec_vrintmAsimd : exec (.vrintmAsimd f) s = execVrintmAsimd f s := rfl
@[simp] theorem exec_vcvtHpToSp : exec (.vcvtHpToSp f) s = execVcvtHpToSp f s := rfl
@[simp] theorem exec_vrintpAsimd : exec (.vrintpAsimd f) s = execVrintpAsimd f s := rfl
@[simp] theorem exec_vcvtaAsimd : exec (.vcvtaAsimd f) s = execVcvtaAsimd f s := rfl
@[simp] theorem exec_vcvtnAsimd : exec (.vcvtnAsimd f) s = execVcvtnAsimd f s := rfl
@[simp] theorem exec_vcvtpAsimd : exec (.vcvtpAsimd f) s = execVcvtpAsimd f s := rfl
@[simp] theorem exec_vcvtmAsimd : exec (.vcvtmAsimd f) s = execVcvtmAsimd f s := rfl
@[simp] theorem exec_vrecpe : exec (.vrecpe f) s = execVrecpe f s := rfl
@[simp] theorem exec_vrsqrte : exec (.vrsqrte f) s = execVrsqrte f s := rfl
@[simp] theorem exec_vcvtFpIntAsimd : exec (.vcvtFpIntAsimd f) s = execVcvtFpIntAsimd f s := rfl

end

section
variable (f : FDup) (s : State)

@[simp] theorem exec_vdupScalar : exec (.vdupScalar f) s = execVdupScalar f s := rfl

end

section
variable (f : FTwoRegScalar) (s : State)

@[simp] theorem exec_vqdmulhScalar : exec (.vqdmulhScalar f) s = execVqdmulhScalar f s := rfl
@[simp] theorem exec_vqrdmulhScalar : exec (.vqrdmulhScalar f) s = execVqrdmulhScalar f s := rfl
@[simp] theorem exec_vqrdmlahScalar : exec (.vqrdmlahScalar f) s = execVqrdmlahScalar f s := rfl
@[simp] theorem exec_vqrdmlshScalar : exec (.vqrdmlshScalar f) s = execVqrdmlshScalar f s := rfl

end

section
variable (f : FTwoRegShift) (s : State)

@[simp] theorem exec_vmovl : exec (.vmovl f) s = execVmovl f s := rfl
@[simp] theorem exec_vshllImm : exec (.vshllImm f) s = execVshllImm f s := rfl
@[simp] theorem exec_vcvtFpFixedAsimd : exec (.vcvtFpFixedAsimd f) s = execVcvtFpFixedAsimd f s := rfl

end

/-! ## Lane operations on integers -/

section
variable {e : Nat} (unsigned : Bool) (x y : BitVec e)

theorem ofInt_laneInt_add : BitVec.ofInt e (laneInt unsigned x + laneInt unsigned y) = x + y := by
  rw [BitVec.ofInt_add, ofInt_laneInt, ofInt_laneInt]

theorem maxInt_eq_ofInt : maxInt unsigned x y = BitVec.ofInt e (max (laneInt unsigned x) (laneInt unsigned y)) := by
  unfold maxInt
  split
  · next h => rw [Int.max_eq_left h, ofInt_laneInt]
  · next h => rw [Int.max_eq_right (Int.le_of_lt (Int.not_le.mp h)), ofInt_laneInt]

theorem minInt_eq_ofInt : minInt unsigned x y = BitVec.ofInt e (min (laneInt unsigned x) (laneInt unsigned y)) := by
  unfold minInt
  split
  · next h => rw [Int.min_eq_left h, ofInt_laneInt]
  · next h => rw [Int.min_eq_right (Int.le_of_lt (Int.not_le.mp h)), ofInt_laneInt]

/-- A mask is chosen by the property that its Boolean decides. -/
theorem mask_eq_ite {b : Bool} {p : Prop} [Decidable p] (h : b = true ↔ p) :
    (mask b : BitVec e) = if p then BitVec.allOnes e else 0 := by
  unfold mask
  exact ite_congr (propext h) (fun _ => rfl) fun _ => rfl

theorem and_ne_zero_iff :
    (x &&& y != 0) = true ↔ ∃ i, i < e ∧ x.getLsbD i = true ∧ y.getLsbD i = true := by
  rw [bne_iff_ne, Ne, BitVec.eq_of_getLsbD_eq_iff]
  simp

theorem shiftCount_eq (n : BitVec e) : shiftCount n = (n.extractLsb' 0 8).toInt := by
  have hbyte : n.setWidth 8 = n.extractLsb' 0 8 := by ext; simp
  rw [shiftCount, hbyte]

end

/-- A shift without rounding, by the sign of the count. -/
theorem shiftInt_truncated (v c : Int) :
    shiftInt (v + (if false then roundConst c else 0)) c =
      if 0 ≤ c then v * 2 ^ c.toNat else v / 2 ^ (-c).toNat := by
  simp [shiftInt]

/-- A rounding shift, by the sign of the count: only a right shift rounds. -/
theorem shiftInt_rounded (v c : Int) :
    shiftInt (v + (if true then roundConst c else 0)) c =
      if 0 ≤ c then v * 2 ^ c.toNat else (v + 2 ^ ((-c).toNat - 1)) / 2 ^ (-c).toNat := by
  unfold shiftInt roundConst
  split
  · next h => simp [Int.not_lt.mpr h]
  · next h => simp [Int.not_le.mp h]

/-! ## Polynomial products -/

/-- The sum modulo 2 of `g i` for `i` below `n`. -/
def xorBelow (g : Nat → Bool) (n : Nat) : Bool := (List.range n).foldr (fun i acc => g i ^^ acc) false

/-- A fold depends on its step only at the elements of its list. -/
theorem foldr_congr_of_mem {α β : Type} {f g : α → β → β} {init : β} :
    ∀ {l : List α}, (∀ x ∈ l, ∀ acc, f x acc = g x acc) → l.foldr f init = l.foldr g init
  | [], _ => rfl
  | x :: l, h => by
    rw [List.foldr_cons, List.foldr_cons, h x List.mem_cons_self,
      foldr_congr_of_mem fun y hy => h y (List.mem_cons_of_mem x hy)]

theorem foldr_xor_init (g : Nat → Bool) (l : List Nat) (b : Bool) :
    l.foldr (fun i acc => g i ^^ acc) b = (l.foldr (fun i acc => g i ^^ acc) false ^^ b) := by
  induction l with
  | nil => simp
  | cons i l ih => rw [List.foldr_cons, ih, List.foldr_cons, Bool.xor_assoc]

theorem xorBelow_succ (g : Nat → Bool) (n : Nat) : xorBelow g (n + 1) = (xorBelow g n ^^ g n) := by
  rw [xorBelow, List.range_succ, List.foldr_append, foldr_xor_init]
  simp [xorBelow]

/-- Terms that are 0 do not count. -/
theorem xorBelow_add (g : Nat → Bool) (n k : Nat) (h : ∀ i, n ≤ i → g i = false) :
    xorBelow g (n + k) = xorBelow g n := by
  induction k with
  | zero => rfl
  | succ k ih => rw [← Nat.add_assoc, xorBelow_succ, ih, h _ (Nat.le_add_right n k), Bool.xor_false]

/-- The term of bit `k` of a polynomial product that bit `i` of the second factor gives. -/
def productTerm (a b k i : Nat) : Bool := decide (i ≤ k) && a.testBit (k - i) && b.testBit i

theorem testBit_polyMul (a b k n : Nat) : (polyMul a b n).testBit k = xorBelow (productTerm a b k) n := by
  induction n with
  | zero => simp [polyMul, xorBelow]
  | succ n ih =>
    rw [polyMul, Nat.testBit_xor, ih, xorBelow_succ]
    congr 1
    by_cases hb : b.testBit n <;> simp [productTerm, hb, Nat.testBit_shiftLeft]

section
variable {e : Nat} (x y : BitVec e)

theorem gf2ProductBit_eq (k : Nat) : gf2ProductBit x y k = xorBelow (productTerm x.toNat y.toNat k) (k + 1) := by
  unfold gf2ProductBit xorBelow
  refine foldr_congr_of_mem fun i hi acc => ?_
  have hle : i ≤ k := Nat.lt_succ_iff.mp (List.mem_range.mp hi)
  simp [productTerm, hle, BitVec.getLsbD]

/-- The terms past the bits of the second factor, and those past bit `k`, are 0. -/
theorem testBit_polyMul_eq_gf2ProductBit (k : Nat) :
    (polyMul x.toNat y.toNat e).testBit k = gf2ProductBit x y k := by
  have hwidth : ∀ i, e ≤ i → productTerm x.toNat y.toNat k i = false := fun i hi => by
    simp [productTerm, Nat.testBit_lt_two_pow (Nat.lt_of_lt_of_le y.isLt (Nat.pow_le_pow_right (by decide) hi))]
  have hplace : ∀ i, k + 1 ≤ i → productTerm x.toNat y.toNat k i = false := fun i hi => by
    simp [productTerm, show ¬i ≤ k by omega]
  rw [testBit_polyMul, gf2ProductBit_eq, ← xorBelow_add _ e (k + 1) hwidth, ← xorBelow_add _ (k + 1) e hplace,
    Nat.add_comm]

theorem getLsbD_mulPoly {o k : Nat} (hk : k < o) : (mulPoly o x y).getLsbD k = gf2ProductBit x y k := by
  rw [mulPoly, BitVec.getLsbD_ofNat, testBit_polyMul_eq_gf2ProductBit, decide_eq_true hk, Bool.true_and]

end

/-! ## Row shapes -/

/-- 64-bit lanes are a form of few rows. -/
theorem size64_eq_false {size : BitVec 2} (h : size ≠ 0b11#2) : size64 size = false := by simp [size64, h]

/-- The row shape `threeSamePairs`. -/
theorem threeSamePairs_flagged {i : Instr} {s : State} {A : Flags} {f : FThreeSame} {undef : Bool}
    {op : (e : Nat) → BitVec e → BitVec e → Lane e} (he : exec i s = threeSamePairs f undef op s)
    (hu : undef = false) (hr : s.SimdReady) (hw : ∀ e (x y : BitVec e), (op e x y).Within A) :
    GivesFlaggedLanes i s A (esize f.size) f.d 1
      (fun j => op _ (pairSource s (esize f.size) f.n f.m (2 * j)) (pairSource s (esize f.size) f.n f.m (2 * j + 1))) :=
  pairs_flagged (laneWidth_esize _) he hu hr (vreg_lt f.D f.Vd) (hw _)

/-- The row shape `threeSameBits`: each bit of the result is one function of the bits at its place. -/
theorem threeSameBits_completes {i : Instr} {s : State} {f : FThreeSame} {op : DWord → DWord → DWord → DWord}
    {bit : Bool → Bool → Bool → Bool} (he : exec i s = threeSameBits f op s) (hr : s.SimdReady)
    (hv : EvenFor f.Q [f.d, f.n, f.m])
    (hbit : ∀ d n m b, b < 64 → (op d n m).getLsbD b = bit (d.getLsbD b) (n.getLsbD b) (m.getLsbD b)) :
    Completes i s fun t =>
      VectorFrame 0#32 (Regs f.d (regCount f.Q)) s t ∧
        ∀ k, k < regCount f.Q → ∀ b, b < 64 →
          (t.readD (f.d + k)).getLsbD b =
            bit ((s.readD (f.d + k)).getLsbD b) ((s.readD (f.n + k)).getLsbD b) ((s.readD (f.m + k)).getLsbD b) := by
  obtain ⟨t, ht, hframe, hlanes, -⟩ := accumulate_flagged (A := 0#32) (by simp [LaneWidth]) he
    (threeSame_fits hv).1 hr (threeSame_fits hv).2 rfl rfl fun _ _ _ => plain_within _ _
  refine ⟨t, ht, hframe, fun k hk b hb => ?_⟩
  have hlane := hlanes k (by simpa using hk)
  simp only [State.laneAt_doubleword, plain_fst] at hlane
  rw [hlane, hbit _ _ _ _ hb]

/-! ## The statements -/

/-- Settles O26: each row is its shape, and narrowing commutes with sum, difference and product. -/
theorem integerArithmeticWraps : Obligations.IntegerArithmeticWraps := by
  rintro f s _ _ _ _ hr hv rfl rfl rfl rfl
  refine ⟨?vadd, ?vsub, fun hz => ⟨?vmla, ?vmls, fun hU => ?vmul⟩⟩
  case vadd =>
    exact (threeSameInt_flagged (exec_vaddInt f s) rfl hr hv fun _ _ _ => plain_within _ _).plainLanes fun _ => by
      rw [plain_fst, ofInt_toNat_add, ofInt_toNat]
  case vsub =>
    exact (threeSameInt_flagged (exec_vsubInt f s) rfl hr hv fun _ _ _ => plain_within _ _).plainLanes fun _ => by
      rw [plain_fst, ofInt_toNat_sub, ofInt_toNat]
  case vmla =>
    exact (threeSameAcc_flagged (exec_vmlaInt f s) (size64_eq_false hz) hr hv
      fun _ _ _ _ => plain_within _ _).plainLanes fun _ => by rw [plain_fst, ofInt_toNat_add, ofInt_toNat_mul]
  case vmls =>
    exact (threeSameAcc_flagged (exec_vmlsInt f s) (size64_eq_false hz) hr hv
      fun _ _ _ _ => plain_within _ _).plainLanes fun _ => by rw [plain_fst, ofInt_toNat_sub, ofInt_toNat_mul]
  case vmul =>
    have hint : isSet f.U = false := by simp [isSet, hU]
    exact (threeSameInt_flagged (exec_vmulIntPoly f s) (by simp [size64_eq_false hz, hint]) hr hv
      fun _ _ _ => plain_within _ _).plainLanes fun _ => by simp [hint, ofInt_toNat_mul]

/-- Settles O27: the two rows are their shapes, and each bit of a polynomial product is the sum of its terms. -/
theorem polynomialProducts : Obligations.PolynomialProducts := by
  constructor
  · intro f s hr hv hU hz
    have hpoly : isSet f.U = true := by simp [isSet, hU]
    have hbytes : esize f.size = 8 := by rw [hz]; rfl
    have hrow := (threeSameInt_flagged (exec_vmulIntPoly f s) (by simp [size64, hz]) hr hv
      fun _ _ _ => plain_within _ _).plainBits
        (bit := fun j => gf2ProductBit (s.laneAt (esize f.size) f.n j) (s.laneAt (esize f.size) f.m j))
        fun j b hb => by rw [if_pos hpoly, plain_fst, getLsbD_mulPoly _ _ hb]
    rwa [hbytes] at hrow
  · rintro f s e hr hd hU hpoly hz rfl
    have hesize : 8 * 2 ^ f.size.toNat = esize f.size := (Nat.shiftLeft_eq 8 _).symm
    have h11 : f.size ≠ 0b11#2 := by rcases hz with hz | hz <;> simp [hz]
    have hmull : mullPoly f = true := hpoly
    have hu : mullUndef f = false := by rcases hz with hz | hz <;> simp [mullUndef, isSet, hU, hz]
    have hlanes : 2 * (64 / (2 * esize f.size)) = 64 / esize f.size :=
      (wide_lanes (laneWidth_double h11)).trans (Nat.one_mul _)
    have hrow := (long_flagged (exec_vmullIntPoly f s) hu hr hd h11 fun _ _ _ => plain_within _ _).plainBits
      (bit := fun j => gf2ProductBit (s.laneAt (esize f.size) f.n j) (s.laneAt (esize f.size) f.m j))
      fun j b hb => by rw [if_pos hmull, plain_fst, getLsbD_mulPoly _ _ hb]
    rwa [hlanes, ← hesize] at hrow

/-- Settles O28: each row is its shape; its lane is the exact integer, and of a maximum or minimum one of the two. -/
theorem halvingMaximumDifferencePairs : Obligations.HalvingMaximumDifferencePairs := by
  constructor
  · rintro f s _ _ _ hr hv hz rfl rfl rfl
    have hu := size64_eq_false hz
    exact ⟨
      (threeSameInt_flagged (exec_vhadd f s) hu hr hv fun _ _ _ => plain_within _ _).plainLanes fun _ => by
        rw [plain_fst, halvingAdd, Int.add_zero, wrapInt],
      (threeSameInt_flagged (exec_vrhadd f s) hu hr hv fun _ _ _ => plain_within _ _).plainLanes fun _ => rfl,
      (threeSameInt_flagged (exec_vhsub f s) hu hr hv fun _ _ _ => plain_within _ _).plainLanes fun _ => rfl,
      (threeSameInt_flagged (exec_vmaxInt f s) hu hr hv fun _ _ _ => plain_within _ _).plainLanes fun _ =>
        maxInt_eq_ofInt _ _ _,
      (threeSameInt_flagged (exec_vminInt f s) hu hr hv fun _ _ _ => plain_within _ _).plainLanes fun _ =>
        minInt_eq_ofInt _ _ _,
      (threeSameInt_flagged (exec_vabdInt f s) hu hr hv fun _ _ _ => plain_within _ _).plainLanes fun _ => rfl,
      (threeSameAcc_flagged (exec_vaba f s) hu hr hv fun _ _ _ _ => plain_within _ _).plainLanes fun _ =>
        (ofInt_toNat_add _ _).symm⟩
  · rintro f s _ _ _ hr hQ hz rfl rfl rfl
    have hu := size64_eq_false hz
    exact ⟨
      (threeSamePairs_flagged (exec_vpaddInt f s) (by simp [hu, isSet, hQ]) hr
        fun _ _ _ => plain_within _ _).plainLanes fun _ => (ofInt_laneInt_add _ _ _).symm,
      (threeSamePairs_flagged (exec_vpmaxInt f s) hu hr fun _ _ _ => plain_within _ _).plainLanes fun _ =>
        maxInt_eq_ofInt _ _ _,
      (threeSamePairs_flagged (exec_vpminInt f s) hu hr fun _ _ _ => plain_within _ _).plainLanes fun _ =>
        minInt_eq_ofInt _ _ _⟩

/-- Settles O29: each row is its shape, and its mask is chosen by the relation that the row tests. -/
theorem integerComparisons : Obligations.IntegerComparisons := by
  rintro f s _ _ _ _ hr hv hz rfl rfl rfl rfl
  have hu := size64_eq_false hz
  exact ⟨
    (threeSameInt_flagged (exec_vcgtRegA1 f s) hu hr hv fun _ _ _ => plain_within _ _).plainLanes fun _ =>
      mask_eq_ite decide_eq_true_iff,
    (threeSameInt_flagged (exec_vcgeRegA1 f s) hu hr hv fun _ _ _ => plain_within _ _).plainLanes fun _ =>
      mask_eq_ite decide_eq_true_iff,
    (threeSameInt_flagged (exec_vceqRegA1 f s) hu hr hv fun _ _ _ => plain_within _ _).plainLanes fun _ =>
      mask_eq_ite beq_iff_eq,
    (threeSameInt_flagged (exec_vtst f s) hu hr hv fun _ _ _ => plain_within _ _).plainLanes fun _ =>
      mask_eq_ite (and_ne_zero_iff _ _)⟩

/-- Settles O30: each row is its shape and saturates the exact integer once. -/
theorem saturatingAddSubtractAbsNegate : Obligations.SaturatingAddSubtractAbsNegate := by
  constructor
  · rintro f s _ _ _ _ hr hv rfl rfl rfl rfl
    have he := (laneWidth_esize f.size).pos
    exact ⟨
      (threeSameInt_flagged (exec_vqadd f s) rfl hr hv fun _ => satAdd_within _).saturatedOnce he fun _ => rfl,
      (threeSameInt_flagged (exec_vqsub f s) rfl hr hv fun _ => satSub_within _).saturatedOnce he fun _ => rfl⟩
  · rintro f s _ _ hr hv hz rfl rfl
    have he := (laneWidth_esize f.size).pos
    have hu := size64_eq_false hz
    exact ⟨
      (twoRegInt_flagged (exec_vqabs f s) hu hr hv fun _ _ => saturate_within _ _ _).saturatedOnce he fun _ => rfl,
      (twoRegInt_flagged (exec_vqneg f s) hu hr hv fun _ _ => saturate_within _ _ _).saturatedOnce he fun _ => rfl⟩

/-- Settles O31: each row is its shape, and shifts the exact integer before it narrows or saturates. -/
theorem shiftsByRegister : Obligations.ShiftsByRegister := by
  rintro f s _ _ _ _ _ _ hr hv rfl rfl rfl rfl rfl rfl
  have he := (laneWidth_esize f.size).pos
  simp only [← shiftCount_eq, ← shiftInt_truncated, ← shiftInt_rounded]
  exact ⟨
    (threeSameInt_flagged (exec_vshlReg f s) rfl hr hv fun _ _ _ => plain_within _ _).plainLanes fun _ => rfl,
    (threeSameInt_flagged (exec_vrshl f s) rfl hr hv fun _ _ _ => plain_within _ _).plainLanes fun _ => rfl,
    (threeSameInt_flagged (exec_vqshlReg f s) rfl hr hv fun _ => satShiftReg_within _ _).saturatedOnce he fun _ => rfl,
    (threeSameInt_flagged (exec_vqrshl f s) rfl hr hv fun _ => satShiftReg_within _ _).saturatedOnce he fun _ => rfl⟩

section
variable {e : Nat} (acc x y : BitVec e)

theorem satDoubleMulHigh_truncated :
    satDoubleMulHigh false x y = saturate e false (2 * (x.toInt * y.toInt) / 2 ^ e) := by
  simp [satDoubleMulHigh]

theorem satRoundDoubleMulAccHigh_subtract :
    satRoundDoubleMulAccHigh true acc x y =
      saturate e false ((acc.toInt * 2 ^ e - 2 * (x.toInt * y.toInt) + 2 ^ (e - 1)) / 2 ^ e) := by
  simp [satRoundDoubleMulAccHigh, Int.sub_eq_add_neg]

end

/-- Settles O32: the eight rows are their shapes, and saturate the high half of the exact integer. -/
theorem doublingMultipliesHigh : Obligations.DoublingMultipliesHigh := by
  constructor
  · rintro f s _ _ _ _ hr hv hz rfl rfl rfl rfl
    have he := (laneWidth_esize f.size).pos
    have hu := notDoubling_eq_false hz
    simp only [doublingHigh, List.forall_mem_cons]
    exact ⟨
      (threeSameInt_flagged (exec_vqdmulh3same f s) hu hr hv fun _ => satDoubleMulHigh_within _).saturatedOnce he
        fun _ => satDoubleMulHigh_truncated _ _,
      (threeSameInt_flagged (exec_vqrdmulh3same f s) hu hr hv fun _ => satDoubleMulHigh_within _).saturatedOnce he
        fun _ => rfl,
      (threeSameAcc_flagged (exec_vqrdmlah3same f s) hu hr hv fun _ =>
        satRoundDoubleMulAccHigh_within _).saturatedOnce he fun _ => rfl,
      (threeSameAcc_flagged (exec_vqrdmlsh3same f s) hu hr hv fun _ =>
        satRoundDoubleMulAccHigh_within _).saturatedOnce he fun _ => satRoundDoubleMulAccHigh_subtract _ _ _,
      List.forall_mem_nil _⟩
  · rintro f s _ _ _ _ hr hv hz rfl rfl rfl rfl
    have he := (laneWidth_esize f.size).pos
    have h00 := size_ne_byte hz
    simp only [doublingHigh, List.forall_mem_cons]
    exact ⟨
      (byScalar_flagged (exec_vqdmulhScalar f s) rfl h00 hr hv fun _ => satDoubleMulHigh_within _).saturatedOnce he
        fun _ => satDoubleMulHigh_truncated _ _,
      (byScalar_flagged (exec_vqrdmulhScalar f s) rfl h00 hr hv fun _ => satDoubleMulHigh_within _).saturatedOnce he
        fun _ => rfl,
      (byScalarAcc_flagged (exec_vqrdmlahScalar f s) rfl h00 hr hv fun _ =>
        satRoundDoubleMulAccHigh_within _).saturatedOnce he fun _ => rfl,
      (byScalarAcc_flagged (exec_vqrdmlshScalar f s) rfl h00 hr hv fun _ =>
        satRoundDoubleMulAccHigh_within _).saturatedOnce he fun _ => satRoundDoubleMulAccHigh_subtract _ _ _,
      List.forall_mem_nil _⟩

/-- Each bit of `c` selects the bit of `x` or of `y` at its place. -/
theorem getLsbD_select {e b : Nat} (c x y : BitVec e) (hb : b < e) :
    (x &&& c ||| y &&& ~~~c).getLsbD b = if c.getLsbD b then x.getLsbD b else y.getLsbD b := by
  simp only [BitVec.getLsbD_or, BitVec.getLsbD_and, BitVec.getLsbD_not, hb]
  cases c.getLsbD b <;> simp

/-- Settles O33: the eight rows are `threeSameBits` of their operation. -/
theorem bitwiseRegisters : Obligations.BitwiseRegisters := by
  intro f s hr hv
  simp only [List.forall_mem_cons]
  exact ⟨
    threeSameBits_completes (bit := fun _ n m => n && m) (exec_vandReg f s) hr hv fun _ _ _ _ _ => BitVec.getLsbD_and,
    threeSameBits_completes (bit := fun _ n m => n && !m) (exec_vbicReg f s) hr hv fun _ _ _ _ hb => by simp [hb],
    threeSameBits_completes (bit := fun _ n m => n || m) (exec_vorrReg f s) hr hv fun _ _ _ _ _ => BitVec.getLsbD_or,
    threeSameBits_completes (bit := fun _ n m => n || !m) (exec_vornReg f s) hr hv fun _ _ _ _ hb => by simp [hb],
    threeSameBits_completes (bit := fun _ n m => n ^^ m) (exec_veor f s) hr hv fun _ _ _ _ _ => BitVec.getLsbD_xor,
    threeSameBits_completes (bit := fun d n m => if d then n else m) (exec_vbsl f s) hr hv
      fun _ _ _ _ hb => getLsbD_select _ _ _ hb,
    threeSameBits_completes (bit := fun d n m => if m then n else d) (exec_vbit f s) hr hv
      fun _ _ _ _ hb => getLsbD_select _ _ _ hb,
    threeSameBits_completes (bit := fun d n m => if m then d else n) (exec_vbif f s) hr hv
      fun d n m _ hb => by rw [BitVec.or_comm]; exact getLsbD_select m d n hb,
    List.forall_mem_nil _⟩

/-! ## Forms that are UNDEFINED -/

/-- An instruction whose meaning makes a check `undef` faults where the check holds. -/
theorem exec_undefined {i : Instr} {s : State} {undef : Bool} {k : State → State}
    (he : exec i s = simdOp undef k s) (hu : undef = true) : exec i s = .fault .undefinedInstruction :=
  he.trans (simdOp_undefined k s hu)

theorem threeSameSha_undefined {i : Instr} {s : State} {f : FThreeSame} {op : QWord → QWord → QWord → QWord}
    (he : exec i s = threeSameSha f op s) (h : f.Q = 0#1 ∨ f.d % 2 = 1 ∨ f.n % 2 = 1 ∨ f.m % 2 = 1) :
    exec i s = .fault .undefinedInstruction := by
  rw [he, threeSameSha, simdOp_undefined]
  rcases h with h | h | h | h <;> simp [isSet, odd, h]

theorem oddQuad_eq_true_of_not_even {Q : BitVec 1} {regs : List Nat} (h : ¬EvenFor Q regs) :
    ∃ a ∈ regs, oddQuad Q a = true := by
  simp only [EvenFor, Classical.not_forall] at h
  obtain ⟨hQ, a, ha, hodd⟩ := h
  exact ⟨a, ha, by simp [oddQuad, odd, hQ, Nat.mod_two_ne_zero.mp hodd]⟩

theorem threeSameOdd_eq_true {f : FThreeSame} (h : ¬EvenFor f.Q [f.d, f.n, f.m]) : threeSameOdd f = true := by
  obtain ⟨a, ha, hodd⟩ := oddQuad_eq_true_of_not_even h
  simp only [List.mem_cons, List.not_mem_nil, or_false] at ha
  rcases ha with rfl | rfl | rfl <;> simp [threeSameOdd, hodd]

/-- Settles O59: each clause is one disjunct of the check that the meaning of the row makes. -/
theorem undefinedThreeSame : Obligations.UndefinedThreeSame := by
  intro f s
  refine ⟨fun h => ?oddNumber, fun h => ?wideLanes, fun h => ?doubling, fun hU hz => ?polynomial, fun hQ => ?pairs,
    fun hh hp => ?half, fun h => ?sha⟩
  case oddNumber =>
    have hodd := threeSameOdd_eq_true h
    simp only [threeSameVectors, List.forall_mem_cons, List.not_mem_nil, false_imp_iff, implies_true, and_true]
    and_intros <;> exact exec_undefined rfl (by simp [hodd])
  case wideLanes =>
    simp only [threeSameNo64, List.forall_mem_cons, List.not_mem_nil, false_imp_iff, implies_true, and_true]
    and_intros <;> exact exec_undefined rfl (by simp [size64, notDoubling, h])
  case doubling =>
    simp only [List.forall_mem_cons, List.not_mem_nil, false_imp_iff, implies_true, and_true]
    and_intros <;> exact exec_undefined rfl (by simp [notDoubling, h])
  case polynomial => exact exec_undefined rfl (by simp [isSet, hU, hz])
  case pairs =>
    simp only [List.forall_mem_cons, List.not_mem_nil, false_imp_iff, implies_true, and_true]
    and_intros <;> exact exec_undefined rfl (by simp [isSet, hQ])
  case half =>
    simp only [threeSameFloating, List.forall_mem_cons, List.not_mem_nil, false_imp_iff, implies_true, and_true]
    and_intros <;> exact exec_undefined rfl (by simp [noHalf, hh, hp])
  case sha =>
    simp only [List.forall_mem_cons, List.not_mem_nil, false_imp_iff, implies_true, and_true]
    and_intros <;> exact threeSameSha_undefined rfl h

end Sys2Proof.Machine
end

section
/-! Two registers misc and duplicate (rules R201 to R231, R256, R265): rearranged lanes, bit counts, pair sums,
exchanged vectors, the narrowing and lengthening moves, and the statements about these rows; then the forms of the
other Advanced SIMD tables that are UNDEFINED. -/

namespace Sys2Proof.Machine

/-! ## Lists of lanes -/

section
variable {e : Nat}

/-- A list of plain lanes. -/
theorem getD_map_plain (xs : List (BitVec e)) {j : Nat} {x : BitVec e} (h : xs[j]? = some x) :
    (xs.map plain).getD j (0, 0#32) = plain x := by
  rw [List.getD_eq_getElem?_getD, List.getElem?_map, h]; rfl

theorem mem_map_plain_within (A : Flags) (xs : List (BitVec e)) : ∀ x ∈ xs.map plain, Lane.Within A x := by
  simp [plain_within]

/-- Lanes written as they are. -/
theorem putLanes_plain {i : Instr} {s : State} {undef : Bool} {d count : Nat} {g : State → List (BitVec e)}
    {r : Nat → BitVec e} (ho : LaneWidth e)
    (he : exec i s = simdOp undef (fun s => s.putLanes d count ((g s).map plain)) s) (hu : undef = false)
    (hr : s.SimdReady) (h32 : d + count ≤ 32) (hl : (g s).length = count * (64 / e))
    (hg : ∀ j, j < count * (64 / e) → (g s)[j]? = some (r j)) : GivesLanes i s e d count r :=
  (putLanes_flagged (A := 0#32) (r := fun j => plain (r j)) ho he hu hr h32 (by simpa using hl)
    (fun j hj => getD_map_plain _ (hg j hj)) (mem_map_plain_within _ _)).plainLanes fun _ => rfl

/-- The place that a lane of a reversed group comes from lies in the list. -/
theorem reversed_lt {k j n : Nat} (hk : 0 < k) (hn : k ∣ n) (hj : j < n) : j / k * k + (k - 1 - j % k) < n := by
  obtain ⟨q, rfl⟩ := hn
  have hq : j / k + 1 ≤ q := Nat.div_lt_of_lt_mul hj
  have hgroup : (j / k + 1) * k ≤ q * k := Nat.mul_le_mul_right k hq
  rw [Nat.add_mul, Nat.one_mul] at hgroup
  rw [Nat.mul_comm k q]
  omega

theorem reverseGroups_readLanes (s : State) {m count k j : Nat} (hk : 0 < k) (hn : k ∣ count * (64 / e))
    (hj : j < count * (64 / e)) :
    (reverseGroups k (s.readLanes e m count))[j]? = some (s.laneAt e m (j / k * k + (k - 1 - j % k))) := by
  rw [reverseGroups, List.getElem?_map, State.readLanes_length, List.getElem?_range hj, Option.map_some,
    List.getD_eq_getElem?_getD, State.readLanes_getElem? _ _ _ _ _ (reversed_lt hk hn hj), Option.getD_some]

theorem everyOther_getElem? {k : Nat} (xs : List (BitVec e)) {j : Nat} {x : BitVec e} (hk : k < 2)
    (hj : 2 * j + 1 < xs.length) (hx : xs[2 * j + k]? = some x) : (everyOther k xs)[j]? = some x := by
  have h0 : xs[2 * j]? = some xs[2 * j] := List.getElem?_eq_getElem (by omega)
  have h1 : xs[2 * j + 1]? = some xs[2 * j + 1] := List.getElem?_eq_getElem hj
  rw [everyOther, List.getElem?_map, pairs_getElem? xs j _ _ h0 h1, Option.map_some, ← hx]
  obtain rfl | rfl : k = 0 ∨ k = 1 := by omega
  · simp [h0]
  · simp [h1]

theorem everyOther_length (k : Nat) (xs : List (BitVec e)) : (everyOther k xs).length = xs.length / 2 := by
  rw [everyOther, List.length_map, pairs_length]

theorem interleave_cons (x y : BitVec e) (xs ys : List (BitVec e)) :
    interleave (x :: xs) (y :: ys) = x :: y :: interleave xs ys := rfl

/-- Lanes taken in turn: the even places from the first list, the odd ones from the second. -/
theorem interleave_getElem? : ∀ (xs ys : List (BitVec e)) (j : Nat), xs.length = ys.length →
    (interleave xs ys)[j]? = if j % 2 = 0 then xs[j / 2]? else ys[j / 2]?
  | [], [], j, _ => by simp [interleave]
  | x :: xs, y :: ys, j, h => by
    rw [interleave_cons]
    match j with
    | 0 | 1 => simp
    | j + 2 =>
      have ih := interleave_getElem? xs ys j (Nat.succ.inj h)
      simpa using ih
  | [], _ :: _, _, h => nomatch h
  | _ :: _, [], _, h => nomatch h

theorem interleave_length : ∀ (xs ys : List (BitVec e)), xs.length = ys.length →
    (interleave xs ys).length = 2 * xs.length
  | [], [], _ => by simp [interleave]
  | x :: xs, y :: ys, h => by
    rw [interleave_cons, List.length_cons, List.length_cons, interleave_length xs ys (Nat.succ.inj h),
      List.length_cons, Nat.mul_add]
  | [], _ :: _, h => nomatch h
  | _ :: _, [], h => nomatch h

theorem pairSums_readLanes (s : State) {o m count j : Nat} {unsigned : Bool} (hj : 2 * j + 1 < count * (64 / e)) :
    (pairSums o unsigned (s.readLanes e m count))[j]? =
      some (BitVec.ofInt o
        (laneInt unsigned (s.laneAt e m (2 * j)) + laneInt unsigned (s.laneAt e m (2 * j + 1)))) := by
  rw [pairSums, List.getElem?_map, pairs_getElem? _ j _ _ (State.readLanes_getElem? _ _ _ _ _ (by omega))
    (State.readLanes_getElem? _ _ _ _ _ hj)]
  rfl

theorem pairSums_length (o : Nat) (unsigned : Bool) (xs : List (BitVec e)) :
    (pairSums o unsigned xs).length = xs.length / 2 := by
  rw [pairSums, List.length_map, pairs_length]

/-- Half as many lanes are twice as wide. -/
theorem half_lanes (h : LaneWidth (2 * e)) (count : Nat) : count * (64 / e) = 2 * (count * (64 / (2 * e))) := by
  rw [Nat.mul_left_comm, wide_lanes h, Nat.one_mul]

end

/-! ## Bit counts -/

/-- The leading zeros of a number of `e` bits: the bits from the top are 0 so far, and the next is 1. -/
theorem leadingZeros_bits {e x : Nat} (h : x < 2 ^ e) :
    leadingZeros e x ≤ e ∧ (∀ k, k < leadingZeros e x → x.testBit (e - 1 - k) = false) ∧
      (leadingZeros e x < e → x.testBit (e - 1 - leadingZeros e x) = true) := by
  unfold leadingZeros
  split
  · next h0 => simp [h0]
  · next h0 =>
    have hlog : Nat.log2 x < e := (Nat.log2_lt h0).mpr h
    refine ⟨Nat.sub_le _ _, fun k hk => Nat.testBit_lt_two_pow ?_, fun _ => ?_⟩
    · exact (Nat.log2_lt h0).mp (by omega)
    · rw [show e - 1 - (e - (Nat.log2 x + 1)) = Nat.log2 x by omega]
      exact Nat.testBit_log2 h0

section
variable {e : Nat} (x : BitVec e)

theorem getMsbD_eq_testBit {k : Nat} (hk : k < e) : x.getMsbD k = x.toNat.testBit (e - 1 - k) := by
  rw [BitVec.getMsbD, decide_eq_true hk, Bool.true_and, BitVec.getLsbD]

theorem toNat_countLeadingZeros : (countLeadingZeros x).toNat = leadingZeros e x.toNat := by
  rw [countLeadingZeros, BitVec.toNat_ofNat,
    Nat.mod_eq_of_lt (Nat.lt_of_le_of_lt (leadingZeros_bits x.isLt).1 Nat.lt_two_pow_self)]

/-- VCLZ: the bits from the top are 0 so far, and the next is 1. -/
theorem countLeadingZeros_bits :
    (countLeadingZeros x).toNat ≤ e ∧ (∀ k, k < (countLeadingZeros x).toNat → x.getMsbD k = false) ∧
      ((countLeadingZeros x).toNat < e → x.getMsbD (countLeadingZeros x).toNat = true) := by
  rw [toNat_countLeadingZeros]
  obtain ⟨hle, hzero, hone⟩ := leadingZeros_bits x.isLt
  exact ⟨hle, fun k hk => getMsbD_eq_testBit x (Nat.lt_of_lt_of_le hk hle) ▸ hzero k hk,
    fun hlt => getMsbD_eq_testBit x hlt ▸ hone hlt⟩

/-- Where a lane's bits differ from the bit above them. -/
theorem testBit_signChanges {k : Nat} (hk : k + 1 < e) :
    (x ^^^ x.sshiftRight 1).toNat.testBit (e - 1 - 1 - k) = (x.getMsbD k ^^ x.getMsbD (k + 1)) := by
  have h1 : 1 + (e - 1 - 1 - k) = e - 1 - k := by omega
  have h2 : e - 1 - (k + 1) = e - 1 - 1 - k := by omega
  rw [← BitVec.getLsbD, BitVec.getLsbD_xor, BitVec.getLsbD_sshiftRight, h1, if_pos (by omega),
    getMsbD_eq_testBit x (by omega), getMsbD_eq_testBit x hk, h2, Bool.xor_comm]
  simp [BitVec.getLsbD, show ¬e ≤ e - 1 - 1 - k by omega]

theorem signChanges_lt (he : 0 < e) : (x ^^^ x.sshiftRight 1).toNat < 2 ^ (e - 1) := by
  apply Nat.lt_pow_two_of_testBit
  intro i hi
  rw [← BitVec.getLsbD]
  by_cases hie : i < e
  · obtain rfl : i = e - 1 := by omega
    rw [BitVec.getLsbD_xor, BitVec.getLsbD_sshiftRight]
    simp [show ¬e ≤ e - 1 by omega, show ¬1 + (e - 1) < e by omega, BitVec.msb_eq_getLsbD_last]
  · exact BitVec.getLsbD_of_ge _ _ (by omega)

theorem toNat_countLeadingSign (he : 0 < e) :
    (countLeadingSign x).toNat = leadingZeros (e - 1) (x ^^^ x.sshiftRight 1).toNat := by
  have hle := (leadingZeros_bits (signChanges_lt x he)).1
  have hpow : e - 1 < 2 ^ e := Nat.lt_of_le_of_lt (Nat.sub_le _ _) Nat.lt_two_pow_self
  rw [countLeadingSign, BitVec.toNat_ofNat, Nat.mod_eq_of_lt (Nat.lt_of_le_of_lt hle hpow)]

/-- VCLS: the bits below the top one equal it so far, and the next does not. -/
theorem countLeadingSign_bits (he : 0 < e) {c : Nat} (hc : c = (countLeadingSign x).toNat) :
    c < e ∧ (∀ k, 1 ≤ k → k ≤ c → x.getMsbD k = x.getMsbD 0) ∧ (c + 1 < e → x.getMsbD (c + 1) ≠ x.getMsbD 0) := by
  rw [toNat_countLeadingSign x he] at hc
  obtain ⟨hle, hzero, hone⟩ := leadingZeros_bits (signChanges_lt x he)
  rw [← hc] at hle hzero hone
  have hsame : ∀ k, k ≤ c → x.getMsbD k = x.getMsbD 0 := by
    intro k
    induction k with
    | zero => intro _; rfl
    | succ k ih =>
      intro hk
      have hbit := hzero k hk
      rw [testBit_signChanges x (by omega), ih (by omega)] at hbit
      exact (by simpa using hbit : x.getMsbD 0 = x.getMsbD (k + 1)).symm
  refine ⟨by omega, fun k _ => hsame k, fun hlt => ?_⟩
  have hbit := hone (by omega)
  rw [testBit_signChanges x hlt, hsame c (Nat.le_refl c)] at hbit
  exact fun heq => by simp [heq] at hbit

theorem foldr_count_eq_countP (p : Nat → Bool) (l : List Nat) :
    l.foldr (fun i acc => (if p i then 1 else 0) + acc) 0 = l.countP p := by
  induction l with
  | nil => rfl
  | cons i l ih => rw [List.foldr_cons, ih, List.countP_cons, Nat.add_comm]

theorem toNat_popCount : (popCount x).toNat = (List.range e).countP fun i => x.getLsbD i := by
  have hle : (List.range e).countP (fun i => x.getLsbD i) ≤ e :=
    Nat.le_trans List.countP_le_length (Nat.le_of_eq List.length_range)
  rw [popCount, foldr_count_eq_countP, BitVec.toNat_ofNat,
    Nat.mod_eq_of_lt (Nat.lt_of_le_of_lt hle Nat.lt_two_pow_self)]

end

/-- Lanes that set no flag and have a property each. -/
theorem GivesFlaggedLanes.plainProperty {i : Instr} {s : State} {e d count : Nat} {r : Nat → Lane e}
    {P : Nat → BitVec e → Prop} (h : GivesFlaggedLanes i s 0#32 e d count r) (hP : ∀ j, P j (r j).1) :
    Completes i s fun t =>
      VectorFrame 0#32 (Regs d count) s t ∧ ∀ j, j < count * (64 / e) → P j (t.laneAt e d j) := by
  obtain ⟨t, ht, hframe, hlanes, -⟩ := h
  exact ⟨t, ht, hframe, fun j hj => hlanes j hj ▸ hP j⟩

/-! ## Row shapes -/

theorem twoReg_fits {f : FTwoRegMisc} (h : EvenFor f.Q [f.d, f.m]) :
    twoRegOdd f = false ∧ f.d + regCount f.Q ≤ 32 ∧ f.m + regCount f.Q ≤ 32 := by
  refine ⟨?_, fits_of_even (hi := f.D) (lo := f.Vd) h (by simp [FTwoRegMisc.d]),
    fits_of_even (hi := f.M) (lo := f.Vm) h (by simp [FTwoRegMisc.m])⟩
  rw [twoRegOdd, oddQuad_of_even h (by simp), oddQuad_of_even h (by simp)]
  rfl

/-- The row shape `reverseWithin`, for groups that some number of lanes fill. -/
theorem reverseWithin_lanes {i : Instr} {s : State} {f : FTwoRegMisc} {group : Nat}
    (he : exec i s = reverseWithin group f s) (hr : s.SimdReady) (hv : EvenFor f.Q [f.d, f.m])
    (hgroup : group = 64 ∨ group = 32 ∨ group = 16) (hlt : esize f.size < group) :
    GivesLanes i s (esize f.size) f.d (regCount f.Q) fun j =>
      s.laneAt (esize f.size) f.m
        (j / (group / esize f.size) * (group / esize f.size) +
          (group / esize f.size - 1 - j % (group / esize f.size))) := by
  obtain ⟨hodd, hd, -⟩ := twoReg_fits hv
  have hpos : 0 < group / esize f.size := Nat.div_pos (Nat.le_of_lt hlt) (laneWidth_esize f.size).pos
  have hdvd : group / esize f.size ∣ 64 / esize f.size := by
    rcases hgroup with rfl | rfl | rfl <;> rcases laneWidth_esize f.size with h | h | h | h <;> rw [h] at hlt ⊢ <;>
      revert hlt <;> decide
  exact putLanes_plain
    (g := fun s => reverseGroups (group / esize f.size) (s.readLanes (esize f.size) f.m (regCount f.Q)))
    (laneWidth_esize _) he (by simp [hodd, hlt]) hr hd (by simp [reverseGroups])
    fun j hj => reverseGroups_readLanes s hpos (Nat.dvd_mul_left_of_dvd hdvd _) hj

/-- The row shape `twoRegEither` on integer lanes. -/
theorem twoRegEither_int_flagged {i : Instr} {s : State} {A : Flags} {f : FTwoRegMisc}
    {int fp : (e : Nat) → BitVec e → Lane e} (he : exec i s = twoRegEither f int fp s)
    (hx : f.opc2.getLsbD 3 = false) (hz : f.size ≠ 0b11#2) (hr : s.SimdReady) (hv : EvenFor f.Q [f.d, f.m])
    (hw : ∀ e (x : BitVec e), (int e x).Within A) :
    GivesFlaggedLanes i s A (esize f.size) f.d (regCount f.Q) (fun j => int _ (s.laneAt (esize f.size) f.m j)) := by
  have hint : miscFloat f = false := hx
  exact twoRegInt_flagged (by rw [he, twoRegEither, hint, if_neg Bool.false_ne_true])
    (by simp [size64_eq_false hz]) hr hv hw

theorem noFloat_eq_false {size : BitVec 2} {s : State}
    (h : size = 0b10#2 ∨ (size = 0b01#2 ∧ s.params.haveFp16 = true)) : noFloat size s = false := by
  rcases h with h | ⟨h, hp⟩
  · simp [noFloat, h]
  · simp [noFloat, h, hp]

/-- The row shape `twoRegEither` on floating-point lanes. -/
theorem twoRegEither_fp_flagged {i : Instr} {s : State} {A : Flags} {f : FTwoRegMisc}
    {int fp : (e : Nat) → BitVec e → Lane e} (he : exec i s = twoRegEither f int fp s)
    (hx : f.opc2.getLsbD 3 = true) (hz : f.size = 0b10#2 ∨ (f.size = 0b01#2 ∧ s.params.haveFp16 = true))
    (hr : s.SimdReady) (hv : EvenFor f.Q [f.d, f.m]) (hw : ∀ e (x : BitVec e), (fp e x).Within A) :
    GivesFlaggedLanes i s A (esize f.size) f.d (regCount f.Q) (fun j => fp _ (s.laneAt (esize f.size) f.m j)) := by
  have hfloat : miscFloat f = true := hx
  have h11 : f.size ≠ 0b11#2 := by rcases hz with hz | ⟨hz, -⟩ <;> simp [hz]
  exact twoRegInt_flagged (by rw [he, twoRegEither, hfloat, if_pos rfl])
    (by simp [size64_eq_false h11, noFloat_eq_false hz]) hr hv hw

/-- The row shape `narrow`. -/
theorem narrowMisc_flagged {i : Instr} {s : State} {A : Flags} {f : FTwoRegMisc}
    {op : (e : Nat) → BitVec (2 * e) → Lane e} (he : exec i s = narrow f op s) (hr : s.SimdReady) (hm : f.m % 2 = 0)
    (hz : f.size ≠ 0b11#2) (hw : ∀ e (x : BitVec (2 * e)), (op e x).Within A) :
    GivesFlaggedLanes i s A (esize f.size) f.d 1 (fun j => op _ (s.laneAt (2 * esize f.size) f.m j)) :=
  narrow_flagged (laneWidth_esize _) (laneWidth_double hz) he (by simp [size64_eq_false hz, odd, hm]) hr
    (vreg_lt f.D f.Vd) (hw _)

/-- The row shape `lengthenRow`: the widened lane times a power of two. -/
theorem lengthenRow_lanes {i : Instr} {s : State} {f : FTwoRegShift} (he : exec i s = lengthenRow f s)
    (hr : s.SimdReady) (hd : f.d % 2 = 0) (hL : f.L = 0#1) :
    GivesLanes i s (2 * f.esize) f.d 2 fun j =>
      BitVec.ofInt (2 * f.esize) (laneInt (isSet f.U) (s.laneAt f.esize f.m j) * 2 ^ (f.imm6 - f.esize)) := by
  have hleft : f.left = f.imm6 - f.esize := if_neg (by simp [hL])
  exact (long_unary_flagged (laneWidth_shift_double hL) he (by simp [isSet, odd, hL, hd]) hr
    (quad_fits (hi := f.D) (lo := f.Vd) hd) fun _ => plain_within _ _).plainLanes fun _ => by
      rw [plain_fst, hleft, shiftLeft_eq_ofInt false, BitVec.ofInt_mul, ofInt_laneInt, widen, wrapInt,
        ← BitVec.ofInt_mul]

/-! ## Exchanged vectors -/

section
variable {e d m count : Nat} {s : State} {g : List (BitVec e) → List (BitVec e) → List (BitVec e) × List (BitVec e)}

/-- Two different vectors of one size do not overlap where their numbers are even for quadwords. -/
theorem exchanged_disjoint {f : FTwoRegMisc} (hv : EvenFor f.Q [f.d, f.m]) (hne : f.d ≠ f.m) :
    f.d + regCount f.Q ≤ f.m ∨ f.m + regCount f.Q ≤ f.d := by
  unfold regCount
  split
  · next hQ =>
    have hd := hv hQ f.d (by simp)
    have hm := hv hQ f.m (by simp)
    omega
  · omega

theorem regCount_pos (Q : BitVec 1) : 0 < regCount Q := by
  unfold regCount; split <;> decide

/-- The frame of two vectors exchanged. -/
theorem exchange_frame (hne : d ≠ m) :
    VectorFrame 0#32 (fun k => Regs d count k ∨ Regs m count k) s
      { exchange e g d m count s with pc := s.pc + 4#32 } := by
  have hk : ∀ k, ¬(Regs d count k ∨ Regs m count k) → (exchange e g d m count s).readD k = s.readD k := fun k hk =>
    readD_exchange_other g d m count k s (fun h => hk (.inl h)) fun h => hk (.inr h)
  refine ⟨rfl, ⟨?_, ?_, ?_, ?_⟩, ⟨?_, ?_, ?_, ?_⟩, ?_, ?_, ?_, ?_, ⟨0#32, ?_, ?_⟩, hk⟩
  case refine_9 => intro a; simp [State.byte, exchange, hne]
  all_goals simp [exchange, hne]

/-- Two different vectors exchanged, lane by lane. -/
theorem exchange_completes {i : Instr} {undef : Bool} {r q : Nat → BitVec e}
    (he : exec i s = simdOp undef (exchange e g d m count) s) (hu : undef = false) (hr : s.SimdReady)
    (ho : LaneWidth e) (hd : d + count ≤ 32) (hm : m + count ≤ 32) (hdisj : d + count ≤ m ∨ m + count ≤ d)
    (hcount : 0 < count)
    (hg : ∀ j, j < count * (64 / e) →
      (g (s.readLanes e d count) (s.readLanes e m count)).1[j]? = some (r j) ∧
        (g (s.readLanes e d count) (s.readLanes e m count)).2[j]? = some (q j)) :
    GivesBoth i s e d m count r q := by
  refine completes_simdOp he hu (exchange_pc _ _ _ _ _) hr ⟨exchange_frame (by omega), fun j hj => ?_⟩
  obtain ⟨hfirst, hsecond⟩ := laneAt_exchange ho g d m count s hd hm hdisj hcount j hj
  obtain ⟨hr', hq'⟩ := hg j hj
  exact ⟨hfirst.trans (by rw [List.getD_eq_getElem?_getD, hr', Option.getD_some]),
    hsecond.trans (by rw [List.getD_eq_getElem?_getD, hq', Option.getD_some])⟩

/-- A vector exchanged with itself gets free values. -/
theorem exchange_self_completes {i : Instr} {undef : Bool} (he : exec i s = simdOp undef (exchange e g d d count) s)
    (hu : undef = false) (hr : s.SimdReady) (hd : d + count ≤ 32) :
    Completes i s fun t =>
      t.freeCount = s.freeCount + count ∧
        VectorFrame 0#32 (Regs d count) s { t with freeCount := s.freeCount } ∧
        ∀ k, k < count → t.readD (d + k) = Config.freeDWord (s.freeCount + k) := by
  have hfree : exchange e g d d count s = s.putFree d count := if_pos rfl
  have hread : ∀ k, (s.putFree d count).readD k =
      if d ≤ k ∧ k < d + count ∧ k < 32 then s.free (k - d) else s.readD k := State.readD_putFree s d count
  refine completes_simdOp he hu (exchange_pc _ _ _ _ _) hr ?_
  rw [hfree]
  refine ⟨rfl, ⟨rfl, ⟨?_, ?_, ?_, ?_⟩, ⟨?_, ?_, ?_, ?_⟩, ?_, ?_, ?_, rfl, ⟨0#32, ?_, ?_⟩, fun k hk => ?other⟩,
    fun k hk => ?written⟩
  case other => exact (hread k).trans (if_neg fun h => hk ⟨h.1, h.2.1⟩)
  case written =>
    refine (hread (d + k)).trans ((if_pos (by omega)).trans ?_)
    rw [Nat.add_sub_cancel_left, State.free]
  case refine_9 => intro a; simp [State.byte]
  all_goals simp

end

/-- The check of VUZP and VZIP. -/
theorem noZip_eq_false {f : FTwoRegMisc} (hz : f.size ≠ 0b11#2) (hQ : f.Q = 0#1 → f.size ≠ 0b10#2) :
    noZip f = false := by
  have hQ' : f.Q = 0#1 ∨ f.Q = 1#1 := by generalize f.Q = q; revert q; decide
  rcases hQ' with h | h
  · simp [noZip, size64_eq_false hz, hQ h]
  · simp [noZip, size64_eq_false hz, isSet, h]

/-! ## The lane of VDUP -/

theorem dup_byte : ∀ v : BitVec 4, v.getLsbD 0 = true → (v &&& 0b0111#4 == 0b0000#4) = false ∧
    v.toNat / 2 = (v.extractLsb' 1 3).toNat := by decide

theorem dup_half : ∀ v : BitVec 4, v.extractLsb' 0 2 = 0b10#2 → (v &&& 0b0111#4 == 0b0000#4) = false ∧
    v.getLsbD 0 = false ∧ v.getLsbD 1 = true ∧ v.toNat / 4 = (v.extractLsb' 2 2).toNat := by decide

theorem dup_single : ∀ v : BitVec 4, v.extractLsb' 0 3 = 0b100#3 → (v &&& 0b0111#4 == 0b0000#4) = false ∧
    v.getLsbD 0 = false ∧ v.getLsbD 1 = false ∧ v.toNat / 8 = (v.extractLsb' 3 1).toNat := by decide

theorem vdupScalar_lanes {f : FDup} {s : State} {e : Nat} {v : Nat} (hr : s.SimdReady) (hv : EvenFor f.Q [f.d])
    (hform : (f.imm4 &&& 0b0111#4 == 0b0000#4) = false) (he : LaneWidth e) (hesize : f.esize = e) (hindex : f.index = v)
    (hlt : v < 64 / e) :
    GivesLanes (.vdupScalar f) s e f.d (regCount f.Q) (fun _ => s.laneAt e f.m v) := by
  subst hesize hindex
  have hcopies : ∀ s : State,
      List.replicate (regCount f.Q * (64 / f.esize)) (plain (lane f.esize (s.readD f.m) f.index)) =
        (List.replicate (regCount f.Q * (64 / f.esize)) (lane f.esize (s.readD f.m) f.index)).map plain := fun s => by
    rw [List.map_replicate]
  refine putLanes_plain (d := f.d)
    (g := fun s => List.replicate (regCount f.Q * (64 / f.esize)) (lane f.esize (s.readD f.m) f.index)) he
    ((exec_vdupScalar f s).trans (by simp only [execVdupScalar, hcopies]; rfl))
    (by rw [hform, oddQuad_of_even hv (by simp)]; rfl) hr (fits_of_even (hi := f.D) (lo := f.Vd) hv (by simp [FDup.d]))
    (by simp) fun j hj => ?_
  rw [List.getElem?_replicate_of_lt hj, State.laneAt_first s hlt]

/-! ## The statements -/

/-- Settles O37: a reversed group by the place each lane comes from, and a count by the bits that it counts. -/
theorem reversesInvertsAndCounts : Obligations.ReversesInvertsAndCounts := by
  constructor
  · rintro f s _ hr hv rfl
    refine ⟨?_, fun hz => ?_⟩
    · simp only [List.forall_mem_cons]
      exact ⟨reverseWithin_lanes (exec_vrev64 f s) hr hv (by simp),
        reverseWithin_lanes (exec_vrev32 f s) hr hv (by simp),
        reverseWithin_lanes (exec_vrev16 f s) hr hv (by simp), List.forall_mem_nil _⟩
    · exact (twoRegInt_flagged (exec_vmvnReg f s) (by simp [hz]) hr hv fun _ _ => plain_within _ _).plainLanes
        fun _ => rfl
  · rintro f s _ _ hr hv rfl rfl
    have he := (laneWidth_esize f.size).pos
    refine ⟨fun hz => ⟨?vcls, ?vclz⟩, fun hz => ?vcnt⟩
    case vcls =>
      obtain ⟨t, ht, hframe, hlanes, -⟩ :=
        twoRegInt_flagged (exec_vcls f s) (size64_eq_false hz) hr hv fun _ _ => plain_within 0#32 _
      exact ⟨t, ht, hframe, fun j c hj hc => countLeadingSign_bits _ he (by rw [hc, hlanes j hj]; rfl)⟩
    case vclz =>
      obtain ⟨t, ht, hframe, hlanes, -⟩ :=
        twoRegInt_flagged (exec_vclz f s) (size64_eq_false hz) hr hv fun _ _ => plain_within 0#32 _
      refine ⟨t, ht, hframe, fun j c hj hc => ?_⟩
      rw [hlanes j hj, plain_fst] at hc
      exact hc ▸ countLeadingZeros_bits _
    case vcnt =>
      exact (twoRegInt_flagged (exec_vcnt f s) (by simp [hz]) hr hv fun _ _ => plain_within _ _).plainProperty
        (P := fun j x => x.toNat = (List.range _).countP fun i => (s.laneAt (esize f.size) f.m j).getLsbD i)
        fun _ => toNat_popCount _

/-- Settles O39: the sums of adjacent lanes have twice their width, so there are half as many. -/
theorem pairwiseAddLong : Obligations.PairwiseAddLong := by
  rintro f s _ _ hr hv hz rfl rfl
  obtain ⟨hodd, hd, -⟩ := twoReg_fits hv
  have hu : (twoRegOdd f || size64 f.size) = false := by rw [hodd, size64_eq_false hz]; rfl
  have hwide := laneWidth_double hz
  have hlanes := half_lanes hwide (regCount f.Q)
  have hlength : ∀ s : State,
      (pairSums (2 * esize f.size) (f.opc2.getLsbD 0) (s.readLanes (esize f.size) f.m (regCount f.Q))).length =
        regCount f.Q * (64 / (2 * esize f.size)) := fun s => by
    rw [pairSums_length, State.readLanes_length]; omega
  constructor
  · exact putLanes_plain hwide (exec_vpaddl f s) hu hr hd (hlength s) fun j hj => pairSums_readLanes s (by omega)
  · refine (putLanes_flagged (A := 0#32) hwide (exec_vpadal f s) hu hr hd
      (by rw [List.length_zipWith, hlength, State.readLanes_length, Nat.min_self]) (fun j hj => ?_)
      (zipWith_within _ (fun d x => plain (d + x)) (fun _ _ => plain_within _ _) _ _)).plainLanes
        (r := fun j => plain (s.laneAt (2 * esize f.size) f.d j + BitVec.ofInt (2 * esize f.size)
          (laneInt (f.opc2.getLsbD 0) (s.laneAt (esize f.size) f.m (2 * j)) +
            laneInt (f.opc2.getLsbD 0) (s.laneAt (esize f.size) f.m (2 * j + 1)))))
        fun _ => (ofInt_toNat_add _ _).symm
    rw [List.getD_eq_getElem?_getD, List.getElem?_zipWith, State.readLanes_getElem? _ _ _ _ _ hj,
      pairSums_readLanes s (by omega)]
    rfl

/-- Settles O40: the lists that `exchange` writes, place by place. -/
theorem exchangesBetweenVectors : Obligations.ExchangesBetweenVectors := by
  rintro f s _ _ _ _ hr hv hne rfl rfl rfl rfl
  obtain ⟨hodd, hd, hm⟩ := twoReg_fits hv
  have hdisj := exchanged_disjoint hv hne
  have hcount := regCount_pos f.Q
  have heven : 2 ∣ regCount f.Q * (64 / esize f.size) ∨ f.size = 0b11#2 := by
    by_cases hz : f.size = 0b11#2
    · exact .inr hz
    · exact .inl ⟨_, half_lanes (laneWidth_double hz) _⟩
  have hread (first : Nat) {j : Nat} (hj : j < regCount f.Q * (64 / esize f.size)) :=
    State.readLanes_getElem? s (esize f.size) first (regCount f.Q) j hj
  refine ⟨?vswp, fun hz => ?vtrn, fun hz hQ => ⟨?vuzp, ?vzip⟩⟩
  case vswp =>
    obtain ⟨t, ht, hframe, hlanes⟩ := exchange_completes (r := s.laneAt 64 f.m) (q := s.laneAt 64 f.d)
      (exec_vswp f s) hodd hr (by simp [LaneWidth]) hd hm hdisj hcount
      fun j hj => ⟨State.readLanes_getElem? _ _ _ _ _ hj, State.readLanes_getElem? _ _ _ _ _ hj⟩
    refine ⟨t, ht, hframe, fun k hk => ?_⟩
    simpa only [State.laneAt_doubleword] using hlanes k (by simpa using hk)
  case vtrn =>
    refine exchange_completes (exec_vtrn f s) (by simp [hodd, size64_eq_false hz]) hr (laneWidth_esize _) hd hm hdisj
      hcount fun j hj => ?_
    obtain ⟨q, hq⟩ := heven.resolve_right hz
    have hpair (first k : Nat) (hk : k < 2) : (everyOther k (s.readLanes (esize f.size) first (regCount f.Q)))[j / 2]? =
        some (s.laneAt (esize f.size) first (2 * (j / 2) + k)) :=
      everyOther_getElem? _ hk (by rw [State.readLanes_length]; omega) (hread first (by omega))
    have hlength (k : Nat) : (everyOther k (s.readLanes (esize f.size) f.d (regCount f.Q))).length =
        (everyOther k (s.readLanes (esize f.size) f.m (regCount f.Q))).length := by
      simp only [everyOther_length, State.readLanes_length]
    rw [interleave_getElem? _ _ _ (hlength 0), interleave_getElem? _ _ _ (hlength 1), hpair f.d 0 (by decide),
      hpair f.m 0 (by decide), hpair f.d 1 (by decide), hpair f.m 1 (by decide)]
    rcases Nat.mod_two_eq_zero_or_one j with hj2 | hj2
    · rw [show 2 * (j / 2) = j by omega]; simp [hj2]
    · rw [show 2 * (j / 2) = j - 1 by omega, show j - 1 + 1 = j by omega]; simp [hj2]
  case vuzp =>
    refine exchange_completes (exec_vuzp f s) (by rw [hodd, noZip_eq_false hz hQ]; rfl) hr (laneWidth_esize _) hd hm
      hdisj hcount fun j hj => ?_
    have hboth (k : Nat) (hk : k < 2) : (everyOther k (s.readLanes (esize f.size) f.d (regCount f.Q) ++
        s.readLanes (esize f.size) f.m (regCount f.Q)))[j]? =
          some (if 2 * j + k < regCount f.Q * (64 / esize f.size) then s.laneAt (esize f.size) f.d (2 * j + k)
            else s.laneAt (esize f.size) f.m (2 * j + k - regCount f.Q * (64 / esize f.size))) := by
      refine everyOther_getElem? _ hk
        (by rw [List.length_append, State.readLanes_length, State.readLanes_length]; omega) ?_
      rw [List.getElem?_append, State.readLanes_length]
      split
      · exact hread f.d ‹_›
      · exact hread f.m (by omega)
    exact ⟨hboth 0 (by decide), hboth 1 (by decide)⟩
  case vzip =>
    refine exchange_completes (exec_vzip f s) (by rw [hodd, noZip_eq_false hz hQ]; rfl) hr (laneWidth_esize _) hd hm
      hdisj hcount fun j hj => ?_
    have hturn {i : Nat} (hi : i / 2 < regCount f.Q * (64 / esize f.size)) :
        (interleave (s.readLanes (esize f.size) f.d (regCount f.Q))
          (s.readLanes (esize f.size) f.m (regCount f.Q)))[i]? =
            some (if i % 2 = 0 then s.laneAt (esize f.size) f.d (i / 2) else s.laneAt (esize f.size) f.m (i / 2)) := by
      rw [interleave_getElem? _ _ _ (by simp), hread f.d hi, hread f.m hi]
      split <;> rfl
    obtain ⟨q, hq⟩ := heven.resolve_right hz
    rw [State.readLanes_length, List.getElem?_take_of_lt hj, List.getElem?_drop, hturn (by omega), hturn (by omega)]
    refine ⟨rfl, ?_⟩
    rw [show (regCount f.Q * (64 / esize f.size) + j) % 2 = j % 2 by omega]

/-- Settles O41: the four rows are `exchange`, which gives a vector and itself free values. -/
theorem exchangesWithItselfAreFree : Obligations.ExchangesWithItselfAreFree := by
  intro f s i hr hv hdm hrow
  obtain ⟨hodd, hd, -⟩ := twoReg_fits hv
  rcases hrow with rfl | ⟨rfl, hz⟩ | ⟨hi, hz, hQ⟩
  · exact exchange_self_completes (by rw [exec_vswp, execVswp, ← hdm]) hodd hr hd
  · exact exchange_self_completes (by rw [exec_vtrn, execVtrn, ← hdm]) (by simp [hodd, size64_eq_false hz]) hr hd
  · have hu : (twoRegOdd f || noZip f) = false := by rw [hodd, noZip_eq_false hz hQ]; rfl
    simp only [List.mem_cons, List.not_mem_nil, or_false] at hi
    rcases hi with rfl | rfl
    · exact exchange_self_completes (by rw [exec_vuzp, execVuzp, ← hdm]) hu hr hd
    · exact exchange_self_completes (by rw [exec_vzip, execVzip, ← hdm]) hu hr hd

/-- imm6 is the lane width where imm3L is 0 and imm3H has one bit. -/
theorem imm6_eq_esize {f : FTwoRegShift} (hL : f.L = 0#1) (hlow : f.imm3L = 0#3)
    (hhigh : f.imm3H = 0b001#3 ∨ f.imm3H = 0b010#3 ∨ f.imm3H = 0b100#3) : f.imm6 = f.esize := by
  have hLne : f.L ≠ 1#1 := by simp [hL]
  rw [FTwoRegShift.imm6, FTwoRegShift.esize, if_neg hLne, hlow]
  rcases hhigh with h | h | h <;> rw [h] <;> decide

/-- Settles O42: the narrowing rows by the shape `narrow`, the lengthening ones as products modulo 2^(2 * esize). -/
theorem narrowingAndLengtheningMoves : Obligations.NarrowingAndLengtheningMoves := by
  refine ⟨?narrowing, ?byWidth, ?byImmediate⟩
  case narrowing =>
    rintro f s _ _ hr hm hz rfl rfl
    have he := (laneWidth_esize f.size).pos
    exact ⟨
      (narrowMisc_flagged (exec_vmovn f s) hr hm hz fun _ _ => plain_within _ _).plainLanes fun _ => by
        rw [plain_fst]; ext; simp,
      (narrowMisc_flagged (exec_vqmovn f s) hr hm hz fun _ _ => saturate_within _ _ _).saturatedOnce he fun _ => rfl,
      (narrowMisc_flagged (exec_vqmovun f s) hr hm hz fun _ _ => saturate_within _ _ _).saturatedOnce he fun _ => rfl⟩
  case byWidth =>
    rintro f s _ hr hd hz rfl
    refine (long_unary_flagged (laneWidth_double hz) (exec_vshllMisc f s) (by simp [size64_eq_false hz, odd, hd]) hr
      (quad_fits (hi := f.D) (lo := f.Vd) hd) fun _ => plain_within _ _).plainLanes fun _ => ?_
    rw [plain_fst, shiftLeft_eq_ofInt true, laneInt, if_pos rfl, BitVec.toNat_setWidth_of_le (by omega)]
  case byImmediate =>
    rintro f s _ _ hr hd hL rfl rfl
    refine ⟨lengthenRow_lanes (exec_vshllImm f s) hr hd hL, lengthenRow_lanes (exec_vmovl f s) hr hd hL,
      fun hlow hhigh => ?_⟩
    have hrow := lengthenRow_lanes (exec_vmovl f s) hr hd hL
    simpa only [imm6_eq_esize hL hlow hhigh, Nat.sub_self, Int.pow_zero, Int.mul_one] using hrow

/-- Settles O46: the width and the index of the lane by the three forms of imm4. -/
theorem duplicatesOneLane : Obligations.DuplicatesOneLane := by
  intro f s hr hv
  refine ⟨fun h => ?_, fun h => ?_, fun h => ?_⟩
  · obtain ⟨hform, hindex⟩ := dup_byte _ h
    exact vdupScalar_lanes hr hv hform (.inl rfl) (if_pos h) (by rw [FDup.index, if_pos h, hindex]) (BitVec.isLt _)
  · obtain ⟨hform, h0, h1, hindex⟩ := dup_half _ h
    exact vdupScalar_lanes hr hv hform (.inr (.inl rfl)) (by simp only [FDup.esize, h0, h1]; rfl)
      (by simp only [FDup.index, h0, h1, hindex]; rfl) (BitVec.isLt _)
  · obtain ⟨hform, h0, h1, hindex⟩ := dup_single _ h
    exact vdupScalar_lanes hr hv hform (.inr (.inr (.inl rfl))) (by simp only [FDup.esize, h0, h1]; rfl)
      (by simp only [FDup.index, h0, h1, hindex]; rfl) (BitVec.isLt _)

/-! ## Sign bits, and comparisons with zero -/

section
variable {e b : Nat} (x : BitVec e)

theorem getLsbD_fpAbs (hb : b < e) : (fpAbs x).getLsbD b = if b = e - 1 then false else x.getLsbD b := by
  rw [fpAbs, BitVec.getLsbD_and, BitVec.getLsbD_ofNat, Nat.testBit_two_pow_sub_one, decide_eq_true hb, Bool.true_and]
  split
  · next h => simp [h]
  · next h => simp [show b < e - 1 by omega]

theorem getLsbD_fpNeg (hb : b < e) : (fpNeg x).getLsbD b = if b = e - 1 then !x.getLsbD b else x.getLsbD b := by
  rw [fpNeg, BitVec.getLsbD_xor, BitVec.getLsbD_ofNat, Nat.testBit_two_pow, decide_eq_true hb, Bool.true_and]
  split
  · next h => simp [h]
  · next h => simp [show ¬e - 1 = b by omega]

theorem beq_zero_iff_toInt : (x == 0) = true ↔ decide (x.toInt = 0) = true := by
  rw [beq_iff_eq, decide_eq_true_iff, ← BitVec.toInt_inj, BitVec.ofNat_eq_ofNat, BitVec.toInt_zero]

end

/-- Settles O38: opc2<3> decides which operation of the row its lanes take. -/
theorem comparesWithZero : Obligations.ComparesWithZero := by
  rintro f s _ _ hr hv rfl rfl
  refine ⟨fun hx hz => ⟨?intCompares, ?intAbs, ?intNeg⟩, fun hx hz => ⟨?fpCompares, ?fpAbs, ?fpNeg⟩⟩
  case intCompares =>
    simp only [List.forall_mem_cons]
    exact ⟨
      (twoRegEither_int_flagged (exec_vcgtImm0 f s) hx hz hr hv fun _ _ => plain_within _ _).plainLanes fun _ =>
        mask_eq_ite Iff.rfl,
      (twoRegEither_int_flagged (exec_vcgeImm0 f s) hx hz hr hv fun _ _ => plain_within _ _).plainLanes fun _ =>
        mask_eq_ite Iff.rfl,
      (twoRegEither_int_flagged (exec_vceqImm0 f s) hx hz hr hv fun _ _ => plain_within _ _).plainLanes fun _ =>
        mask_eq_ite (beq_zero_iff_toInt _),
      (twoRegEither_int_flagged (exec_vcleImm0 f s) hx hz hr hv fun _ _ => plain_within _ _).plainLanes fun _ =>
        mask_eq_ite Iff.rfl,
      (twoRegEither_int_flagged (exec_vcltImm0 f s) hx hz hr hv fun _ _ => plain_within _ _).plainLanes fun _ =>
        mask_eq_ite Iff.rfl,
      List.forall_mem_nil _⟩
  case intAbs =>
    exact (twoRegEither_int_flagged (exec_vabs f s) hx hz hr hv fun _ _ => plain_within _ _).plainLanes fun _ => rfl
  case intNeg =>
    exact (twoRegEither_int_flagged (exec_vneg f s) hx hz hr hv fun _ _ => plain_within _ _).plainLanes fun _ => by
      rw [plain_fst, BitVec.ofInt_neg, BitVec.ofInt_toInt]
  case fpCompares =>
    simp only [List.forall_mem_cons]
    exact ⟨
      twoRegEither_fp_flagged (exec_vcgtImm0 f s) hx hz hr hv fun _ _ => fpCompare_within _ _ _,
      twoRegEither_fp_flagged (exec_vcgeImm0 f s) hx hz hr hv fun _ _ => fpCompare_within _ _ _,
      twoRegEither_fp_flagged (exec_vceqImm0 f s) hx hz hr hv fun _ _ => fpCompare_within _ _ _,
      twoRegEither_fp_flagged (exec_vcleImm0 f s) hx hz hr hv fun _ _ => fpCompare_within _ _ _,
      twoRegEither_fp_flagged (exec_vcltImm0 f s) hx hz hr hv fun _ _ => fpCompare_within _ _ _,
      List.forall_mem_nil _⟩
  case fpAbs =>
    exact (twoRegEither_fp_flagged (exec_vabs f s) hx hz hr hv fun _ _ => plain_within _ _).plainBits
      fun _ _ hb => getLsbD_fpAbs _ hb
  case fpNeg =>
    exact (twoRegEither_fp_flagged (exec_vneg f s) hx hz hr hv fun _ _ => plain_within _ _).plainBits
      fun _ _ hb => getLsbD_fpNeg _ hb

/-! ## Forms that are UNDEFINED -/

theorem twoRegOdd_eq_true {f : FTwoRegMisc} (h : ¬EvenFor f.Q [f.d, f.m]) : twoRegOdd f = true := by
  obtain ⟨a, ha, hodd⟩ := oddQuad_eq_true_of_not_even h
  simp only [List.mem_cons, List.not_mem_nil, or_false] at ha
  rcases ha with rfl | rfl <;> simp [twoRegOdd, hodd]

theorem shiftOdd_eq_true {f : FTwoRegShift} (h : ¬EvenFor f.Q [f.d, f.m]) : shiftOdd f = true := by
  obtain ⟨a, ha, hodd⟩ := oddQuad_eq_true_of_not_even h
  simp only [List.mem_cons, List.not_mem_nil, or_false] at ha
  rcases ha with rfl | rfl <;> simp [shiftOdd, hodd]

theorem noFloat_eq_true {size : BitVec 2} {s : State}
    (h : size = 0b00#2 ∨ (size = 0b01#2 ∧ s.params.haveFp16 = false)) : noFloat size s = true := by
  rcases h with h | ⟨h, hp⟩
  · simp [noFloat, h]
  · simp [noFloat, h, hp]

theorem odd_eq_true {a : Nat} (h : a % 2 = 1) : odd a = true := by simp [odd, h]

theorem twoRegSha_undefined {i : Instr} {s : State} {f : FTwoRegMisc} {size : BitVec 2} {op : QWord → QWord → QWord}
    (he : exec i s = twoRegSha f size op s) (h : f.size ≠ size ∨ f.d % 2 = 1 ∨ f.m % 2 = 1) :
    exec i s = .fault .undefinedInstruction := by
  rw [he, twoRegSha, simdOp_undefined]
  rcases h with h | h | h <;> simp [odd, h]

theorem vdupScalar_undefined {f : FDup} {s : State} (h : ¬EvenFor f.Q [f.d] ∨ f.imm4.extractLsb' 0 3 = 0#3) :
    exec (.vdupScalar f) s = .fault .undefinedInstruction := by
  refine exec_undefined (exec_vdupScalar f s) ?_
  rcases h with h | h
  · obtain ⟨a, ha, hodd⟩ := oddQuad_eq_true_of_not_even h
    obtain rfl := List.mem_singleton.mp ha
    simp [hodd]
  · have himm : ∀ v : BitVec 4, v.extractLsb' 0 3 = 0#3 → (v &&& 0b0111#4 == 0b0000#4) = true := by decide
    simp only [himm _ h, Bool.or_true]

/-- A group of 16 bits has two lanes or none. -/
theorem byte_group {size : BitVec 2} (h : size ≠ 0b00#2) : 16 ≤ esize size := by
  revert size; decide

/-- The fixed-point conversions have at most as many fraction bits as their lanes. -/
theorem fixedUndef_eq_true {f : FTwoRegShift} {s : State}
    (h : f.imm6 < 32 ∨ (f.opc.getLsbD 1 = false ∧ (f.imm6 < 48 ∨ s.params.haveFp16 = false))) :
    fixedUndef f s = true := by
  have hwidth : fpSize (fixedHalf f) ≤ 32 := by unfold fpSize; split <;> decide
  rcases h with h | ⟨hhalf, h | h⟩
  · simp [fixedUndef, fractionBits, show fpSize (fixedHalf f) < 64 - f.imm6 by omega]
  · have h16 : fpSize (fixedHalf f) = 16 := by rw [fixedHalf, hhalf]; rfl
    simp [fixedUndef, fractionBits, show fpSize (fixedHalf f) < 64 - f.imm6 by omega]
  · have hhalf' : fixedHalf f = true := by rw [fixedHalf, hhalf]; rfl
    simp [fixedUndef, noHalf, hhalf', h]

/-- Settles O60: each clause is one disjunct of the check that the meaning of the row makes. -/
theorem undefinedOtherVectorForms : Obligations.UndefinedOtherVectorForms := by
  refine ⟨fun f g s => ⟨fun h => ?miscOdd, fun h => ?miscWide, fun h => ?miscByte, fun h => exec_undefined rfl ?rev32,
      fun h => ?miscSha, fun h => ?miscConvert, fun h => ⟨?miscFloat, fun hx => ?miscEither⟩, fun hx hz => ?estimate,
      fun hQ hz => ?zip, fun h => ?miscOddM, fun h => ?miscOddD, vdupScalar_undefined⟩,
    fun f s => ⟨fun h => ?diffOddD, fun h => ?diffOddN, fun h => ?diffOddM, fun h => ?diffDoubling,
      fun hx h => exec_undefined rfl ?diffPoly⟩,
    fun f s => ⟨fun h => ?scalarByte, fun h => ?scalarOdd, fun h => ?scalarOddD, fun hx hz hp => ?scalarHalf⟩,
    fun f s h => ?immediate,
    fun f s => ⟨fun h => ?shiftOdd, fun h => ?shiftWide, fun h => ?shiftOddM, fun h => ?shiftOddD,
      fun h => exec_undefined rfl ?shiftFixed⟩⟩
  case miscOdd =>
    have hodd := twoRegOdd_eq_true h
    simp only [miscVectors, miscEither, miscFloating, List.cons_append, List.nil_append, List.forall_mem_cons,
      List.not_mem_nil, false_imp_iff, implies_true, and_true]
    and_intros <;> exact exec_undefined (by rfl) (by simp [hodd])
  case miscWide =>
    simp only [miscNo64, miscEither, miscFloating, List.cons_append, List.nil_append, List.forall_mem_cons,
      List.not_mem_nil, false_imp_iff, implies_true, and_true]
    and_intros <;> exact exec_undefined (by rfl) (by simp [size64, esize, noZip, noFloat, h])
  case miscByte =>
    simp only [List.forall_mem_cons, List.not_mem_nil, false_imp_iff, implies_true, and_true]
    exact ⟨exec_undefined rfl (by simp [h]), exec_undefined rfl (by simp [h]),
      exec_undefined rfl (by simp [byte_group h]), twoRegSha_undefined (exec_aese f s) (.inl h),
      twoRegSha_undefined (exec_aesd f s) (.inl h), twoRegSha_undefined (exec_aesmc f s) (.inl h),
      twoRegSha_undefined (exec_aesimc f s) (.inl h)⟩
  case rev32 => simp [h, esize]
  case miscSha =>
    simp only [List.forall_mem_cons, List.not_mem_nil, false_imp_iff, implies_true, and_true]
    exact ⟨twoRegSha_undefined (exec_sha1h f s) (.inl h), twoRegSha_undefined (exec_sha1su1 f s) (.inl h),
      twoRegSha_undefined (exec_sha256su0 f s) (.inl h)⟩
  case miscConvert =>
    simp only [List.forall_mem_cons, List.not_mem_nil, false_imp_iff, implies_true, and_true]
    and_intros <;> exact exec_undefined rfl (by simp [h])
  case miscFloat =>
    have hnone : noFloat f.size s = true := noFloat_eq_true h
    simp only [miscFloating, List.forall_mem_cons, List.not_mem_nil, false_imp_iff, implies_true, and_true]
    and_intros <;> exact exec_undefined rfl (by simp [hnone])
  case miscEither =>
    have hnone : noFloat f.size s = true := noFloat_eq_true h
    have hfloat : miscFloat f = true := hx
    simp only [Sys2Proof.Machine.miscEither, List.forall_mem_cons, List.not_mem_nil, false_imp_iff, implies_true,
      and_true]
    and_intros <;> exact exec_undefined rfl (by simp [hnone, hfloat])
  case estimate =>
    simp only [List.forall_mem_cons, List.not_mem_nil, false_imp_iff, implies_true, and_true]
    and_intros <;> exact exec_undefined rfl (by simp only [hx, bne_iff_ne.mpr hz]; simp)
  case zip =>
    have hnone : noZip f = true := by simp [noZip, isSet, hQ, hz]
    simp only [List.forall_mem_cons, List.not_mem_nil, false_imp_iff, implies_true, and_true]
    and_intros <;> exact exec_undefined rfl (by simp [hnone])
  case miscOddM =>
    have hodd := odd_eq_true h
    simp only [List.forall_mem_cons, List.not_mem_nil, false_imp_iff, implies_true, and_true]
    exact ⟨exec_undefined rfl (by simp [hodd]), exec_undefined rfl (by simp [hodd]),
      exec_undefined rfl (by simp [hodd]), exec_undefined rfl (by simp [hodd]),
      twoRegSha_undefined (exec_aese f s) (.inr (.inr h)), twoRegSha_undefined (exec_aesd f s) (.inr (.inr h)),
      twoRegSha_undefined (exec_aesmc f s) (.inr (.inr h)), twoRegSha_undefined (exec_aesimc f s) (.inr (.inr h)),
      twoRegSha_undefined (exec_sha1h f s) (.inr (.inr h)), twoRegSha_undefined (exec_sha1su1 f s) (.inr (.inr h)),
      twoRegSha_undefined (exec_sha256su0 f s) (.inr (.inr h))⟩
  case miscOddD =>
    have hodd := odd_eq_true h
    simp only [List.forall_mem_cons, List.not_mem_nil, false_imp_iff, implies_true, and_true]
    exact ⟨exec_undefined rfl (by simp [hodd]), exec_undefined rfl (by simp [hodd]),
      twoRegSha_undefined (exec_aese f s) (.inr (.inl h)), twoRegSha_undefined (exec_aesd f s) (.inr (.inl h)),
      twoRegSha_undefined (exec_aesmc f s) (.inr (.inl h)), twoRegSha_undefined (exec_aesimc f s) (.inr (.inl h)),
      twoRegSha_undefined (exec_sha1h f s) (.inr (.inl h)), twoRegSha_undefined (exec_sha1su1 f s) (.inr (.inl h)),
      twoRegSha_undefined (exec_sha256su0 f s) (.inr (.inl h))⟩
  case diffOddD =>
    have hodd := odd_eq_true h
    simp only [longRows, List.cons_append, List.nil_append, List.forall_mem_cons, List.not_mem_nil, false_imp_iff,
      implies_true, and_true]
    and_intros <;> exact exec_undefined rfl (by simp [hodd])
  case diffOddN =>
    have hodd := odd_eq_true h
    simp only [List.forall_mem_cons, List.not_mem_nil, false_imp_iff, implies_true, and_true]
    and_intros <;> exact exec_undefined rfl (by simp [hodd])
  case diffOddM =>
    have hodd := odd_eq_true h
    simp only [List.forall_mem_cons, List.not_mem_nil, false_imp_iff, implies_true, and_true]
    and_intros <;> exact exec_undefined rfl (by simp [hodd])
  case diffDoubling =>
    have hnone : notDoubling f.size = true := by rcases h with h | h <;> simp [notDoubling, h]
    simp only [List.forall_mem_cons, List.not_mem_nil, false_imp_iff, implies_true, and_true]
    and_intros <;> exact exec_undefined rfl (by simp [hnone])
  case diffPoly =>
    have hpoly : mullPoly f = true := hx
    rcases h with h | h <;> simp [mullUndef, isSet, hpoly, h]
  case scalarByte =>
    simp only [scalarVectors, scalarLong, List.cons_append, List.nil_append, List.forall_mem_cons, List.not_mem_nil,
      false_imp_iff, implies_true, and_true]
    and_intros <;> exact exec_undefined rfl (by simp [h])
  case scalarOdd =>
    obtain ⟨a, ha, hodd⟩ := oddQuad_eq_true_of_not_even h
    simp only [List.mem_cons, List.not_mem_nil, or_false] at ha
    have hu : (oddQuad f.Q f.d || oddQuad f.Q f.n) = true := by rcases ha with rfl | rfl <;> simp [hodd]
    simp only [scalarVectors, List.forall_mem_cons, List.not_mem_nil, false_imp_iff, implies_true, and_true]
    and_intros <;> exact exec_undefined rfl (by simp only [Bool.or_assoc (f.size == 0b00#2), hu]; simp)
  case scalarOddD =>
    have hodd := odd_eq_true h
    simp only [scalarLong, List.forall_mem_cons, List.not_mem_nil, false_imp_iff, implies_true, and_true]
    and_intros <;> exact exec_undefined rfl (by simp [hodd])
  case scalarHalf =>
    have hfloat : scalarFloat f = true := hx
    simp only [List.forall_mem_cons, List.not_mem_nil, false_imp_iff, implies_true, and_true]
    and_intros <;> exact exec_undefined rfl (by simp [scalarNoHalf, noHalf, hfloat, hz, hp])
  case immediate =>
    obtain ⟨a, ha, hodd⟩ := oddQuad_eq_true_of_not_even h
    obtain rfl := List.mem_singleton.mp ha
    simp only [immediateRows, List.forall_mem_cons, List.not_mem_nil, false_imp_iff, implies_true, and_true]
    and_intros <;> exact exec_undefined rfl hodd
  case shiftOdd =>
    have hodd := shiftOdd_eq_true h
    simp only [shiftVectors, List.forall_mem_cons, List.not_mem_nil, false_imp_iff, implies_true, and_true]
    and_intros <;> exact exec_undefined rfl (by simp [hodd])
  case shiftWide =>
    simp only [shiftNarrow, List.cons_append, List.nil_append, List.forall_mem_cons, List.not_mem_nil, false_imp_iff,
      implies_true, and_true]
    and_intros <;> exact exec_undefined rfl (by simp [isSet, fixedUndef, h])
  case shiftOddM =>
    have hodd := odd_eq_true h
    simp only [shiftNarrow, List.forall_mem_cons, List.not_mem_nil, false_imp_iff, implies_true, and_true]
    and_intros <;> exact exec_undefined rfl (by simp [hodd])
  case shiftOddD =>
    have hodd := odd_eq_true h
    simp only [List.forall_mem_cons, List.not_mem_nil, false_imp_iff, implies_true, and_true]
    and_intros <;> exact exec_undefined rfl (by simp [hodd])
  case shiftFixed =>
    rw [fixedUndef_eq_true h, Bool.or_true]

end Sys2Proof.Machine
end

section
/-! The AES and SHA rows (rules R131, R137, R152, R159, R168, R172, R183, R205 to R208, R224, R232, R233): the bytes and
the words of a quadword, the field GF(2^8), the rounds of the two hashes on tuples of words, and the statement about
these rows. -/

namespace Sys2Proof.Machine

/-! ## The rows -/

/-- A quadword result in a register with an even number. -/
theorem writeQ_completes {i : Instr} {s : State} {undef : Bool} {d : Nat} {v : State → QWord}
    (he : exec i s = simdOp undef (fun s => s.writeQ d (v s)) s) (hu : undef = false) (hr : s.SimdReady)
    (hd : d + 2 ≤ 32) :
    Completes i s fun t => VectorFrame 0#32 (Regs d 2) s t ∧ t.readQ d = v s :=
  completes_simdOp he hu rfl hr ⟨writeQ_frame _ s d _, State.readQ_writeQ s d _ (by omega)⟩

theorem threeSameSha_completes {i : Instr} {s : State} {f : FThreeSame} {op : QWord → QWord → QWord → QWord}
    (he : exec i s = threeSameSha f op s) (hr : s.SimdReady) (hQ : f.Q = 1#1) (hv : EvenFor f.Q [f.d, f.n, f.m]) :
    Completes i s fun t =>
      VectorFrame 0#32 (Regs f.d 2) s t ∧ t.readQ f.d = op (s.readQ f.d) (s.readQ f.n) (s.readQ f.m) := by
  have heven := hv hQ
  simp only [List.forall_mem_cons] at heven
  obtain ⟨hd, hn, hm, -⟩ := heven
  exact writeQ_completes (v := fun s => op (s.readQ f.d) (s.readQ f.n) (s.readQ f.m)) he
    (by simp [isSet, odd, hQ, hd, hn, hm]) hr (quad_fits (hi := f.D) (lo := f.Vd) hd)

theorem twoRegSha_completes {i : Instr} {s : State} {f : FTwoRegMisc} {size : BitVec 2} {op : QWord → QWord → QWord}
    (he : exec i s = twoRegSha f size op s) (hr : s.SimdReady) (hz : f.size = size) (hd : f.d % 2 = 0)
    (hm : f.m % 2 = 0) :
    Completes i s fun t => VectorFrame 0#32 (Regs f.d 2) s t ∧ t.readQ f.d = op (s.readQ f.d) (s.readQ f.m) :=
  writeQ_completes (v := fun s => op (s.readQ f.d) (s.readQ f.m)) he (by simp [odd, hz, hd, hm]) hr
    (quad_fits (hi := f.D) (lo := f.Vd) hd)

/-! ## The bytes of a quadword -/

theorem getLsbD_quadOfBytes (g : Nat → BitVec 8) (n b : Nat) (hb : b < 128) :
    (quadOfBytes g n).getLsbD b = (decide (b < 8 * n) && (g (b / 8)).getLsbD (b % 8)) := by
  induction n with
  | zero => simp [quadOfBytes]
  | succ n ih =>
    rw [quadOfBytes, BitVec.getLsbD_or, ih, BitVec.getLsbD_shiftLeft, BitVec.getLsbD_setWidth]
    by_cases hlow : b < 8 * n
    · simp [hlow, show b < 8 * (n + 1) by omega]
    · by_cases hbyte : b < 8 * (n + 1)
      · have hdiv : b / 8 = n := by omega
        have hmod : b - 8 * n = b % 8 := by omega
        simp [hb, hlow, hbyte, hdiv, hmod, show b % 8 < 128 by omega]
      · have hzero : (g n).getLsbD (b - 8 * n) = false := BitVec.getLsbD_of_ge _ _ (by omega)
        simp [hlow, hbyte, hzero]

theorem byteOf_quadOfBytes (g : Nat → BitVec 8) {i : Nat} (hi : i < 16) : byteOf (quadOfBytes g 16) i = g i := by
  apply BitVec.eq_of_getLsbD_eq
  intro b hb
  rw [byteOf, BitVec.getLsbD_extractLsb', getLsbD_quadOfBytes g 16 _ (by omega), show (8 * i + b) / 8 = i by omega,
    show (8 * i + b) % 8 = b by omega]
  simp [hb, show 8 * i + b < 8 * 16 by omega]

/-- A quadword is its bytes. -/
theorem eq_of_byteOf_eq {x y : QWord} (h : ∀ c r, c < 4 → r < 4 → byteOf x (4 * c + r) = byteOf y (4 * c + r)) :
    x = y := by
  apply BitVec.eq_of_getLsbD_eq
  intro b hb
  have hbyte := congrArg (·.getLsbD (b % 8)) (h (b / 32) (b / 8 % 4) (by omega) (by omega))
  simp only [byteOf, BitVec.getLsbD_extractLsb', show b % 8 < 8 by omega, decide_true, Bool.true_and] at hbyte
  rwa [show 8 * (4 * (b / 32) + b / 8 % 4) + b % 8 = b by omega] at hbyte

theorem byteOf_aesSub (table : BitVec 2048) (x : QWord) {i : Nat} (hi : i < 16) :
    byteOf (aesSub table x) i = substitute table (byteOf x i) := byteOf_quadOfBytes _ hi

theorem byteOf_aesEncrypt (d m : QWord) {i : Nat} (hi : i < 16) :
    byteOf (aesEncrypt d m) i = substitute aesSubTable (byteOf (d ^^^ m) ((i + 4 * (i % 4)) % 16)) := by
  rw [aesEncrypt, byteOf_aesSub _ _ hi, aesShiftRows, byteOf_quadOfBytes _ hi,
    show (i / 4 + i % 4) % 4 * 4 + i % 4 = (i + 4 * (i % 4)) % 16 by omega]

theorem byteOf_aesDecrypt (d m : QWord) {i : Nat} (hi : i < 16) :
    byteOf (aesDecrypt d m) i = substitute aesInvSubTable (byteOf (d ^^^ m) ((i + 12 * (i % 4)) % 16)) := by
  rw [aesDecrypt, byteOf_aesSub _ _ hi, aesInvShiftRows, byteOf_quadOfBytes _ hi,
    show (i / 4 + 4 - i % 4) % 4 * 4 + i % 4 = (i + 12 * (i % 4)) % 16 by omega]

/-! ## The field GF(2^8) -/

/-- The affine map of the AES substitution, undone. -/
def affineInverse (x : BitVec 8) : BitVec 8 := x.rotateLeft 1 ^^^ x.rotateLeft 3 ^^^ x.rotateLeft 6 ^^^ 0x05#8

theorem affineInverse_affine : ∀ x : BitVec 8,
    affineInverse x ^^^ (affineInverse x).rotateLeft 1 ^^^ (affineInverse x).rotateLeft 2 ^^^
      (affineInverse x).rotateLeft 3 ^^^ (affineInverse x).rotateLeft 4 ^^^ 0x63#8 = x := by decide

/-- The AES substitution, its affine map undone, is the inverse in GF(2^8). -/
theorem gf256Product_affineInverse : ∀ x : BitVec 8,
    gf256Product x (affineInverse (substitute aesSubTable x)) = if x = 0#8 then 0#8 else 1#8 := by decide +kernel

theorem substitute_inverse : ∀ x : BitVec 8, substitute aesInvSubTable (substitute aesSubTable x) = x ∧
    substitute aesSubTable (substitute aesInvSubTable x) = x := by decide +kernel

/-- Constant products as the field's products. -/
theorem gfMul_eq_gf256Product : ∀ x : BitVec 8,
    gfMul 1#4 x = x ∧ gfMul 2#4 x = gf256Product 2 x ∧ gfMul 3#4 x = gf256Product 3 x ∧
      gfMul 14#4 x = gf256Product 14 x ∧ gfMul 11#4 x = gf256Product 11 x ∧ gfMul 13#4 x = gf256Product 13 x ∧
      gfMul 9#4 x = gf256Product 9 x := by decide +kernel

theorem gfDouble_xor (x y : BitVec 8) : gfDouble (x ^^^ y) = gfDouble x ^^^ gfDouble y := by
  have hcarry : ∀ p q : Bool, (if p ^^ q then 0x1B#8 else 0#8) =
      (if p then 0x1B#8 else 0#8) ^^^ (if q then 0x1B#8 else 0#8) := by decide
  rw [gfDouble, BitVec.shiftLeft_xor_distrib, BitVec.getLsbD_xor, hcarry, gfDouble, gfDouble]
  ac_rfl

theorem xor_ite (b : Bool) (x y : BitVec 8) :
    (if b then x ^^^ y else 0#8) = (if b then x else 0#8) ^^^ (if b then y else 0#8) := by cases b <;> simp

theorem gfMul_xor (k : BitVec 4) (x y : BitVec 8) : gfMul k (x ^^^ y) = gfMul k x ^^^ gfMul k y := by
  simp only [gfMul, gfDouble_xor, xor_ite]
  ac_rfl

/-! ## MixColumns -/

/-- Byte `r` of a column times the circulant matrix whose first row is `a b c d`. -/
def mixedByte (a b c d : BitVec 4) (x : Nat → BitVec 8) : BitVec 8 :=
  gfMul a (x 0) ^^^ gfMul b (x 1) ^^^ gfMul c (x 2) ^^^ gfMul d (x 3)

theorem byteOf_aesMix (a b c d : BitVec 4) (m : QWord) {col r : Nat} (hcol : col < 4) (hr : r < 4) :
    byteOf (aesMix a b c d m) (4 * col + r) = mixedByte a b c d fun k => byteOf m (4 * col + (r + k) % 4) := by
  have hdiv : (4 * col + r) / 4 * 4 = 4 * col := by omega
  have hmod : ∀ k, (4 * col + r + k) % 4 = (r + k) % 4 := by omega
  rw [aesMix, byteOf_quadOfBytes _ (by omega)]
  simp only [hdiv, hmod]
  rfl

/-- A row times a column of two matrices over GF(2^8), applied to a byte. -/
def rowTimesColumn (a b c d p q r s : BitVec 4) (x : BitVec 8) : BitVec 8 :=
  gfMul a (gfMul p x) ^^^ gfMul b (gfMul q x) ^^^ gfMul c (gfMul r x) ^^^ gfMul d (gfMul s x)

/-- Two circulant matrices multiplied: the columns of the second are its rows shifted. -/
theorem mixedByte_mixedByte (a b c d p q r s : BitVec 4) (x : Nat → BitVec 8) :
    mixedByte a b c d (fun k => mixedByte p q r s fun l => x ((k + l) % 4)) =
      rowTimesColumn a b c d p s r q (x 0) ^^^ rowTimesColumn a b c d q p s r (x 1) ^^^
        rowTimesColumn a b c d r q p s (x 2) ^^^ rowTimesColumn a b c d s r q p (x 3) := by
  simp only [mixedByte, rowTimesColumn, gfMul_xor, Nat.reduceAdd, Nat.reduceMod]
  ac_rfl

/-- The matrices of MixColumns and InvMixColumns, multiplied in either order, are the identity. -/
theorem mixColumns_circulants : ∀ x : BitVec 8,
    (rowTimesColumn 14#4 11#4 13#4 9#4 2#4 1#4 1#4 3#4 x = x ∧
      rowTimesColumn 14#4 11#4 13#4 9#4 3#4 2#4 1#4 1#4 x = 0 ∧
      rowTimesColumn 14#4 11#4 13#4 9#4 1#4 3#4 2#4 1#4 x = 0 ∧
      rowTimesColumn 14#4 11#4 13#4 9#4 1#4 1#4 3#4 2#4 x = 0) ∧
    (rowTimesColumn 2#4 3#4 1#4 1#4 14#4 9#4 13#4 11#4 x = x ∧
      rowTimesColumn 2#4 3#4 1#4 1#4 11#4 14#4 9#4 13#4 x = 0 ∧
      rowTimesColumn 2#4 3#4 1#4 1#4 13#4 11#4 14#4 9#4 x = 0 ∧
      rowTimesColumn 2#4 3#4 1#4 1#4 9#4 13#4 11#4 14#4 x = 0) := by
  decide +kernel

/-- A column multiplied by two circulant matrices, as one product of rows on its four bytes. -/
theorem byteOf_aesMix_aesMix (a b c d p q r s : BitVec 4) (m : QWord) {col row : Nat} (hcol : col < 4)
    (hrow : row < 4) :
    byteOf (aesMix a b c d (aesMix p q r s m)) (4 * col + row) =
      mixedByte a b c d fun k => mixedByte p q r s fun l => byteOf m (4 * col + (row + (k + l) % 4) % 4) := by
  have hplace : ∀ k l, ((row + k) % 4 + l) % 4 = (row + (k + l) % 4) % 4 := by omega
  rw [byteOf_aesMix _ _ _ _ _ hcol hrow]
  simp only [mixedByte, byteOf_aesMix p q r s m hcol (Nat.mod_lt _ (by decide : 0 < 4)), hplace]

theorem aesInvMixColumns_aesMixColumns (m : QWord) : aesInvMixColumns (aesMixColumns m) = m := by
  refine eq_of_byteOf_eq fun col row hcol hrow => ?_
  rw [aesInvMixColumns, aesMixColumns, byteOf_aesMix_aesMix _ _ _ _ _ _ _ _ m hcol hrow,
    mixedByte_mixedByte (x := fun k => byteOf m (4 * col + (row + k) % 4))]
  simp [mixColumns_circulants, Nat.mod_eq_of_lt hrow]

theorem aesMixColumns_aesInvMixColumns (m : QWord) : aesMixColumns (aesInvMixColumns m) = m := by
  refine eq_of_byteOf_eq fun col row hcol hrow => ?_
  rw [aesInvMixColumns, aesMixColumns, byteOf_aesMix_aesMix _ _ _ _ _ _ _ _ m hcol hrow,
    mixedByte_mixedByte (x := fun k => byteOf m (4 * col + (row + k) % 4))]
  simp [mixColumns_circulants, Nat.mod_eq_of_lt hrow]

/-! ## The words of a quadword -/

theorem wordOf_eq_of_getLsbD {x : QWord} {w : Word} {i : Nat}
    (h : ∀ b, b < 32 → x.getLsbD (32 * i + b) = w.getLsbD b) : wordOf x i = w := by
  apply BitVec.eq_of_getLsbD_eq
  intro b hb
  rw [wordOf, BitVec.getLsbD_extractLsb', h b hb, decide_eq_true hb, Bool.true_and]

section
variable (w3 w2 w1 w0 : Word)

theorem getLsbD_quadOfWords (b : Nat) : (quadOfWords w3 w2 w1 w0).getLsbD b =
    if b < 32 then w0.getLsbD b else if b < 64 then w1.getLsbD (b - 32)
      else if b < 96 then w2.getLsbD (b - 64) else w3.getLsbD (b - 96) := by
  simp only [quadOfWords, BitVec.getLsbD_append, Nat.sub_sub]
  by_cases h1 : b < 32
  · simp [h1]
  · by_cases h2 : b < 64
    · simp [h1, h2, show b - 32 < 32 by omega]
    · by_cases h3 : b < 96
      · simp [h1, h2, h3, show ¬b - 32 < 32 by omega, show b - 64 < 32 by omega]
      · simp [h1, h2, h3, show ¬b - 32 < 32 by omega, show ¬b - 64 < 32 by omega]

@[simp] theorem wordOf_quadOfWords_zero : wordOf (quadOfWords w3 w2 w1 w0) 0 = w0 :=
  wordOf_eq_of_getLsbD fun b hb => by rw [getLsbD_quadOfWords, if_pos (by omega), show 32 * 0 + b = b by omega]

@[simp] theorem wordOf_quadOfWords_one : wordOf (quadOfWords w3 w2 w1 w0) 1 = w1 :=
  wordOf_eq_of_getLsbD fun b hb => by
    rw [getLsbD_quadOfWords, if_neg (by omega), if_pos (by omega), show 32 * 1 + b - 32 = b by omega]

@[simp] theorem wordOf_quadOfWords_two : wordOf (quadOfWords w3 w2 w1 w0) 2 = w2 :=
  wordOf_eq_of_getLsbD fun b hb => by
    rw [getLsbD_quadOfWords, if_neg (by omega), if_neg (by omega), if_pos (by omega), show 32 * 2 + b - 64 = b by omega]

@[simp] theorem wordOf_quadOfWords_three : wordOf (quadOfWords w3 w2 w1 w0) 3 = w3 :=
  wordOf_eq_of_getLsbD fun b hb => by
    rw [getLsbD_quadOfWords, if_neg (by omega), if_neg (by omega), if_neg (by omega), show 32 * 3 + b - 96 = b by omega]

end

/-- A quadword is its words. -/
theorem quadOfWords_wordOf (x : QWord) : quadOfWords (wordOf x 3) (wordOf x 2) (wordOf x 1) (wordOf x 0) = x := by
  apply BitVec.eq_of_getLsbD_eq
  intro b hb
  have hword : ∀ i j, j < 32 → (wordOf x i).getLsbD j = x.getLsbD (32 * i + j) := fun i j hj => by
    rw [wordOf, BitVec.getLsbD_extractLsb', decide_eq_true hj, Bool.true_and]
  rw [getLsbD_quadOfWords]
  split
  · rw [hword 0 _ (by omega), show 32 * 0 + b = b by omega]
  · split
    · rw [hword 1 _ (by omega), show 32 * 1 + (b - 32) = b by omega]
    · split
      · rw [hword 2 _ (by omega), show 32 * 2 + (b - 64) = b by omega]
      · rw [hword 3 _ (by omega), show 32 * 3 + (b - 96) = b by omega]

/-! ## The functions and the rounds of the hashes -/

theorem shaChoose_eq : shaChoose = fun x y z : Word => (x &&& y) ^^^ (~~~x &&& z) := by
  funext x y z
  apply BitVec.eq_of_getLsbD_eq
  intro b hb
  simp only [shaChoose, BitVec.getLsbD_xor, BitVec.getLsbD_and, BitVec.getLsbD_not, hb]
  cases x.getLsbD b <;> simp

theorem shaMajority_eq : shaMajority = fun x y z : Word => (x &&& y) ^^^ (x &&& z) ^^^ (y &&& z) := by
  funext x y z
  apply BitVec.eq_of_getLsbD_eq
  intro b _
  simp only [shaMajority, BitVec.getLsbD_xor, BitVec.getLsbD_and, BitVec.getLsbD_or]
  cases x.getLsbD b <;> cases y.getLsbD b <;> simp

/-- One round of SHA1 on the quadword of a to d and the word e. -/
theorem sha1Rounds_succ (g : Word → Word → Word → Word) (w : QWord) (n i : Nat) (a b c d e : Word) :
    sha1Rounds g w (n + 1) i (quadOfWords d c b a) e =
      match sha1Round g (a, b, c, d, e) (wordOf w i) with
      | (a, b, c, d, e) => sha1Rounds g w n (i + 1) (quadOfWords d c b a) e := by
  simp only [sha1Rounds, sha1Round, wordOf_quadOfWords_zero, wordOf_quadOfWords_one, wordOf_quadOfWords_two,
    wordOf_quadOfWords_three]
  congr 2
  ac_rfl

theorem sha1Update_eq_rounds {g : Word → Word → Word → Word} {D N M : QWord} {a b c d e : Word}
    (h : (a, b, c, d, e) = [wordOf M 0, wordOf M 1, wordOf M 2, wordOf M 3].foldl (sha1Round g)
      (wordOf D 0, wordOf D 1, wordOf D 2, wordOf D 3, wordOf N 0)) :
    sha1Update g D N M = d ++ c ++ b ++ a := by
  have hrounds : sha1Rounds g M 4 0 D (wordOf N 0) = quadOfWords d c b a := by
    rw [← quadOfWords_wordOf D]
    simp only [sha1Rounds_succ]
    simp only [List.foldl_cons, List.foldl_nil] at h
    rw [← h]
    rfl
  exact hrounds

/-- One round of SHA256 on the quadwords of a to d and of e to h. -/
theorem sha256Rounds_succ (w : QWord) (n i : Nat) (a b c d e f g h : Word) :
    sha256Rounds w (n + 1) i (quadOfWords d c b a) (quadOfWords h g f e) =
      match sha256Round (a, b, c, d, e, f, g, h) (wordOf w i) with
      | (a, b, c, d, e, f, g, h) => sha256Rounds w n (i + 1) (quadOfWords d c b a) (quadOfWords h g f e) := by
  simp only [sha256Rounds, sha256Round, wordOf_quadOfWords_zero, wordOf_quadOfWords_one, wordOf_quadOfWords_two,
    wordOf_quadOfWords_three, shaChoose_eq, shaMajority_eq]
  congr 2
  all_goals ac_rfl

theorem sha256Rounds_eq_rounds {D N M : QWord} {a b c d e f g h : Word}
    (hr : (a, b, c, d, e, f, g, h) = [wordOf M 0, wordOf M 1, wordOf M 2, wordOf M 3].foldl sha256Round
      (wordOf D 0, wordOf D 1, wordOf D 2, wordOf D 3, wordOf N 0, wordOf N 1, wordOf N 2, wordOf N 3)) :
    sha256Rounds M 4 0 D N = (d ++ c ++ b ++ a, h ++ g ++ f ++ e) := by
  have hrounds : sha256Rounds M 4 0 D N = (quadOfWords d c b a, quadOfWords h g f e) := by
    rw [← quadOfWords_wordOf D, ← quadOfWords_wordOf N]
    simp only [sha256Rounds_succ]
    simp only [List.foldl_cons, List.foldl_nil] at hr ⊢
    rw [← hr]
    rfl
  exact hrounds

/-! ## The schedules -/

theorem wordOf_xor (x y : QWord) (i : Nat) : wordOf (x ^^^ y) i = wordOf x i ^^^ wordOf y i := by
  simp [wordOf, BitVec.extractLsb'_xor]

theorem rotateLeft_xor (x y : Word) (n : Nat) : (x ^^^ y).rotateLeft n = x.rotateLeft n ^^^ y.rotateLeft n := by
  apply BitVec.eq_of_getLsbD_eq
  intro b hb
  simp only [BitVec.getLsbD_xor, BitVec.getLsbD_rotateLeft]
  cases decide (b < n % 32) <;> simp [hb]

theorem rotateLeft_one_one (x : Word) : (x.rotateLeft 1).rotateLeft 1 = x.rotateLeft 2 := by
  apply BitVec.eq_of_getLsbD_eq
  intro b hb
  rcases (by omega : b = 0 ∨ b = 1 ∨ 2 ≤ b) with rfl | rfl | h2
  · simp
  · simp
  · simp [hb, show ¬b < 1 by omega, show ¬b < 2 by omega, show ¬b - 1 < 1 by omega, Nat.sub_sub]

section
variable (W : Nat → Word) (t : Nat)

@[simp] theorem wordOf_quadAt_zero : wordOf (quadAt W t) 0 = W t := wordOf_quadOfWords_zero _ _ _ _
@[simp] theorem wordOf_quadAt_one : wordOf (quadAt W t) 1 = W (t + 1) := wordOf_quadOfWords_one _ _ _ _
@[simp] theorem wordOf_quadAt_two : wordOf (quadAt W t) 2 = W (t + 2) := wordOf_quadOfWords_two _ _ _ _
@[simp] theorem wordOf_quadAt_three : wordOf (quadAt W t) 3 = W (t + 3) := wordOf_quadOfWords_three _ _ _ _

end

/-- The upper half of one quadword below the lower half of another: its words. -/
theorem middle_eq_quadOfWords (d n : QWord) :
    n.extractLsb' 0 64 ++ d.extractLsb' 64 64 = quadOfWords (wordOf n 1) (wordOf n 0) (wordOf d 3) (wordOf d 2) := by
  apply BitVec.eq_of_getLsbD_eq
  intro b hb
  simp only [getLsbD_quadOfWords, BitVec.getLsbD_append, BitVec.getLsbD_extractLsb', wordOf]
  by_cases h1 : b < 32
  · simp [h1, show b < 64 by omega]
  · by_cases h2 : b < 64
    · simp [h1, h2, show b - 32 < 32 by omega, show 96 + (b - 32) = 64 + b by omega]
    · by_cases h3 : b < 96
      · simp [h1, h2, h3, show b - 64 < 64 by omega, show b - 64 < 32 by omega]
      · simp [h1, h2, h3, show b - 64 < 64 by omega, show b - 96 < 32 by omega, show 32 + (b - 96) = b - 64 by omega]

theorem shiftRight_eq_quadOfWords (m : QWord) :
    m >>> 32 = quadOfWords 0 (wordOf m 3) (wordOf m 2) (wordOf m 1) := by
  apply BitVec.eq_of_getLsbD_eq
  intro b hb
  simp only [getLsbD_quadOfWords, BitVec.getLsbD_ushiftRight, BitVec.getLsbD_extractLsb', wordOf]
  by_cases h1 : b < 32
  · simp [h1]
  · by_cases h2 : b < 64
    · simp [h1, h2, show b - 32 < 32 by omega, show 64 + (b - 32) = 32 + b by omega]
    · by_cases h3 : b < 96
      · simp [h1, h2, h3, show b - 64 < 32 by omega, show 96 + (b - 64) = 32 + b by omega]
      · simp [h1, h2, h3, BitVec.getLsbD_of_ge m (32 + b) (by omega)]

/-- The two SHA1 schedule updates give the next four message words; the last takes the first of them in. -/
theorem sha1_schedule {W : Nat → Word} {t : Nat}
    (hW : ∀ k, t + 16 ≤ k → W k = (W (k - 3) ^^^ W (k - 8) ^^^ W (k - 14) ^^^ W (k - 16)).rotateLeft 1) :
    sha1Schedule1 (sha1Schedule0 (quadAt W t) (quadAt W (t + 4)) (quadAt W (t + 8))) (quadAt W (t + 12)) =
      quadAt W (t + 16) := by
  have h16 := hW (t + 16) (by omega)
  have h17 := hW (t + 17) (by omega)
  have h18 := hW (t + 18) (by omega)
  have h19 := hW (t + 19) (by omega)
  simp only [Nat.reduceSubDiff] at h16 h17 h18 h19
  rw [sha1Schedule1, sha1Schedule0, middle_eq_quadOfWords, shiftRight_eq_quadOfWords]
  simp only [wordOf_xor, wordOf_quadOfWords_zero, wordOf_quadOfWords_one, wordOf_quadOfWords_two,
    wordOf_quadOfWords_three, wordOf_quadAt_zero, wordOf_quadAt_one, wordOf_quadAt_two, wordOf_quadAt_three,
    Nat.add_assoc, Nat.reduceAdd]
  have hzero : (0 : Word).rotateLeft 1 = 0 := rfl
  have hlast : W (t + 19) = (W (t + 5) ^^^ W (t + 3) ^^^ W (t + 11) ^^^ 0).rotateLeft 1 ^^^
      (W (t + 2) ^^^ W t ^^^ W (t + 8) ^^^ W (t + 13)).rotateLeft 2 := by
    rw [h19, h16]
    simp only [rotateLeft_xor, rotateLeft_one_one, hzero]
    ac_rfl
  show _ = quadOfWords (W (t + 19)) (W (t + 18)) (W (t + 17)) (W (t + 16))
  rw [hlast, h18, h17, h16]
  congr 2 <;> ac_rfl

theorem sha256_schedule {W : Nat → Word} {t : Nat}
    (hW : ∀ k, t + 16 ≤ k → W k = sha256Sigma1 (W (k - 2)) + W (k - 7) + sha256Sigma0 (W (k - 15)) + W (k - 16)) :
    sha256Schedule1 (sha256Schedule0 (quadAt W t) (quadAt W (t + 4))) (quadAt W (t + 8)) (quadAt W (t + 12)) =
      quadAt W (t + 16) := by
  have h16 := hW (t + 16) (by omega)
  have h17 := hW (t + 17) (by omega)
  have h18 := hW (t + 18) (by omega)
  have h19 := hW (t + 19) (by omega)
  simp only [Nat.reduceSubDiff] at h16 h17 h18 h19
  rw [sha256Schedule1, sha256Schedule0]
  simp only [wordOf_quadOfWords_zero, wordOf_quadOfWords_one, wordOf_quadOfWords_two,
    wordOf_quadOfWords_three, wordOf_quadAt_zero, wordOf_quadAt_one, wordOf_quadAt_two, wordOf_quadAt_three,
    Nat.add_assoc, Nat.reduceAdd]
  have r16 : sha256Sigma1 (W (t + 14)) + (sha256Sigma0 (W (t + 1)) + W t) + W (t + 9) = W (t + 16) := by
    rw [h16]; ac_rfl
  have r17 : sha256Sigma1 (W (t + 15)) + (sha256Sigma0 (W (t + 2)) + W (t + 1)) + W (t + 10) = W (t + 17) := by
    rw [h17]; ac_rfl
  have r18 : sha256Sigma1 (W (t + 16)) + (sha256Sigma0 (W (t + 3)) + W (t + 2)) + W (t + 11) = W (t + 18) := by
    rw [h18]; ac_rfl
  have r19 : sha256Sigma1 (W (t + 17)) + (sha256Sigma0 (W (t + 4)) + W (t + 3)) + W (t + 12) = W (t + 19) := by
    rw [h19]; ac_rfl
  rw [r16, r17, r18, r19]
  rfl

/-! ## The statement -/

/-- Settles O36: the rows are whole-quadword writes of their function, and each function by its bytes or its words. -/
theorem cryptographicRows : Obligations.CryptographicRows := by
  refine ⟨fun f s hr hQ hv => ?threeSame, fun f s hr hd hm => ⟨fun hz => ?aesRows, fun hz => ?shaRows⟩,
    ⟨fun x => ?substitution, fun d m i hi => ⟨byteOf_aesEncrypt d m hi, byteOf_aesDecrypt d m hi⟩,
      fun m _ c r hc hr hx => ?mixColumns,
      fun m => ⟨aesInvMixColumns_aesMixColumns m, aesMixColumns_aesInvMixColumns m⟩⟩,
    fun d n m a b c e f g h => ⟨?sha1, fun d' hrounds => ?sha256, (zero_append_eq_setWidth _).symm⟩,
    fun W t => ⟨sha1_schedule, sha256_schedule⟩⟩
  case threeSame =>
    simp only [List.forall_mem_cons]
    exact ⟨threeSameSha_completes (exec_sha1c f s) hr hQ hv, threeSameSha_completes (exec_sha1p f s) hr hQ hv,
      threeSameSha_completes (exec_sha1m f s) hr hQ hv, threeSameSha_completes (exec_sha1su0 f s) hr hQ hv,
      threeSameSha_completes (exec_sha256h f s) hr hQ hv, threeSameSha_completes (exec_sha256h2 f s) hr hQ hv,
      threeSameSha_completes (exec_sha256su1 f s) hr hQ hv, List.forall_mem_nil _⟩
  case aesRows =>
    simp only [List.forall_mem_cons]
    exact ⟨twoRegSha_completes (exec_aese f s) hr hz hd hm, twoRegSha_completes (exec_aesd f s) hr hz hd hm,
      twoRegSha_completes (op := fun _ m => aesMixColumns m) (exec_aesmc f s) hr hz hd hm,
      twoRegSha_completes (op := fun _ m => aesInvMixColumns m) (exec_aesimc f s) hr hz hd hm, List.forall_mem_nil _⟩
  case shaRows =>
    simp only [List.forall_mem_cons]
    exact ⟨twoRegSha_completes (op := fun _ m => sha1FixedRotate m) (exec_sha1h f s) hr hz hd hm,
      twoRegSha_completes (exec_sha1su1 f s) hr hz hd hm, twoRegSha_completes (exec_sha256su0 f s) hr hz hd hm,
      List.forall_mem_nil _⟩
  case substitution =>
    obtain ⟨hinv, hinv'⟩ := substitute_inverse x
    have hzero : affineInverse (substitute aesSubTable 0#8) = 0#8 := by decide +kernel
    exact ⟨hinv, hinv', affineInverse (substitute aesSubTable x), gf256Product_affineInverse x,
      fun h => h ▸ hzero, (affineInverse_affine _).symm⟩
  case mixColumns =>
    rw [aesMixColumns, aesInvMixColumns, byteOf_aesMix _ _ _ _ m hc hr, byteOf_aesMix _ _ _ _ m hc hr, ← hx]
    simp [mixedByte, gfMul_eq_gf256Product]
  case sha1 =>
    simp only [List.forall_mem_cons]
    exact ⟨fun h => sha1Update_eq_rounds (shaChoose_eq ▸ h), fun h => sha1Update_eq_rounds h,
      fun h => sha1Update_eq_rounds (shaMajority_eq ▸ h), List.forall_mem_nil _⟩
  case sha256 =>
    have hboth := sha256Rounds_eq_rounds hrounds
    exact ⟨congrArg Prod.fst hboth, congrArg Prod.snd hboth⟩

end Sys2Proof.Machine
end

section
/-! Floating-point lanes under the standard FPSCR value (rule R198): the fields of a lane, rounding to a format and
to an integer, and the statement about the rounding directions (rules R234 to R248, R360). -/

namespace Sys2Proof.Machine

/-! ## The format of a lane -/

/-- The widths of a floating-point lane (rule R196). -/
def FpWidth (e : Nat) : Prop := e = 16 ∨ e = 32

/-- The fraction field of a lane. -/
def fpFraction {e : Nat} (a : BitVec e) : Nat := a.toNat % 2 ^ fracBits e

theorem fracBits_eq (e : Nat) : fracBits e = if e = 16 then 10 else 23 := rfl

section
variable {e : Nat} (he : FpWidth e)
include he

theorem top_eq : 2 ^ expBits e - 1 = if e = 16 then 31 else 255 := by
  rcases he with rfl | rfl <;> rfl

theorem fields_width : fracBits e + expBits e = e - 1 := by rcases he with rfl | rfl <;> rfl

/-- The least exponent of a normal number, and the greatest exponent field of one. -/
theorem expBias_eq : expBias e = if e = 16 then 15 else 127 := by rcases he with rfl | rfl <;> rfl

theorem leastExponent_eq : 1 - expBias e = if e = 16 then -14 else -126 := by rcases he with rfl | rfl <;> rfl

/-- The exponent field of infinity is one more than twice the bias. -/
theorem top_eq_bias : ((2 ^ expBits e - 1 : Nat) : Int) = 2 * expBias e + 1 := by
  rcases he with rfl | rfl <;> rfl

end

/-- The fields of a lane as one number. -/
theorem fpPack_eq_signedBits (e : Nat) (sign : Bool) (biased frac : Nat) :
    fpPack e sign biased frac = signedBits e sign (biased * 2 ^ fracBits e + frac) := by
  rw [fpPack, signedBits, Nat.add_assoc]

theorem fpPack_zero (e : Nat) (sign : Bool) (fields : Nat) : fpPack e sign 0 fields = signedBits e sign fields := by
  rw [fpPack_eq_signedBits, Nat.zero_mul, Nat.zero_add]

theorem fpZero_eq (e : Nat) (sign : Bool) : fpZero e sign = signedBits e sign 0 := fpPack_zero e sign 0

theorem fpInfinity_eq_signedBits (e : Nat) (sign : Bool) :
    fpInfinity e sign = signedBits e sign ((2 ^ expBits e - 1) * 2 ^ fracBits e) := by
  rw [fpInfinity, fpPack_eq_signedBits, Nat.add_zero]

theorem fpInfinity_eq {e : Nat} (he : FpWidth e) (sign : Bool) : fpInfinity e sign = infinityBits e sign := by
  rw [fpInfinity_eq_signedBits, infinityBits]
  rcases he with rfl | rfl <;> rfl

theorem fpDefaultNaN_eq {e : Nat} (he : FpWidth e) : fpDefaultNaN e = defaultNaNBits e := by
  rcases he with rfl | rfl <;> rfl

/-! ## The nearest integer to a quotient, ties to even -/

/-- The quotient that `fpRound` chooses. -/
def nearestEvenQuotient (n unit : Nat) : Nat :=
  if decide (unit < 2 * (n % unit)) || (decide (unit = 2 * (n % unit)) && n / unit % 2 == 1) then n / unit + 1
  else n / unit

/-- It is nearest, even at a tie, and exact where nothing is lost. -/
theorem nearestEvenQuotient_spec {n unit : Nat} (hu : 0 < unit) :
    2 * ((nearestEvenQuotient n unit * unit : Nat) - (n : Int)).natAbs ≤ unit ∧
      (2 * ((nearestEvenQuotient n unit * unit : Nat) - (n : Int)).natAbs = unit → nearestEvenQuotient n unit % 2 = 0) ∧
      (nearestEvenQuotient n unit * unit = n ↔ n % unit = 0) := by
  have hdiv : n / unit * unit + n % unit = n := by rw [Nat.mul_comm]; exact Nat.div_add_mod n unit
  have hlt : n % unit < unit := Nat.mod_lt n hu
  unfold nearestEvenQuotient
  simp only [Bool.or_eq_true, Bool.and_eq_true, decide_eq_true_eq, beq_iff_eq]
  split
  · rw [Nat.add_mul, Nat.one_mul]
    generalize n / unit * unit = p at *
    omega
  · generalize n / unit * unit = p at *
    omega

/-! ## Rounding to a format -/

/-- `fpRound` with the quantities of `RoundsTo` by name: exponent `E`, unit `u`, the significand and the fields. -/
theorem fpRound_eq (e : Nat) (fmt : FpFormat) (sign : Bool) (m : Nat) (x E u : Int) (n unit fields : Nat)
    (hE : E = Nat.log2 m + x) (hu : u = max E (1 - expBias e) - fracBits e) (hn : n = m * 2 ^ (x - u).toNat)
    (hunit : unit = 2 ^ (u - x).toNat)
    (hfields : fields = (max E (1 - expBias e) - (1 - expBias e)).toNat * 2 ^ fracBits e + nearestEvenQuotient n unit) :
    fpRound e fmt sign m x =
      if fmt.flush = true ∧ E < 1 - expBias e then (signedBits e sign 0, flagUFC)
      else if fmt.alternative = true then
        if 2 ^ (expBits e + fracBits e) ≤ fields then (signedBits e sign (2 ^ (expBits e + fracBits e) - 1), flagIOC)
        else (signedBits e sign fields,
          flagIf (decide (E < 1 - expBias e) && n % unit != 0) flagUFC ||| flagIf (n % unit != 0) flagIXC)
      else if (2 ^ expBits e - 1) * 2 ^ fracBits e ≤ fields then
        (signedBits e sign ((2 ^ expBits e - 1) * 2 ^ fracBits e), flagOFC ||| flagIXC)
      else (signedBits e sign fields,
        flagIf (decide (E < 1 - expBias e) && n % unit != 0) flagUFC ||| flagIf (n % unit != 0) flagIXC) := by
  have hu' : u = (if E < 1 - expBias e then 1 - expBias e else E) - fracBits e := by rw [hu]; split <;> omega
  have hbiased : (max E (1 - expBias e) - (1 - expBias e)).toNat =
      if E < 1 - expBias e then 0 else (E - (1 - expBias e)).toNat := by split <;> omega
  rw [hbiased] at hfields
  subst hfields hunit hn hu' hE
  simp only [fpRound, fpZero_eq, fpPack_zero, fpInfinity_eq_signedBits, nearestEvenQuotient]
  rfl

/-- The flags of a rounded value: Inexact where something is lost, and then Underflow below the normal range. -/
theorem roundedFlags_eq {p : Prop} [Decidable p] {lost : Nat} {c : Prop} [Decidable c] (h : c ↔ lost = 0) :
    flagIf (decide p && lost != 0) flagUFC ||| flagIf (lost != 0) flagIXC =
      if c then 0#32 else if p then flagUFC ||| flagIXC else flagIXC := by
  by_cases hc : c
  · simp [hc, h.mp hc, flagIf]
  · have hlost : (lost != 0) = true := bne_iff_ne.mpr fun h0 => hc (h.mpr h0)
    by_cases hp : p <;> simp [hc, hlost, hp, flagIf]

/-- Rounding to a format gives the nearest value, ties to even (rule R198). -/
theorem fpRound_roundsTo {e : Nat} (he : FpWidth e) (fmt : FpFormat) (sign : Bool) (m : Nat) (x : Int) :
    RoundsTo fmt sign m x (fpRound e fmt sign m x) := by
  rintro F top least E u x0 rfl rfl rfl hE hu rfl
  rw [← fracBits_eq e, ← leastExponent_eq he] at *
  rw [← top_eq he]
  have hpow : (2 ^ expBits e - 1 + 1) * 2 ^ fracBits e = 2 ^ (expBits e + fracBits e) := by
    rw [Nat.sub_add_cancel Nat.one_le_two_pow, Nat.pow_add]
  rw [fpRound_eq e fmt sign m x E u _ _ _ hE hu rfl rfl rfl, hpow]
  generalize hn : m * 2 ^ (x - u).toNat = n
  have hunit : 0 < 2 ^ (u - x).toNat := Nat.two_pow_pos _
  generalize hw : 2 ^ (u - x).toNat = unit at *
  obtain ⟨hnear, htie, hexact⟩ := nearestEvenQuotient_spec (n := n) hunit
  refine ⟨fun hflush hlow => if_pos ⟨hflush, hlow⟩, fun hnormal => ?_⟩
  rw [if_neg hnormal]
  refine ⟨nearestEvenQuotient n unit, _, (nearestEvenQuotient n unit * unit : Nat), n, unit, ?_, ?_, by push_cast; rfl,
    rfl, by omega, fun h => htie (by omega), fun halt hfields => ?_, fun halt hfields => ?_, fun hfields => ?_⟩
  · rw [← hw, show u - min u x = ((u - x).toNat : Int) by omega]; push_cast; rfl
  · rw [← hn, show (x - min u x) = ((x - u).toNat : Int) by omega]; push_cast; rfl
  · rw [if_pos halt, if_pos hfields]
  · rw [if_neg (by simp [halt]), if_pos hfields]
  · rw [← roundedFlags_eq (by rw [Int.ofNat_inj]; exact hexact)]
    cases halt : fmt.alternative with
    | true =>
      rw [halt, if_pos rfl, hpow] at hfields
      rw [if_pos rfl, if_neg (Nat.not_le.mpr hfields)]
    | false =>
      rw [halt, if_neg Bool.false_ne_true] at hfields
      rw [if_neg Bool.false_ne_true, if_neg (Nat.not_le.mpr hfields)]

/-! ## The fields of a lane -/

/-- A lane taken apart by its exponent field: 0, all ones, or between. -/
theorem fpUnpack_eq {e : Nat} (a : BitVec e) :
    fpUnpack fpStandard a =
      if fpExponent a = 0 then
        ({ sign := a.msb, kind := .zero, m := 0, x := 0 }, flagIf (e == 32 && fpFraction a != 0) flagIDC)
      else if fpExponent a = 2 ^ expBits e - 1 then
        ({ sign := a.msb, m := 0, x := 0,
           kind := if fpFraction a = 0 then .infinity
             else if (fpFraction a).testBit (fracBits e - 1) then .quietNaN else .signallingNaN }, 0#32)
      else
        ({ sign := a.msb, kind := .nonzero, m := fpFraction a + 2 ^ fracBits e,
           x := fpExponent a - expBias e - fracBits e }, 0#32) := by
  unfold fpUnpack fpExponent fpFraction fpStandard
  dsimp only
  by_cases h0 : a.toNat / 2 ^ fracBits e % 2 ^ expBits e = 0
  · rw [if_pos h0, if_pos h0]
    by_cases hf : a.toNat % 2 ^ fracBits e = 0 <;> simp [hf, flagIf]
  · rw [if_neg h0, if_neg h0]
    by_cases htop : a.toNat / 2 ^ fracBits e % 2 ^ expBits e = 2 ^ expBits e - 1
    · rw [if_pos ⟨htop, rfl⟩, if_pos htop]
      split
      · rfl
      · split <;> rfl
    · rw [if_neg fun h => htop h.1, if_neg htop]

section
variable {e : Nat} (a : BitVec e)

theorem fpUnpack_sign : (fpUnpack fpStandard a).1.sign = a.msb := by
  rw [fpUnpack_eq]
  split
  · rfl
  · split <;> rfl

theorem fpUnpack_of_exponent_zero (h : fpExponent a = 0) : fpUnpack fpStandard a =
    ({ sign := a.msb, kind := .zero, m := 0, x := 0 }, flagIf (e == 32 && fpFraction a != 0) flagIDC) := by
  rw [fpUnpack_eq, if_pos h]

/-- The kinds by the exponent field. -/
theorem fpUnpack_kind_zero_iff : (fpUnpack fpStandard a).1.kind = .zero ↔ fpExponent a = 0 := by
  rw [fpUnpack_eq]
  split
  · next h0 => simp [h0]
  · next h0 =>
    simp only [h0, iff_false]
    split
    · dsimp only
      split
      · decide
      · split <;> decide
    · exact nofun

theorem fpUnpack_kind_nonzero_iff :
    (fpUnpack fpStandard a).1.kind = .nonzero ↔ fpExponent a ≠ 0 ∧ fpExponent a ≠ 2 ^ expBits e - 1 := by
  rw [fpUnpack_eq]
  split
  · simp [*]
  · split
    · simp only [*]
      split
      · simp
      · split <;> simp
    · simp [*]

/-- Only a flushed subnormal sets a flag. -/
theorem fpUnpack_flags_of_kind_ne_zero (h : (fpUnpack fpStandard a).1.kind ≠ .zero) :
    (fpUnpack fpStandard a).2 = 0#32 := by
  rw [Ne, fpUnpack_kind_zero_iff] at h
  rw [fpUnpack_eq, if_neg h]
  split <;> rfl

theorem fpUnpack_of_nonzero (h : (fpUnpack fpStandard a).1.kind = .nonzero) : fpUnpack fpStandard a =
    ({ sign := a.msb, kind := .nonzero, m := fpFraction a + 2 ^ fracBits e,
       x := fpExponent a - expBias e - fracBits e }, 0#32) := by
  obtain ⟨h0, htop⟩ := (fpUnpack_kind_nonzero_iff a).mp h
  rw [fpUnpack_eq, if_neg h0, if_neg htop]

theorem fpExponent_lt : fpExponent a < 2 ^ expBits e := Nat.mod_lt _ (Nat.two_pow_pos _)

theorem fpFraction_lt : fpFraction a < 2 ^ fracBits e := Nat.mod_lt _ (Nat.two_pow_pos _)

/-- The range of a normal number. -/
theorem fpUnpack_nonzero_range (he : FpWidth e) {u : FpNumber} (hu : u = (fpUnpack fpStandard a).1)
    (h : u.kind = .nonzero) :
    2 ^ fracBits e ≤ u.m ∧ u.m < 2 ^ (fracBits e + 1) ∧ 1 - expBias e ≤ u.x + fracBits e ∧
      u.x + fracBits e ≤ expBias e := by
  obtain ⟨h0, htop⟩ := (fpUnpack_kind_nonzero_iff a).mp (hu ▸ h)
  have hm : u.m = fpFraction a + 2 ^ fracBits e := by rw [hu, fpUnpack_of_nonzero a (hu ▸ h)]
  have hx : u.x = fpExponent a - expBias e - fracBits e := by rw [hu, fpUnpack_of_nonzero a (hu ▸ h)]
  have hf := fpFraction_lt a
  have hlt := fpExponent_lt a
  have hbias := top_eq_bias he
  rw [hm, hx, Nat.pow_succ]
  omega

end

/-! ## Packed lanes -/

section
variable {e : Nat} (sign : Bool) {fields : Nat}

theorem toNat_signedBits (he : 0 < e) (h : fields < 2 ^ (e - 1)) :
    (signedBits e sign fields).toNat = (if sign then 2 ^ (e - 1) else 0) + fields := by
  have hpow : 2 ^ e = 2 * 2 ^ (e - 1) := by rw [← Nat.pow_succ', Nat.succ_eq_add_one, Nat.sub_add_cancel he]
  rw [signedBits, BitVec.toNat_ofNat, Nat.mod_eq_of_lt]
  split <;> omega

theorem msb_signedBits (he : 0 < e) (h : fields < 2 ^ (e - 1)) : (signedBits e sign fields).msb = sign := by
  rw [BitVec.msb_eq_decide, toNat_signedBits sign he h]
  cases sign <;> simp [h]

end

section
variable {e : Nat} (he : FpWidth e)
include he

theorem FpWidth.pos : 0 < e := by rcases he with rfl | rfl <;> decide

theorem fields_pow : 2 ^ (e - 1) = 2 ^ fracBits e * 2 ^ expBits e := by
  rw [← fields_width he, Nat.pow_add]

/-- The fields of a lane are those below its sign. -/
theorem fpExponent_eq_mod (a : BitVec e) : fpExponent a = a.toNat % 2 ^ (e - 1) / 2 ^ fracBits e := by
  rw [fields_pow he, Nat.mod_mul_right_div_self, fpExponent]

theorem fpFraction_eq_mod (a : BitVec e) : fpFraction a = a.toNat % 2 ^ (e - 1) % 2 ^ fracBits e := by
  rw [fields_pow he, Nat.mod_mul_right_mod, fpFraction]

/-- A lane is its sign and its fields. -/
theorem eq_signedBits (a : BitVec e) :
    a = signedBits e a.msb (fpExponent a * 2 ^ fracBits e + fpFraction a) := by
  have hfields : fpExponent a * 2 ^ fracBits e + fpFraction a = a.toNat % 2 ^ (e - 1) := by
    rw [fpExponent_eq_mod he, fpFraction_eq_mod he, Nat.mul_comm, Nat.div_add_mod]
  have hlt : a.toNat % 2 ^ (e - 1) < 2 ^ (e - 1) := Nat.mod_lt _ (Nat.two_pow_pos _)
  have hpow : 2 ^ e = 2 * 2 ^ (e - 1) := by rw [← Nat.pow_succ', Nat.succ_eq_add_one, Nat.sub_add_cancel he.pos]
  have ha := a.isLt
  apply BitVec.eq_of_toNat_eq
  rw [hfields, toNat_signedBits _ he.pos hlt, BitVec.msb_eq_decide]
  split
  · next h =>
    have hge := of_decide_eq_true h
    rw [Nat.mod_eq_sub_mod hge, Nat.mod_eq_of_lt (by omega)]
    omega
  · next h => rw [Nat.mod_eq_of_lt (Nat.not_le.mp fun hle => h (decide_eq_true hle)), Nat.zero_add]

section
variable (sign : Bool) {ex fr : Nat} (hex : ex < 2 ^ expBits e) (hfr : fr < 2 ^ fracBits e)
include hex hfr

theorem fields_lt : ex * 2 ^ fracBits e + fr < 2 ^ (e - 1) := by
  have hle : (ex + 1) * 2 ^ fracBits e ≤ 2 ^ expBits e * 2 ^ fracBits e := Nat.mul_le_mul_right _ hex
  rw [fields_pow he, Nat.mul_comm (2 ^ fracBits e)]
  rw [Nat.add_mul, Nat.one_mul] at hle
  omega

theorem signedBits_mod : (signedBits e sign (ex * 2 ^ fracBits e + fr)).toNat % 2 ^ (e - 1) =
    ex * 2 ^ fracBits e + fr := by
  have hlt := fields_lt he hex hfr
  rw [toNat_signedBits sign he.pos hlt]
  cases sign
  · rw [if_neg Bool.false_ne_true, Nat.zero_add, Nat.mod_eq_of_lt hlt]
  · rw [if_pos rfl, Nat.add_mod_left, Nat.mod_eq_of_lt hlt]

theorem fpExponent_signedBits : fpExponent (signedBits e sign (ex * 2 ^ fracBits e + fr)) = ex := by
  rw [fpExponent_eq_mod he, signedBits_mod he sign hex hfr, Nat.mul_comm, Nat.mul_add_div (Nat.two_pow_pos _),
    Nat.div_eq_of_lt hfr, Nat.add_zero]

theorem fpFraction_signedBits : fpFraction (signedBits e sign (ex * 2 ^ fracBits e + fr)) = fr := by
  rw [fpFraction_eq_mod he, signedBits_mod he sign hex hfr, Nat.mul_comm, Nat.mul_add_mod, Nat.mod_eq_of_lt hfr]

theorem msb_signedBits_fields : (signedBits e sign (ex * 2 ^ fracBits e + fr)).msb = sign :=
  msb_signedBits sign he.pos (fields_lt he hex hfr)

end

/-- A packed normal number taken apart again. -/
theorem fpUnpack_signedBits_normal (sign : Bool) {biased q : Nat} (hq : 2 ^ fracBits e ≤ q)
    (hq' : q < 2 ^ (fracBits e + 1)) (hb : biased + 1 < 2 ^ expBits e - 1) :
    fpUnpack fpStandard (signedBits e sign (biased * 2 ^ fracBits e + q)) =
      ({ sign := sign, kind := .nonzero, m := q, x := biased + (1 - expBias e) - fracBits e }, 0#32) := by
  have hfields : biased * 2 ^ fracBits e + q = (biased + 1) * 2 ^ fracBits e + (q - 2 ^ fracBits e) := by
    rw [Nat.add_mul, Nat.one_mul]; omega
  have hex : biased + 1 < 2 ^ expBits e := by omega
  have hfr : q - 2 ^ fracBits e < 2 ^ fracBits e := by rw [Nat.pow_succ] at hq'; omega
  rw [hfields, fpUnpack_eq, fpExponent_signedBits he sign hex hfr, fpFraction_signedBits he sign hex hfr,
    msb_signedBits_fields he sign hex hfr, if_neg (Nat.succ_ne_zero _), if_neg (Nat.ne_of_lt hb),
    Nat.sub_add_cancel hq]
  congr 2
  omega

end

/-! ## Exact values -/

/-- The number has at most F + 1 significant bits. -/
def Significant (F n : Nat) : Prop := 2 ^ (Nat.log2 n - F) ∣ n

theorem significant_of_lt {F n : Nat} (h0 : n ≠ 0) (h : n < 2 ^ (F + 1)) : Significant F n := by
  have hlog : Nat.log2 n < F + 1 := (Nat.log2_lt h0).mpr h
  rw [Significant, Nat.sub_eq_zero_of_le (by omega), Nat.pow_zero]
  exact Nat.one_dvd n

theorem log2_mul_two_pow {n : Nat} (h0 : n ≠ 0) (k : Nat) : Nat.log2 (n * 2 ^ k) = Nat.log2 n + k := by
  have hpos : 0 < 2 ^ k := Nat.two_pow_pos k
  rw [Nat.log2_eq_iff (Nat.mul_ne_zero h0 (Nat.ne_of_gt hpos)), Nat.pow_add, Nat.add_right_comm, Nat.pow_add]
  exact ⟨Nat.mul_le_mul_right _ (Nat.log2_self_le h0), Nat.mul_lt_mul_of_pos_right Nat.lt_log2_self hpos⟩

theorem Significant.mul_two_pow {F n : Nat} (h0 : n ≠ 0) (h : Significant F n) (k : Nat) :
    Significant F (n * 2 ^ k) := by
  rw [Significant, log2_mul_two_pow h0]
  refine Nat.dvd_trans (Nat.pow_dvd_pow 2 (by omega : Nat.log2 n + k - F ≤ (Nat.log2 n - F) + k)) ?_
  rw [Nat.pow_add]
  exact Nat.mul_dvd_mul_right h _

/-- Its significand: F + 1 bits, the first of them 1. -/
theorem Significant.exists_significand {F n : Nat} (h0 : n ≠ 0) (h : Significant F n) :
    ∃ q, q * 2 ^ (Nat.log2 n - F) = n * 2 ^ (F - Nat.log2 n) ∧ 2 ^ F ≤ q ∧ q < 2 ^ (F + 1) := by
  have hlow : 2 ^ Nat.log2 n ≤ n := Nat.log2_self_le h0
  have hhigh : n < 2 ^ (Nat.log2 n + 1) := Nat.lt_log2_self
  rcases Nat.le_total F (Nat.log2 n) with hle | hle
  · obtain ⟨q, hq⟩ := h
    obtain ⟨k, hk⟩ := Nat.exists_eq_add_of_le hle
    rw [hk, Nat.add_sub_cancel_left] at hq
    have hpos : 0 < 2 ^ k := Nat.two_pow_pos k
    refine ⟨q, by rw [hk, Nat.add_sub_cancel_left, Nat.sub_eq_zero_of_le (by omega), Nat.pow_zero, Nat.mul_one,
      Nat.mul_comm, ← hq], ?_, ?_⟩
    · rw [hk, Nat.pow_add, Nat.mul_comm] at hlow
      exact Nat.le_of_mul_le_mul_left (hq ▸ hlow) hpos
    · rw [hk, Nat.add_right_comm, Nat.pow_add, Nat.mul_comm] at hhigh
      exact Nat.lt_of_mul_lt_mul_left (hq ▸ hhigh)
  · obtain ⟨k, hk⟩ := Nat.exists_eq_add_of_le hle
    refine ⟨n * 2 ^ k, by rw [Nat.sub_eq_zero_of_le hle, Nat.pow_zero, Nat.mul_one,
      show F - Nat.log2 n = k by omega], ?_, ?_⟩
    · calc 2 ^ F = 2 ^ Nat.log2 n * 2 ^ k := by rw [← Nat.pow_add, ← hk]
        _ ≤ n * 2 ^ k := Nat.mul_le_mul_right _ hlow
    · calc n * 2 ^ k < 2 ^ (Nat.log2 n + 1) * 2 ^ k := Nat.mul_lt_mul_of_pos_right hhigh (Nat.two_pow_pos k)
        _ = 2 ^ (F + 1) := by rw [← Nat.pow_add, Nat.add_right_comm, ← hk]

/-- Rounding a value of the format changes nothing: its significand, its lane without flags, and the
lane taken apart. -/
theorem fpRound_exact {e : Nat} (he : FpWidth e) (sign : Bool) {m : Nat} {x : Int} (hm : m ≠ 0)
    (hfit : Significant (fracBits e) m) (hlow : 1 - expBias e ≤ Nat.log2 m + x) (hhigh : Nat.log2 m + x ≤ expBias e) :
    ∃ q, q * 2 ^ (Nat.log2 m - fracBits e) = m * 2 ^ (fracBits e - Nat.log2 m) ∧ 2 ^ fracBits e ≤ q ∧
      q < 2 ^ (fracBits e + 1) ∧
      fpRound e fpStandard sign m x =
        (signedBits e sign ((Nat.log2 m + x - (1 - expBias e)).toNat * 2 ^ fracBits e + q), 0#32) ∧
      fpUnpack fpStandard (fpRound e fpStandard sign m x).1 =
        ({ sign := sign, kind := .nonzero, m := q, x := Nat.log2 m + x - fracBits e }, 0#32) := by
  obtain ⟨q, hq, hqlow, hqhigh⟩ := hfit.exists_significand hm
  have htop := top_eq_bias he
  have hmax : max (Nat.log2 m + x) (1 - expBias e) = Nat.log2 m + x := Int.max_eq_left hlow
  have hn : m * 2 ^ (x - (Nat.log2 m + x - fracBits e)).toNat = m * 2 ^ (fracBits e - Nat.log2 m) := by
    rw [show (x - (Nat.log2 m + x - fracBits e)).toNat = fracBits e - Nat.log2 m by omega]
  have hunit : 2 ^ (Nat.log2 m + x - fracBits e - x).toNat = 2 ^ (Nat.log2 m - fracBits e) := by
    rw [show (Nat.log2 m + x - fracBits e - x).toNat = Nat.log2 m - fracBits e by omega]
  have hpos : 0 < 2 ^ (Nat.log2 m - fracBits e) := Nat.two_pow_pos _
  have hlost : m * 2 ^ (fracBits e - Nat.log2 m) % 2 ^ (Nat.log2 m - fracBits e) = 0 := by
    rw [← hq, Nat.mul_mod_left]
  have hquot : nearestEvenQuotient (m * 2 ^ (fracBits e - Nat.log2 m)) (2 ^ (Nat.log2 m - fracBits e)) = q :=
    Nat.eq_of_mul_eq_mul_right hpos (((nearestEvenQuotient_spec hpos).2.2.mpr hlost).trans hq.symm)
  generalize hb : (Nat.log2 m + x - (1 - expBias e)).toNat = b
  have hround : fpRound e fpStandard sign m x = (signedBits e sign (b * 2 ^ fracBits e + q), 0#32) := by
    rw [fpRound_eq e fpStandard sign m x _ _ _ _ _ rfl rfl rfl rfl rfl, hmax, hn, hunit, hquot, hlost, hb,
      if_neg (by omega), if_neg (by decide), if_neg]
    · simp [flagIf]
    · have hle : (b + 2) * 2 ^ fracBits e ≤ (2 ^ expBits e - 1) * 2 ^ fracBits e := Nat.mul_le_mul_right _ (by omega)
      rw [Nat.add_mul] at hle
      rw [Nat.pow_succ] at hqhigh
      omega
  refine ⟨q, hq, hqlow, hqhigh, hround, ?_⟩
  rw [hround, fpUnpack_signedBits_normal he sign hqlow hqhigh (by omega)]
  rw [show (b : Int) + (1 - expBias e) - fracBits e = Nat.log2 m + x - fracBits e by omega]

/-! ## Rounding to an integer -/

/-- The direction adds one to the magnitude of the quotient. -/
def roundsUp (r : FpRounding) (sign : Bool) (unit q lost : Nat) : Bool :=
  match r with
  | .nearestEven => decide (unit < 2 * lost) || (decide (unit = 2 * lost) && q % 2 == 1)
  | .nearestAway => decide (unit ≤ 2 * lost)
  | .plusInfinity => !sign && lost != 0
  | .minusInfinity => sign && lost != 0
  | .towardZero => false

theorem fpToInt_of_nonneg (r : FpRounding) (sign : Bool) (m : Nat) {x : Int} (h : 0 ≤ x) :
    fpToInt r sign m x = ((if sign then -1 else 1) * ((m * 2 ^ x.toNat : Nat) : Int), false) := if_pos h

theorem fpToInt_of_neg (r : FpRounding) (sign : Bool) (m : Nat) {x : Int} (h : x < 0) :
    fpToInt r sign m x = ((if sign then -1 else 1) *
      ((if roundsUp r sign (2 ^ (-x).toNat) (m / 2 ^ (-x).toNat) (m % 2 ^ (-x).toNat) then m / 2 ^ (-x).toNat + 1
        else m / 2 ^ (-x).toNat : Nat) : Int), m % 2 ^ (-x).toNat != 0) := by
  rw [fpToInt, if_neg (by omega)]
  cases r <;> rfl

/-- The integer is the nearest of the direction, and a tie goes as the direction says. -/
theorem fpToInt_spec {sign : Bool} {m : Nat} {x : Int} {r : FpRounding} {i : Int} {inexact : Bool} {v scale : Int}
    (h : fpToInt r sign m x = (i, inexact)) (hscale : scale = 2 ^ (-x).toNat)
    (hv : v = (if sign then -(m : Int) else m) * 2 ^ x.toNat) :
    (inexact = false ↔ i * scale = v) ∧ (i * scale - v).natAbs < scale.natAbs ∧
      (r = .minusInfinity → i * scale ≤ v) ∧ (r = .plusInfinity → v ≤ i * scale) ∧
      (r = .towardZero → (i * scale).natAbs ≤ v.natAbs) ∧
      (r = .nearestEven ∨ r = .nearestAway → 2 * (i * scale - v).natAbs ≤ scale.natAbs) ∧
      (2 * (i * scale - v).natAbs = scale.natAbs →
        (r = .nearestEven → i % 2 = 0) ∧ (r = .nearestAway → v.natAbs < (i * scale).natAbs)) := by
  rcases Int.lt_or_le x 0 with hx | hx
  · rw [fpToInt_of_neg r sign m hx] at h
    obtain ⟨rfl, rfl⟩ := Prod.mk.inj h
    have hunit : 0 < 2 ^ (-x).toNat := Nat.two_pow_pos _
    have hscale' : scale = ((2 ^ (-x).toNat : Nat) : Int) := by rw [hscale]; push_cast; rfl
    have hv' : v = if sign then -(m : Int) else m := by
      rw [hv, show x.toNat = 0 by omega, Int.pow_zero, Int.mul_one]
    generalize 2 ^ (-x).toNat = unit at *
    have hdiv : m / unit * unit + m % unit = m := by rw [Nat.mul_comm]; exact Nat.div_add_mod m unit
    have hlt : m % unit < unit := Nat.mod_lt m hunit
    generalize m % unit = lost at *
    generalize hq : m / unit = q at *
    have hmul : ∀ k : Nat, ((if sign then -1 else 1) * (k : Int)) * scale =
        if sign then -((k * unit : Nat) : Int) else ((k * unit : Nat) : Int) := fun k => by
      rw [hscale', Int.natCast_mul]
      split
      · rw [Int.neg_mul, Int.one_mul, Int.neg_mul]
      · rw [Int.one_mul]
    have hsucc : (q + 1) * unit = q * unit + unit := by rw [Nat.add_mul, Nat.one_mul]
    rw [hmul, hscale']
    cases hup : roundsUp r sign unit q lost with
    | true =>
      simp only [if_true, hsucc]
      generalize q * unit = p at *
      cases r <;> cases sign <;> simp [roundsUp] at hup hv' ⊢ <;> omega
    | false =>
      simp only [Bool.false_eq_true, if_false]
      generalize q * unit = p at *
      cases r <;> cases sign <;> simp [roundsUp] at hup hv' ⊢ <;> omega
  · rw [fpToInt_of_nonneg r sign m hx] at h
    obtain ⟨rfl, rfl⟩ := Prod.mk.inj h
    have hscale' : scale = 1 := by rw [hscale, show (-x).toNat = 0 by omega, Int.pow_zero]
    have hv' : (if sign then -1 else 1) * ((m * 2 ^ x.toNat : Nat) : Int) * scale = v := by
      rw [hscale', hv, Int.mul_one]
      push_cast
      split
      · rw [Int.neg_mul, Int.one_mul, Int.neg_mul]
      · rw [Int.one_mul]
    rw [hv', hscale', Int.sub_self]
    simp

theorem natAbs_signed (sign : Bool) (n : Nat) : ((if sign then -1 else 1) * (n : Int)).natAbs = n := by
  split <;> simp

/-- The integer that a lane rounds to is a value of the lane's format. -/
theorem fpToInt_significant {e : Nat} (he : FpWidth e) {a : BitVec e} {u : FpNumber} {r : FpRounding} {i : Int}
    {inexact : Bool} (hu : u = (fpUnpack fpStandard a).1) (hk : u.kind = .nonzero)
    (h : fpToInt r u.sign u.m u.x = (i, inexact)) (hi : i ≠ 0) :
    Significant (fracBits e) i.natAbs ∧ (Nat.log2 i.natAbs : Int) ≤ expBias e := by
  obtain ⟨hlow, hhigh, -, hx'⟩ := fpUnpack_nonzero_range a he hu hk
  have hm : u.m ≠ 0 := Nat.ne_of_gt (Nat.lt_of_lt_of_le (Nat.two_pow_pos _) hlow)
  have hi' : i.natAbs ≠ 0 := Int.natAbs_ne_zero.mpr hi
  rcases Int.lt_or_le u.x 0 with hx | hx
  · rw [fpToInt_of_neg r u.sign u.m hx] at h
    obtain ⟨rfl, -⟩ := Prod.mk.inj h
    rw [natAbs_signed] at hi' ⊢
    have hle : u.m / 2 ^ (-u.x).toNat ≤ u.m / 2 :=
      Nat.div_le_div_left (Nat.le_pow (by omega)) (by decide)
    rw [Nat.pow_succ] at hhigh
    have hpos : 0 < 2 ^ fracBits e := Nat.two_pow_pos _
    have hlt : (if roundsUp r u.sign (2 ^ (-u.x).toNat) (u.m / 2 ^ (-u.x).toNat) (u.m % 2 ^ (-u.x).toNat) then
        u.m / 2 ^ (-u.x).toNat + 1 else u.m / 2 ^ (-u.x).toNat) < 2 ^ (fracBits e + 1) := by
      rw [Nat.pow_succ]; split <;> omega
    have hfrac : (fracBits e : Int) ≤ expBias e := by rcases he with rfl | rfl <;> decide
    have hlog := (Nat.log2_lt hi').mpr hlt
    exact ⟨significant_of_lt hi' hlt, by omega⟩
  · rw [fpToInt_of_nonneg r u.sign u.m hx] at h
    obtain ⟨rfl, -⟩ := Prod.mk.inj h
    rw [natAbs_signed, log2_mul_two_pow hm]
    have hlog := (Nat.log2_lt hm).mpr hhigh
    exact ⟨(significant_of_lt hm hhigh).mul_two_pow hm _, by omega⟩

/-! ## The operations that round to an integer, by the kind of their operand -/

theorem isNaN_iff {v : FpNumber} : v.isNaN = true ↔ v.kind = .quietNaN ∨ v.kind = .signallingNaN := by
  simp [FpNumber.isNaN]

section
variable {e : Nat} {a : BitVec e} {ua : FpNumber} {fa : Flags} (r : FpRounding) (U exact : Bool) (fbits : Nat)
  (hu : (ua, fa) = fpUnpack fpStandard a)
include hu

theorem flags_eq_zero (hk : ua.kind ≠ .zero) : fa = 0#32 := by
  have h := fpUnpack_flags_of_kind_ne_zero a
  rw [← hu] at h
  exact h hk

theorem fpToFixed_of_nonzero {i : Int} {inexact : Bool} (he : 0 < e) (hk : ua.kind = .nonzero)
    (hi : fpToInt r ua.sign ua.m (ua.x + fbits) = (i, inexact)) :
    laneInt U (fpToFixed r U fbits a).1 = clamp e U i ∧
      (fpToFixed r U fbits a).2 =
        flagIf (decide (i < satMin e U ∨ satMax e U < i)) flagIOC |||
          flagIf (inexact && decide (satMin e U ≤ i ∧ i ≤ satMax e U)) flagIXC := by
  have hresult : fpToFixed r U fbits a =
      if i < satMin e U then (wrapInt e (satMin e U), flagIOC)
      else if satMax e U < i then (wrapInt e (satMax e U), flagIOC) else (wrapInt e i, flagIf inexact flagIXC) := by
    simp only [fpToFixed, ← hu, hk, hi, Lane.also, flags_eq_zero hu (by simp [hk]), BitVec.or_zero]
  have hvalue : (fpToFixed r U fbits a).1 = (saturate e U i).1 := by
    rw [hresult, saturate]
    split
    · rfl
    · split <;> rfl
  refine ⟨by rw [hvalue, laneInt_saturate he], ?_⟩
  rw [hresult]
  split
  · next h => simp [flagIf, h, Int.not_le.mpr h]
  · next h =>
    split
    · next h' => simp [flagIf, h', Int.not_le.mpr h']
    · next h' => simp [flagIf, h, h', Int.not_lt.mp h, Int.not_lt.mp h']

theorem fpRoundInt_of_nonzero {i : Int} {inexact : Bool} (hk : ua.kind = .nonzero)
    (hi : fpToInt r ua.sign ua.m ua.x = (i, inexact)) :
    fpRoundInt r exact a =
      (if i = 0 then plain (signedBits e ua.sign 0) else fpRound e fpStandard (decide (i < 0)) i.natAbs 0).also
        (flagIf (exact && inexact) flagIXC) := by
  simp only [fpRoundInt, ← hu, hk, hi, Lane.also, flags_eq_zero hu (by simp [hk]), BitVec.or_zero, fpZero_eq]

theorem fpToFixed_of_zero (hk : ua.kind = .zero) : fpToFixed r U fbits a = (0, fa) := by
  simp [fpToFixed, ← hu, hk, Lane.also, plain]

theorem fpRoundInt_of_zero (hk : ua.kind = .zero) : fpRoundInt r exact a = (signedBits e ua.sign 0, fa) := by
  simp [fpRoundInt, ← hu, hk, Lane.also, plain, fpZero_eq]

theorem fpToFixed_of_infinity (hk : ua.kind = .infinity) :
    fpToFixed r U fbits a = (wrapInt e (if ua.sign then satMin e U else satMax e U), flagIOC) := by
  simp [fpToFixed, ← hu, hk, Lane.also, flags_eq_zero hu (by simp [hk])]

theorem fpRoundInt_of_infinity (he : FpWidth e) (hk : ua.kind = .infinity) :
    fpRoundInt r exact a = (infinityBits e ua.sign, 0#32) := by
  simp [fpRoundInt, ← hu, hk, Lane.also, flags_eq_zero hu (by simp [hk]), plain, fpInfinity_eq he]

theorem fpToFixed_of_nan (hk : ua.isNaN = true) : fpToFixed r U fbits a = (0, flagIOC) := by
  rcases isNaN_iff.mp hk with hk | hk <;>
    simp [fpToFixed, ← hu, hk, Lane.also, flags_eq_zero hu (by simp [hk])]

theorem fpRoundInt_of_nan (he : FpWidth e) (hk : ua.isNaN = true) :
    fpRoundInt r exact a = (defaultNaNBits e, flagIf (ua.kind == .signallingNaN) flagIOC) := by
  rcases isNaN_iff.mp hk with hk | hk <;>
    simp [fpRoundInt, ← hu, hk, Lane.also, flags_eq_zero hu (by simp [hk]), fpNaNResult, fpDefaultNaN_eq he]

end

theorem satMin_le_satMax (e : Nat) (U : Bool) : satMin e U ≤ satMax e U := by
  have h1 : (0 : Int) < 2 ^ (e - 1) := Int.pow_pos (by decide)
  have h2 : (0 : Int) < 2 ^ e := Int.pow_pos (by decide)
  unfold satMin satMax
  cases U
  · simp only [Bool.false_eq_true, if_false]; omega
  · simp only [if_true]; omega

/-- Settles O44: the direction by `fpToInt_spec`, the format by `fpRound_roundsTo`, and the rows by the kind of their
operand; the integer of a rounding row is a value of the format, so that rounding it again changes nothing. -/
theorem roundingDirections : Obligations.RoundingDirections := by
  refine ⟨fun _ _ _ _ _ _ _ _ h hscale hv => fpToInt_spec h hscale hv,
    fun _ fmt sign m x he _ => fpRound_roundsTo he fmt sign m x, ?_⟩
  intro e a ua ur fa r U exact fbits i inexact he hu
  refine ⟨fun hk hi => fpToFixed_of_nonzero r U fbits hu (FpWidth.pos he) hk hi, fun hk hi hur => ?nonzero,
    fun hk => ⟨fpToFixed_of_zero r U fbits hu hk, fpRoundInt_of_zero r exact hu hk⟩, fun hk => ?infinity,
    fun hk => ⟨fpToFixed_of_nan r U fbits hu hk, fpRoundInt_of_nan r exact hu he hk⟩⟩
  case infinity =>
    rw [fpToFixed_of_infinity r U fbits hu hk]
    refine ⟨?_, rfl, fpRoundInt_of_infinity r exact hu he hk⟩
    have hle := satMin_le_satMax e U
    split
    · exact laneInt_wrapInt (FpWidth.pos he) U _ (Int.le_refl _) hle
    · exact laneInt_wrapInt (FpWidth.pos he) U _ hle (Int.le_refl _)
  case nonzero =>
    have hrow := fpRoundInt_of_nonzero r exact hu hk hi
    by_cases h0 : i = 0
    · rw [if_pos h0] at hrow
      exact ⟨fun _ => by rw [hrow]; rfl, fun h => absurd h0 h, by rw [hrow]; simp [Lane.also, plain]⟩
    · rw [if_neg h0] at hrow
      obtain ⟨hfit, hlog⟩ := fpToInt_significant he (congrArg Prod.fst hu) hk hi h0
      have hn : i.natAbs ≠ 0 := Int.natAbs_ne_zero.mpr h0
      have hleast : 1 - expBias e ≤ 0 := by rcases he with rfl | rfl <;> decide
      obtain ⟨q, hq, -, -, hround, hunpack⟩ :=
        fpRound_exact he (decide (i < 0)) (x := 0) hn hfit (by omega) (by omega)
      rw [hrow, Lane.also, hunpack, Int.add_zero] at hur
      refine ⟨fun h => absurd h h0, fun _ => ?_, by rw [hrow, Lane.also, hround, BitVec.zero_or]⟩
      subst hur
      refine ⟨rfl, ?_⟩
      have hvalue : q * 2 ^ ((Nat.log2 i.natAbs : Int) - fracBits e -
            min ((Nat.log2 i.natAbs : Int) - fracBits e) 0).toNat =
          i.natAbs * 2 ^ (-min ((Nat.log2 i.natAbs : Int) - fracBits e) 0).toNat := by
        rw [show ((Nat.log2 i.natAbs : Int) - fracBits e - min ((Nat.log2 i.natAbs : Int) - fracBits e) 0).toNat =
          Nat.log2 i.natAbs - fracBits e by omega, hq,
          show (-min ((Nat.log2 i.natAbs : Int) - fracBits e) 0).toNat = fracBits e - Nat.log2 i.natAbs by omega]
      dsimp only
      rw [FpNumber.inUnits]
      dsimp only
      have hsigned : (if decide (i < 0) then -1 else 1) * (i.natAbs : Int) = i := by
        by_cases hneg : i < 0
        · rw [if_pos (decide_eq_true hneg)]; omega
        · rw [if_neg (by simpa using hneg)]; omega
      rw [hvalue, Int.natCast_mul, ← Int.mul_assoc, hsigned, Int.natCast_pow]
      rfl

end Sys2Proof.Machine
end

section
/-! Floating-point arithmetic on lanes (rules R121 to R126, R138 to R142, R160 to R165, R173 to R177, R198): sums and
products of numbers by the kind of their operands, and the statement about the floating-point rows of "three registers
of the same length". -/

namespace Sys2Proof.Machine

/-! ## Sums of numbers -/

/-- An exact sum with further flags. -/
theorem GivesSum.also {e : Nat} {total x0 : Int} {zero : BitVec e} {r : Lane e} (h : GivesSum total x0 zero 0#32 r)
    (fl : Flags) : GivesSum total x0 zero fl (r.also fl) := by
  refine ⟨fun h0 => ?_, fun h0 => ?_⟩
  · rw [h.1 h0, Lane.also, BitVec.zero_or]
  · obtain ⟨v, hv, rfl⟩ := h.2 h0
    exact ⟨v, hv, by rw [Lane.also, BitVec.or_zero]⟩

theorem FpNumber.inUnits_neg (v : FpNumber) (x0 : Int) : v.neg.inUnits x0 = -v.inUnits x0 := by
  unfold FpNumber.inUnits FpNumber.neg
  cases v.sign <;> simp

theorem FpNumber.inUnits_of_zero {v : FpNumber} (h : v.m = 0) (x0 : Int) : v.inUnits x0 = 0 := by
  simp [FpNumber.inUnits, h]

theorem fpSum_eq (e halve : Nat) (a b : FpNumber) {x0 total : Int} (hx0 : x0 = min a.x b.x)
    (htotal : total = a.inUnits x0 + b.inUnits x0) :
    fpSum e halve a b =
      if total = 0 then plain (signedBits e false 0)
      else fpRound e fpStandard (decide (total < 0)) total.natAbs (x0 - halve) := by
  rw [Int.min_def] at hx0
  subst htotal hx0
  rw [← fpZero_eq]
  rfl

/-- A sum of numbers, where two zeros of one sign (`z`) keep it: exact, rounded once. -/
theorem fpSum_givesSum {e : Nat} (he : FpWidth e) (halve : Nat) {a b : FpNumber} {x0 total : Int} {z : Prop}
    [Decidable z] (hx0 : x0 = min a.x b.x) (htotal : total = a.inUnits x0 + b.inUnits x0)
    (hz : z → a.m = 0 ∧ b.m = 0) :
    GivesSum total (x0 - halve) (signedBits e (decide z && a.sign && b.sign) 0) 0#32
      (if z ∧ a.sign = b.sign then plain (fpZero e a.sign) else fpSum e halve a b) := by
  split
  · next h =>
    obtain ⟨hzero, hsign⟩ := h
    obtain ⟨ha, hb⟩ := hz hzero
    have h0 : total = 0 := by rw [htotal, a.inUnits_of_zero ha, b.inUnits_of_zero hb, Int.add_zero]
    refine ⟨fun _ => ?_, fun hne => absurd h0 hne⟩
    simp [plain, fpZero_eq, hzero, ← hsign]
  · next h =>
    have hminus : (decide z && a.sign && b.sign) = false := by
      refine Bool.eq_false_iff.mpr fun hc => ?_
      simp only [Bool.and_eq_true, decide_eq_true_eq] at hc
      obtain ⟨⟨hzero, ha⟩, hb⟩ := hc
      exact h ⟨hzero, ha.trans hb.symm⟩
    rw [fpSum_eq e halve a b hx0 htotal, hminus]
    refine ⟨fun h0 => if_pos h0, fun h0 => ?_⟩
    rw [if_neg h0]
    exact ⟨_, fpRound_roundsTo he _ _ _ _, by rw [BitVec.or_zero]⟩

theorem FpNumber.Finite.not_nan {v : FpNumber} (h : v.Finite) : v.isNaN = false := by
  rcases h with h | h <;> simp [FpNumber.isNaN, h]

theorem FpNumber.Finite.not_infinity {v : FpNumber} (h : v.Finite) : v.kind ≠ .infinity := by
  rcases h with h | h <;> simp [h]

theorem FpNumber.Finite.neg {v : FpNumber} (h : v.Finite) : v.neg.Finite := h

/-- A sum of finite numbers. -/
theorem fpAddNumbers_givesSum {e : Nat} (he : FpWidth e) (halve : Nat) {a b : FpNumber} (ha : a.Finite) (hb : b.Finite)
    (hza : a.kind = .zero → a.m = 0) (hzb : b.kind = .zero → b.m = 0) {x0 total : Int} (hx0 : x0 = min a.x b.x)
    (htotal : total = a.inUnits x0 + b.inUnits x0) :
    GivesSum total (x0 - halve) (signedBits e (a.kind == .zero && b.kind == .zero && a.sign && b.sign) 0) 0#32
      (fpAddNumbers e halve a b) := by
  have hsum : fpAddNumbers e halve a b =
      if (a.kind = .zero ∧ b.kind = .zero) ∧ a.sign = b.sign then plain (fpZero e a.sign) else fpSum e halve a b := by
    simp [fpAddNumbers, ha.not_nan, hb.not_nan, ha.not_infinity, hb.not_infinity, and_assoc]
  have hz : (a.kind == .zero && b.kind == .zero) = decide (a.kind = .zero ∧ b.kind = .zero) := by
    rw [Bool.decide_and]; rfl
  rw [hsum, hz]
  exact fpSum_givesSum he halve hx0 htotal fun ⟨h1, h2⟩ => ⟨hza h1, hzb h2⟩

/-! ## The operations on lanes taken apart -/

section
variable {e : Nat} {a b c : BitVec e} {ua ub uc : FpNumber} {fa fb fc : Flags}

theorem unpacked_zero (hua : (ua, fa) = fpUnpack fpStandard a) (h : ua.kind = .zero) : ua.m = 0 ∧ ua.x = 0 := by
  obtain rfl : ua = (fpUnpack fpStandard a).1 := congrArg Prod.fst hua
  rw [fpUnpack_of_exponent_zero a ((fpUnpack_kind_zero_iff a).mp h)]
  exact ⟨rfl, rfl⟩

theorem unpacked_nonzero (he : FpWidth e) (hua : (ua, fa) = fpUnpack fpStandard a) (h : ua.kind = .nonzero) :
    ua.m ≠ 0 :=
  Nat.ne_of_gt (Nat.lt_of_lt_of_le (Nat.two_pow_pos _) (fpUnpack_nonzero_range a he (congrArg Prod.fst hua) h).1)

/-- Of the finite numbers only zero has no magnitude. -/
theorem unpacked_m_eq_zero_iff (he : FpWidth e) (hua : (ua, fa) = fpUnpack fpStandard a) (h : ua.Finite) :
    ua.m = 0 ↔ ua.kind = .zero := by
  refine ⟨fun hm => ?_, fun hk => (unpacked_zero hua hk).1⟩
  rcases h with hk | hk
  · exact hk
  · exact absurd hm (unpacked_nonzero he hua hk)

variable (hua : (ua, fa) = fpUnpack fpStandard a) (hub : (ub, fb) = fpUnpack fpStandard b)
include hua hub

theorem fpAdd_eq : fpAdd a b = (fpAddNumbers e 0 ua ub).also (fa ||| fb) := by
  rw [fpAdd, ← hua, ← hub]

theorem fpSub_eq : fpSub a b = (fpAddNumbers e 0 ua ub.neg).also (fa ||| fb) := by
  rw [fpSub, ← hua, ← hub]

theorem fpHalvedSub_eq : fpHalvedSub a b = (fpAddNumbers e 1 ua ub.neg).also (fa ||| fb) := by
  rw [fpHalvedSub, ← hua, ← hub]

theorem fpAdd_givesSum (he : FpWidth e) (ha : ua.Finite) (hb : ub.Finite) :
    GivesSum (ua.inUnits (min ua.x ub.x) + ub.inUnits (min ua.x ub.x)) (min ua.x ub.x)
      (signedBits e (ua.kind == .zero && ub.kind == .zero && ua.sign && ub.sign) 0) (fa ||| fb) (fpAdd a b) := by
  rw [fpAdd_eq hua hub]
  have hsum := fpAddNumbers_givesSum he 0 ha hb (fun h => (unpacked_zero hua h).1) (fun h => (unpacked_zero hub h).1)
    rfl rfl
  rw [Int.natCast_zero, Int.sub_zero] at hsum
  exact hsum.also _

/-- A difference of finite numbers, halved or not. -/
theorem fpDifference_givesSum (he : FpWidth e) (halve : Nat) (ha : ua.Finite) (hb : ub.Finite) :
    GivesSum (ua.inUnits (min ua.x ub.x) - ub.inUnits (min ua.x ub.x)) (min ua.x ub.x - halve)
      (signedBits e (ua.kind == .zero && ub.kind == .zero && ua.sign && !ub.sign) 0) (fa ||| fb)
      ((fpAddNumbers e halve ua ub.neg).also (fa ||| fb)) :=
  (fpAddNumbers_givesSum he halve ha hb.neg (fun h => (unpacked_zero hua h).1) (fun h => (unpacked_zero hub h).1) rfl
    (by rw [FpNumber.inUnits_neg, Int.sub_eq_add_neg]; rfl)).also _

theorem fpSub_givesSum (he : FpWidth e) (ha : ua.Finite) (hb : ub.Finite) :
    GivesSum (ua.inUnits (min ua.x ub.x) - ub.inUnits (min ua.x ub.x)) (min ua.x ub.x)
      (signedBits e (ua.kind == .zero && ub.kind == .zero && ua.sign && !ub.sign) 0) (fa ||| fb) (fpSub a b) := by
  have hsum := fpDifference_givesSum hua hub he 0 ha hb
  rwa [Int.natCast_zero, Int.sub_zero, ← fpSub_eq hua hub] at hsum

/-- The product of two nonzero finite numbers. -/
theorem fpMul_of_nonzero (ha : ua.kind = .nonzero) (hb : ub.kind = .nonzero) :
    fpMul a b = fpRound e fpStandard (ua.sign != ub.sign) (ua.m * ub.m) (ua.x + ub.x) := by
  simp [fpMul, ← hua, ← hub, ha, hb, FpNumber.isNaN, Lane.also, flags_eq_zero hua (by simp [ha]),
    flags_eq_zero hub (by simp [hb])]

/-- The product of finite numbers, one of them zero. -/
theorem fpMul_of_zero (ha : ua.Finite) (hb : ub.Finite) (hz : ua.kind = .zero ∨ ub.kind = .zero) :
    fpMul a b = (signedBits e (ua.sign != ub.sign) 0, fa ||| fb) := by
  simp [fpMul, ← hua, ← hub, ha.not_nan, hb.not_nan, ha.not_infinity, hb.not_infinity, hz, Lane.also, plain,
    fpZero_eq]

/-- The fused sum of finite numbers. -/
theorem fpMulAdd_givesSum (he : FpWidth e) (huc : (uc, fc) = fpUnpack fpStandard c) (hc : uc.Finite) (ha : ua.Finite)
    (hb : ub.Finite) {p : FpNumber}
    (hp : p = { sign := ua.sign != ub.sign, kind := .nonzero, m := ua.m * ub.m, x := ua.x + ub.x }) :
    GivesSum (uc.inUnits (min uc.x p.x) + p.inUnits (min uc.x p.x)) (min uc.x p.x)
      (signedBits e (uc.kind == .zero && p.m == 0 && uc.sign && p.sign) 0) (fc ||| fa ||| fb) (fpMulAdd c a b) := by
  have hpm : p.m = 0 ↔ ua.kind = .zero ∨ ub.kind = .zero := by
    rw [hp, Nat.mul_eq_zero, unpacked_m_eq_zero_iff he hua ha, unpacked_m_eq_zero_iff he hub hb]
  have hz : (uc.kind == .zero && p.m == 0) = decide (uc.kind = .zero ∧ p.m = 0) := by
    rw [Bool.decide_and]; rfl
  have hfused : fpMulAdd c a b =
      (if (uc.kind = .zero ∧ p.m = 0) ∧ uc.sign = p.sign then plain (fpZero e uc.sign) else fpSum e 0 uc p).also
        (fc ||| fa ||| fb) := by
    simp only [hpm]
    rw [hp]
    simp [fpMulAdd, ← hua, ← hub, ← huc, ha.not_nan, hb.not_nan, hc.not_nan, ha.not_infinity, hb.not_infinity,
      hc.not_infinity, and_assoc]
  have hsum := fpSum_givesSum he 0 (a := uc) (b := p) (z := uc.kind = .zero ∧ p.m = 0) rfl rfl
    fun ⟨h1, h2⟩ => ⟨(unpacked_zero huc h1).1, h2⟩
  rw [Int.natCast_zero, Int.sub_zero] at hsum
  rw [hfused, hz]
  exact hsum.also _

end

/-! ## A lane with the other sign -/

theorem toNat_fpNeg_mod {e : Nat} (he : 0 < e) (a : BitVec e) :
    (fpNeg a).toNat % 2 ^ (e - 1) = a.toNat % 2 ^ (e - 1) := by
  have hlt : 2 ^ (e - 1) < 2 ^ e := Nat.pow_lt_pow_right (by decide) (by omega)
  rw [fpNeg, BitVec.toNat_xor, BitVec.toNat_ofNat, Nat.mod_eq_of_lt hlt, Nat.xor_mod_two_pow, Nat.mod_self,
    Nat.xor_zero]

theorem msb_fpNeg {e : Nat} (he : 0 < e) (a : BitVec e) : (fpNeg a).msb = !a.msb := by
  rw [BitVec.msb_eq_getLsbD_last, getLsbD_fpNeg a (by omega), if_pos rfl, BitVec.msb_eq_getLsbD_last]

theorem fpUnpack_fpNeg {e : Nat} (he : FpWidth e) (a : BitVec e) :
    fpUnpack fpStandard (fpNeg a) = ((fpUnpack fpStandard a).1.neg, (fpUnpack fpStandard a).2) := by
  have hex : fpExponent (fpNeg a) = fpExponent a := by
    rw [fpExponent_eq_mod he, fpExponent_eq_mod he, toNat_fpNeg_mod he.pos]
  have hfr : fpFraction (fpNeg a) = fpFraction a := by
    rw [fpFraction_eq_mod he, fpFraction_eq_mod he, toNat_fpNeg_mod he.pos]
  rw [fpUnpack_eq, fpUnpack_eq, hex, hfr, msb_fpNeg he.pos]
  split
  · rfl
  · split <;> rfl

/-- Adding a number with the other sign is subtracting it. -/
theorem fpAdd_fpNeg {e : Nat} (he : FpWidth e) (a b : BitVec e) : fpAdd a (fpNeg b) = fpSub a b := by
  rw [fpAdd, fpUnpack_fpNeg he]
  rfl

/-! ## The rows -/

theorem noHalf_eq_false {half : Bool} {s : State} (h : half = true → s.params.haveFp16 = true) :
    noHalf half s = false := by
  cases half with
  | false => rfl
  | true => simp [noHalf, h rfl]

/-- The row shape `threeSameFpPairs`. -/
theorem threeSameFpPairs_flagged {i : Instr} {s : State} {f : FThreeSame} {undef : Bool}
    {op : (e : Nat) → BitVec e → BitVec e → Lane e} (he : exec i s = threeSameFpPairs f undef op s)
    (hu : (undef || noHalf f.half s) = false) (hr : s.SimdReady)
    (hw : ∀ e (x y : BitVec e), (op e x y).Within fpFlags) :
    GivesFlaggedLanes i s fpFlags (fpSize f.half) f.d 1
      (fun j => op _ (pairSource s (fpSize f.half) f.n f.m (2 * j))
        (pairSource s (fpSize f.half) f.n f.m (2 * j + 1))) :=
  pairs_flagged (laneWidth_fpSize _) he hu hr (vreg_lt f.D f.Vd) (hw _)

/-- Settles O34: each row is its shape, and each operation on finite operands an exact sum or product rounded once. -/
theorem floatingRegisterRows : Obligations.FloatingRegisterRows := by
  refine ⟨?lanes, ?accumulatedAndPairs, ?values⟩
  case lanes =>
    rintro f s _ hr hv hhalf rfl
    have hu := noHalf_eq_false hhalf
    simp only [List.forall_mem_cons]
    exact ⟨
      threeSameFp_flagged (exec_vaddFp f s) hu hr hv fun _ _ _ => fpAdd_within _ _,
      threeSameFp_flagged (exec_vsubFp f s) hu hr hv fun _ _ _ => fpSub_within _ _,
      threeSameFp_flagged (exec_vmulFp f s) hu hr hv fun _ _ _ => fpMul_within _ _,
      threeSameFp_flagged (exec_vabdFp f s) hu hr hv fun _ _ _ => fpAbsDiff_within _ _,
      threeSameFp_flagged (exec_vmaxFp f s) hu hr hv fun _ _ _ => fpMaxMin_within _ _ _,
      threeSameFp_flagged (exec_vminFp f s) hu hr hv fun _ _ _ => fpMaxMin_within _ _ _,
      threeSameFp_flagged (exec_vmaxnm f s) hu hr hv fun _ _ _ => fpMaxMinNum_within _ _ _,
      threeSameFp_flagged (exec_vminnm f s) hu hr hv fun _ _ _ => fpMaxMinNum_within _ _ _,
      threeSameFp_flagged (exec_vrecps f s) hu hr hv fun _ _ _ => fpStep_within _ _ _,
      threeSameFp_flagged (exec_vrsqrts f s) hu hr hv fun _ _ _ => fpStep_within _ _ _,
      threeSameFp_flagged (exec_vceqRegA2 f s) hu hr hv fun _ _ _ => fpCompare_within _ _ _,
      threeSameFp_flagged (exec_vcgeRegA2 f s) hu hr hv fun _ _ _ => fpCompare_within _ _ _,
      threeSameFp_flagged (exec_vcgtRegA2 f s) hu hr hv fun _ _ _ => fpCompare_within _ _ _,
      threeSameFp_flagged (exec_vacge f s) hu hr hv fun _ _ _ => fpCompare_within _ _ _,
      threeSameFp_flagged (exec_vacgt f s) hu hr hv fun _ _ _ => fpCompare_within _ _ _,
      List.forall_mem_nil _⟩
  case accumulatedAndPairs =>
    rintro f s _ hr hhalf rfl
    have hu := noHalf_eq_false hhalf
    simp only [List.forall_mem_cons]
    refine ⟨fun hv => ⟨
      threeSameFpAcc_flagged (exec_vfma f s) hu hr hv fun _ _ _ _ => fpMulAdd_within _ _ _,
      threeSameFpAcc_flagged (exec_vfms f s) hu hr hv fun _ _ _ _ => fpMulSub_within _ _ _,
      threeSameFpAcc_flagged (exec_vmlaFp f s) hu hr hv fun _ _ _ _ => fpMulThenAdd_within _ _ _ _,
      threeSameFpAcc_flagged (exec_vmlsFp f s) hu hr hv fun _ _ _ _ => fpMulThenAdd_within _ _ _ _,
      List.forall_mem_nil _⟩, fun hQ => ?_⟩
    have hpairs : (isSet f.Q || noHalf f.half s) = false := by simp [isSet, hQ, hu]
    exact ⟨
      threeSameFpPairs_flagged (exec_vpaddFp f s) hpairs hr fun _ _ _ => fpAdd_within _ _,
      threeSameFpPairs_flagged (exec_vpmaxFp f s) hu hr fun _ _ _ => fpMaxMin_within _ _ _,
      threeSameFpPairs_flagged (exec_vpminFp f s) hu hr fun _ _ _ => fpMaxMin_within _ _ _,
      List.forall_mem_nil _⟩
  case values =>
    intro e acc a b uc ua ub p fc fa fb he huc hua hub
    refine ⟨fun hc ha hb hp => ⟨fpAdd_givesSum hua hub he ha hb, fpSub_givesSum hua hub he ha hb, fun hm => ?product,
      fun hm => ?zeroProduct, fpMulAdd_givesSum hua hub he huc hc ha hb hp⟩, rfl, rfl, ?_, rfl,
      fun k hk => getLsbD_fpAbs _ hk⟩
    case product =>
      subst hp
      obtain ⟨hma, hmb⟩ := Nat.mul_ne_zero_iff.mp hm
      have hka := ha.resolve_left (mt (unpacked_m_eq_zero_iff he hua ha).mpr hma)
      have hkb := hb.resolve_left (mt (unpacked_m_eq_zero_iff he hub hb).mpr hmb)
      rw [fpMul_of_nonzero hua hub hka hkb]
      exact fpRound_roundsTo he _ _ _ _
    case zeroProduct =>
      subst hp
      rw [Nat.mul_eq_zero, unpacked_m_eq_zero_iff he hua ha, unpacked_m_eq_zero_iff he hub hb] at hm
      exact fpMul_of_zero hua hub ha hb hm
    rw [fpMulThenAdd, if_pos rfl, fpAdd_fpNeg he]
    rfl

end Sys2Proof.Machine
end

section
/-! Conversions between precisions and with fixed point (rules R238, R240, R265, R360, R375). -/

namespace Sys2Proof.Machine

/-! ## To half precision, by the kind of the operand -/

section
variable (ahp : Bool) {a : BitVec 32} {ua : FpNumber} (hua : ua = (fpUnpack fpStandard a).1)
include hua

theorem fpToHalf_of_zero (hk : ua.kind = .zero) : (fpToHalf ahp a).1 = signedBits 16 ua.sign 0 := by
  simp [fpToHalf, ← hua, hk, Lane.also, plain, fpZero_eq]

/-- Only zero is read with a flag. -/
theorem fpToHalf_of_nonzero (hk : ua.kind = .nonzero) :
    fpToHalf ahp a = fpRound 16 (fpHalfConvert ahp) ua.sign ua.m ua.x := by
  simp [fpToHalf, ← hua, hk, Lane.also, fpUnpack_flags_of_kind_ne_zero a (by simp [← hua, hk])]

theorem fpToHalf_of_infinity (hk : ua.kind = .infinity) :
    fpToHalf ahp a = if ahp then (signedBits 16 ua.sign 0x7FFF, flagIOC) else (signedBits 16 ua.sign 0x7C00, 0#32) := by
  have hinf : fpInfinity 16 ua.sign = signedBits 16 ua.sign 0x7C00 := fpInfinity_eq (.inl rfl) _
  have hflags := fpUnpack_flags_of_kind_ne_zero a (by simp [← hua, hk])
  cases ahp <;> simp [fpToHalf, ← hua, hk, Lane.also, hflags, plain, hinf, fpPack_zero]

theorem fpToHalf_of_nan (hk : ua.isNaN = true) :
    fpToHalf ahp a =
      (if ahp then signedBits 16 ua.sign 0 else 0x7E00#16, flagIf (ahp || ua.kind == .signallingNaN) flagIOC) := by
  have hnan : fpDefaultNaN 16 = 0x7E00#16 := by decide
  rcases isNaN_iff.mp hk with hk | hk <;>
    simp [fpToHalf, ← hua, hk, Lane.also, fpUnpack_flags_of_kind_ne_zero a (by simp [← hua, hk]), hnan, fpZero_eq]

end

theorem getLsbD_flagIOC (b : Bool) : (flagIf b flagIOC).getLsbD 0 = true ↔ b = true := by
  cases b <;> decide

/-! ## From half precision -/

/-- A half-precision lane taken apart for a conversion: subnormals keep their value. -/
theorem fpUnpack_half (ahp : Bool) (a : BitVec 16) {ex fr : Nat} (hex : ex = a.toNat / 2 ^ 10 % 32)
    (hfr : fr = a.toNat % 2 ^ 10) :
    fpUnpack (fpHalfConvert ahp) a =
      if ex = 0 then
        if fr = 0 then ({ sign := a.msb, kind := .zero, m := 0, x := 0 }, 0#32)
        else ({ sign := a.msb, kind := .nonzero, m := fr, x := -24 }, 0#32)
      else if ex = 31 ∧ ahp = false then
        if fr = 0 then ({ sign := a.msb, kind := .infinity, m := 0, x := 0 }, 0#32)
        else if fr.testBit 9 then ({ sign := a.msb, kind := .quietNaN, m := 0, x := 0 }, 0#32)
        else ({ sign := a.msb, kind := .signallingNaN, m := 0, x := 0 }, 0#32)
      else ({ sign := a.msb, kind := .nonzero, m := fr + 2 ^ 10, x := ex - 15 - 10 }, 0#32) := by
  subst hex hfr
  rfl

/-- A significand of eleven bits is a value of single precision. -/
theorem fpRound_single_exact (sign : Bool) {m : Nat} {x : Int} (hm : m ≠ 0) (hlt : m < 2 ^ 11) (hlow : -24 ≤ x)
    (hhigh : x ≤ 6) {ur : FpNumber} (hur : ur = (fpUnpack fpStandard (fpRound 32 fpStandard sign m x).1).1) :
    (fpRound 32 fpStandard sign m x).2 = 0#32 ∧ ur.sign = sign ∧ ur.kind = .nonzero ∧
      ur.m * 2 ^ (ur.x + 149).toNat = m * 2 ^ (x + 149).toNat := by
  have hlog : Nat.log2 m < 11 := (Nat.log2_lt hm).mpr hlt
  have hbias : expBias 32 = 127 := rfl
  have hfrac : fracBits 32 = 23 := rfl
  obtain ⟨q, hq, -, -, hround, hunpack⟩ := fpRound_exact (e := 32) (.inr rfl) sign (x := x) hm
    (significant_of_lt hm (Nat.lt_of_lt_of_le hlt (by decide))) (by omega) (by omega)
  rw [hunpack] at hur
  subst hur
  refine ⟨by rw [hround], rfl, rfl, ?_⟩
  rw [hfrac] at hq ⊢
  rw [Nat.sub_eq_zero_of_le (by omega), Nat.pow_zero, Nat.mul_one] at hq
  calc q * 2 ^ (Nat.log2 m + x - (23 : Nat) + 149).toNat
      = m * (2 ^ (23 - Nat.log2 m) * 2 ^ (Nat.log2 m + x - (23 : Nat) + 149).toNat) := by rw [hq, Nat.mul_assoc]
    _ = m * 2 ^ (x + 149).toNat := by rw [← Nat.pow_add]; congr 2; omega

section
variable (ahp : Bool) {a : BitVec 16} {ex fr : Nat} (hex : ex = a.toNat / 2 ^ 10 % 32) (hfr : fr = a.toNat % 2 ^ 10)
include hex hfr

/-- Every half-precision number keeps its value. -/
theorem fpFromHalf_of_number {ur : FpNumber} (hur : ur = (fpUnpack fpStandard (fpFromHalf ahp a).1).1)
    (h : ex < 31 ∨ ahp = true) :
    (fpFromHalf ahp a).2 = 0#32 ∧ ur.sign = a.msb ∧ (ur.kind = .zero ∨ ur.kind = .nonzero) ∧
      ur.m * 2 ^ (ur.x + 149).toNat = if ex = 0 then fr * 2 ^ 125 else (2 ^ 10 + fr) * 2 ^ (ex + 124) := by
  have hfinite : ¬(ex = 31 ∧ ahp = false) := fun ⟨h1, h2⟩ => by rcases h with h | h <;> simp_all
  have hunpack := fpUnpack_half ahp a hex hfr
  have hlt : fr < 2 ^ 10 := hfr ▸ Nat.mod_lt _ (by decide)
  have hex' : ex < 32 := hex ▸ Nat.mod_lt _ (by decide)
  rw [if_neg hfinite] at hunpack
  by_cases h0 : ex = 0
  · rw [if_pos h0] at hunpack ⊢
    by_cases hf0 : fr = 0
    · rw [if_pos hf0] at hunpack
      have hresult : fpFromHalf ahp a = (signedBits 32 a.msb 0, 0#32) := by
        rw [fpFromHalf, hunpack]
        simp [plain, fpZero_eq]
      have hexp : fpExponent (signedBits 32 a.msb 0) = 0 := by cases a.msb <;> decide
      rw [hresult, fpUnpack_of_exponent_zero _ hexp] at hur
      subst hur
      have hsign : (signedBits 32 a.msb 0).msb = a.msb := msb_signedBits _ (by decide) (by decide)
      exact ⟨by rw [hresult], hsign, .inl rfl, by simp [hf0]⟩
    · rw [if_neg hf0] at hunpack
      have hresult : fpFromHalf ahp a = fpRound 32 fpStandard a.msb fr (-24) := by rw [fpFromHalf, hunpack]
      rw [hresult] at hur ⊢
      obtain ⟨hflags, hsign, hkind, hvalue⟩ :=
        fpRound_single_exact a.msb hf0 (by omega) (by omega) (by omega) hur
      exact ⟨hflags, hsign, .inr hkind, hvalue⟩
  · rw [if_neg h0] at hunpack ⊢
    have hresult : fpFromHalf ahp a = fpRound 32 fpStandard a.msb (fr + 2 ^ 10) (ex - 15 - 10) := by
      rw [fpFromHalf, hunpack]
    rw [hresult] at hur ⊢
    obtain ⟨hflags, hsign, hkind, hvalue⟩ :=
      fpRound_single_exact a.msb (by omega) (by omega) (by omega) (by omega) hur
    refine ⟨hflags, hsign, .inr hkind, ?_⟩
    rw [hvalue, Nat.add_comm fr, show ((ex : Int) - 15 - 10 + 149).toNat = ex + 124 by omega]

/-- Infinity and the NaNs of the standard format. -/
theorem fpFromHalf_of_top (hex31 : ex = 31) (hahp : ahp = false) :
    fpFromHalf ahp a =
      (if fr = 0 then infinityBits 32 a.msb else defaultNaNBits 32, flagIf (fr != 0 && !a.getLsbD 9) flagIOC) := by
  have hunpack := fpUnpack_half ahp a hex hfr
  have hbit : fr.testBit 9 = a.getLsbD 9 := by
    rw [hfr, Nat.testBit_mod_two_pow]; rfl
  have hnan : fpDefaultNaN 32 = defaultNaNBits 32 := fpDefaultNaN_eq (.inr rfl)
  rw [if_neg (by omega), if_pos ⟨hex31, hahp⟩, hbit] at hunpack
  by_cases hf0 : fr = 0
  · rw [if_pos hf0] at hunpack
    simp [fpFromHalf, hunpack, hf0, plain, fpInfinity_eq (e := 32) (.inr rfl), flagIf]
  · rw [if_neg hf0] at hunpack
    rw [if_neg hf0, bne_iff_ne.mpr hf0, Bool.true_and]
    cases hquiet : a.getLsbD 9 with
    | false =>
      rw [hquiet, if_neg Bool.false_ne_true] at hunpack
      rw [fpFromHalf, hunpack]
      exact congrArg (·, flagIOC) hnan
    | true =>
      rw [hquiet, if_pos rfl] at hunpack
      rw [fpFromHalf, hunpack]
      exact congrArg (·, 0#32) hnan

end

/-! ## Fixed point -/

theorem fpFromFixed_eq {e : Nat} (U : Bool) (fbits : Nat) (a : BitVec e) {i : Int} (hi : i = laneInt U a) :
    fpFromFixed U fbits a =
      if i = 0 then (signedBits e false 0, 0#32)
      else fpRound e fpStandard (decide (i < 0)) i.natAbs (-(fbits : Int)) := by
  subst hi
  rw [← fpZero_eq]
  rfl

/-- Settles O45: each row is its shape; a conversion is given by the kind of its operand, to half precision and from
fixed point by `fpRound_roundsTo`, from half precision by `fpRound_exact`. -/
theorem formatConversions : Obligations.FormatConversions := by
  refine ⟨?precisions, ?fixedPoint, ?toHalf, ?fromHalf, ?fromFixed⟩
  case precisions =>
    intro f s hr hz
    refine ⟨fun hm => ?_, fun hd => ?_⟩
    · exact narrow_flagged (e := 16) (by simp [LaneWidth]) (by simp [LaneWidth]) (exec_vcvtSpToHp f s)
        (by simp [hz, odd, hm]) hr (vreg_lt f.D f.Vd) fun _ => fpToHalf_within _ _
    · exact long_unary_flagged (e := 16) (by simp [LaneWidth]) (exec_vcvtHpToSp f s) (by simp [hz, odd, hd]) hr
        (quad_fits (hi := f.D) (lo := f.Vd) hd) fun _ => fpFromHalf_within _ _
  case fixedPoint =>
    rintro f s e hr hv hL he hbits hhalf
    obtain rfl : e = fpSize (fixedHalf f) := by rw [he, fixedHalf]; cases f.opc.getLsbD 1 <;> rfl
    have hwide : noHalf (fixedHalf f) s = false := noHalf_eq_false fun h => hhalf (by rw [h]; rfl)
    have hform : fixedUndef f s = false := by simp [fixedUndef, isSet, hL, hwide, fractionBits, Nat.not_lt.mpr hbits]
    have hodd : shiftOdd f = false := by
      rw [shiftOdd, oddQuad_of_even hv (by simp), oddQuad_of_even hv (by simp)]; rfl
    refine unary_flagged (laneWidth_fpSize _) (exec_vcvtFpFixedAsimd f s) (by rw [hodd, hform]; rfl) hr
      (fits_of_even (hi := f.D) (lo := f.Vd) hv (by simp [FTwoRegShift.d])) rfl fun a => ?_
    split
    · exact fpToFixed_within _ _ _ _
    · exact fpFromFixed_within _ _ _
  case toHalf =>
    intro ahp a ua hua
    refine ⟨fpToHalf_of_zero ahp hua, fun hk => ?_, fpToHalf_of_infinity ahp hua, fun hk => ?_⟩
    · rw [fpToHalf_of_nonzero ahp hua hk]
      exact fpRound_roundsTo (.inl rfl) _ _ _ _
    · rw [fpToHalf_of_nan ahp hua hk]
      refine ⟨rfl, (getLsbD_flagIOC _).trans ?_⟩
      simp
  case fromHalf =>
    intro ahp a ex fr ur hex hfr hur
    refine ⟨fpFromHalf_of_number ahp hex hfr hur, fun h31 hahp => ?_⟩
    rw [fpFromHalf_of_top ahp hex hfr h31 hahp]
    refine ⟨rfl, (getLsbD_flagIOC _).trans ?_⟩
    simp
  case fromFixed =>
    intro e U fbits a i he hi
    rw [fpFromFixed_eq U fbits a hi]
    refine ⟨fun h0 => if_pos h0, fun h0 => ?_⟩
    rw [if_neg h0]
    exact fpRound_roundsTo he _ _ _ _

end Sys2Proof.Machine
end

section
/-! The rounding, conversion and estimate rows of "two registers misc" (rules R234 to R248, R265): the estimates of
notes/assumptions/15.md, their special operands, and the statement about these rows. -/

namespace Sys2Proof.Machine

/-! ## The estimates of scaled operands -/

/-- A reciprocal estimate has nine bits, and times its operand it is near 2^17 on the whole interval of the operand. -/
theorem recipEstimate_bounds : ∀ s, s < 512 → 256 ≤ s →
    256 ≤ recipEstimate s ∧ recipEstimate s < 512 ∧ 2 ^ 17 ≤ s * recipEstimate s + 2 ^ 9 ∧
      (s + 1) * recipEstimate s ≤ 2 ^ 17 + 2 ^ 9 := by
  decide +kernel

/-- The square of a reciprocal square root estimate, times its operand, is near 2^25. -/
theorem recipSqrtEstimate_bounds : ∀ s, s < 512 → 128 ≤ s →
    256 ≤ recipSqrtEstimate s ∧ recipSqrtEstimate s < 512 ∧ 2 ^ 25 ≤ s * recipSqrtEstimate s ^ 2 + 2 ^ 18 ∧
      (s + 1) * recipSqrtEstimate s ^ 2 ≤ 2 ^ 25 + 2 ^ 18 := by
  decide +kernel

/-- A product that is near 2^w at both ends of an operand's interval is near it in between. -/
theorem nearOne_of_bounds {m s c w j i bits : Nat} {x : Int} (hs : s = m / 2 ^ j) (hbits : bits ≤ w)
    (hlow : 2 ^ w ≤ s * c + 2 ^ (w - bits)) (hhigh : (s + 1) * c ≤ 2 ^ w + 2 ^ (w - bits))
    (hx : x = -((w + (j + i) : Nat) : Int)) : NearOne (m * (c * 2 ^ i)) x bits := by
  have hunit : 2 ^ (-x).toNat = 2 ^ w * 2 ^ (j + i) := by rw [hx, Int.neg_neg, Int.toNat_natCast, Nat.pow_add]
  have hscale : 2 ^ bits * 2 ^ (w - bits) = 2 ^ w := by rw [← Nat.pow_add, Nat.add_sub_cancel' hbits]
  have hle : s * 2 ^ j ≤ m := hs ▸ Nat.div_mul_le_self m (2 ^ j)
  have hlt : m ≤ (s + 1) * 2 ^ j := by
    rw [hs, Nat.mul_comm]
    exact Nat.le_of_lt (Nat.lt_mul_div_succ m (Nat.two_pow_pos j))
  have hdown : 2 ^ w * 2 ^ (j + i) ≤ m * (c * 2 ^ i) + 2 ^ (w - bits) * 2 ^ (j + i) := by
    calc 2 ^ w * 2 ^ (j + i) ≤ (s * c + 2 ^ (w - bits)) * 2 ^ (j + i) := Nat.mul_le_mul_right _ hlow
      _ = s * 2 ^ j * (c * 2 ^ i) + 2 ^ (w - bits) * 2 ^ (j + i) := by grind
      _ ≤ m * (c * 2 ^ i) + 2 ^ (w - bits) * 2 ^ (j + i) := Nat.add_le_add_right (Nat.mul_le_mul_right _ hle) _
  have hup : m * (c * 2 ^ i) ≤ 2 ^ w * 2 ^ (j + i) + 2 ^ (w - bits) * 2 ^ (j + i) := by
    calc m * (c * 2 ^ i) ≤ (s + 1) * 2 ^ j * (c * 2 ^ i) := Nat.mul_le_mul_right _ hlt
      _ = (s + 1) * c * 2 ^ (j + i) := by grind
      _ ≤ (2 ^ w + 2 ^ (w - bits)) * 2 ^ (j + i) := Nat.mul_le_mul_right _ hhigh
      _ = 2 ^ w * 2 ^ (j + i) + 2 ^ (w - bits) * 2 ^ (j + i) := Nat.add_mul _ _ _
  refine ⟨by omega, ?_⟩
  have hunit' : (2 : Int) ^ (-x).toNat = ((2 ^ w * 2 ^ (j + i) : Nat) : Int) := by rw [← hunit]; push_cast; rfl
  have hnear :
      ((m * (c * 2 ^ i) : Nat) - ((2 ^ w * 2 ^ (j + i) : Nat) : Int)).natAbs ≤ 2 ^ (w - bits) * 2 ^ (j + i) := by
    omega
  rw [hunit', hunit]
  calc 2 ^ bits * ((m * (c * 2 ^ i) : Nat) - ((2 ^ w * 2 ^ (j + i) : Nat) : Int)).natAbs
      ≤ 2 ^ bits * (2 ^ (w - bits) * 2 ^ (j + i)) := Nat.mul_le_mul_left _ hnear
    _ = 2 ^ w * 2 ^ (j + i) := by rw [← Nat.mul_assoc, hscale]

/-- The reciprocal estimate of an operand with nine bits above bit `j`. -/
theorem nearOne_recipEstimate {m j i : Nat} {x : Int} (hlow : 256 ≤ m / 2 ^ j) (hhigh : m / 2 ^ j < 512)
    (hx : x = -((17 + (j + i) : Nat) : Int)) : NearOne (m * (recipEstimate (m / 2 ^ j) * 2 ^ i)) x 8 := by
  obtain ⟨-, -, h1, h2⟩ := recipEstimate_bounds _ hhigh hlow
  exact nearOne_of_bounds rfl (by decide) h1 h2 hx

/-- The reciprocal square root estimate of an operand with eight or nine bits above bit `j`. -/
theorem nearOne_recipSqrtEstimate {m j i : Nat} {x : Int} (hlow : 128 ≤ m / 2 ^ j) (hhigh : m / 2 ^ j < 512)
    (hx : x = -((25 + (j + 2 * i) : Nat) : Int)) :
    NearOne (m * (recipSqrtEstimate (m / 2 ^ j) * 2 ^ i) ^ 2) x 7 := by
  obtain ⟨-, -, h1, h2⟩ := recipSqrtEstimate_bounds _ hhigh hlow
  rw [Nat.mul_pow, ← Nat.pow_mul, Nat.mul_comm i 2]
  exact nearOne_of_bounds rfl (by decide) h1 h2 hx

/-! ## The integer forms -/

section
variable (a : BitVec 32)

theorem toNat_estimate {n : Nat} (h : n < 512) : (BitVec.ofNat 32 (n * 2 ^ 23)).toNat = n * 2 ^ 23 := by
  rw [BitVec.toNat_ofNat, Nat.mod_eq_of_lt (by omega)]

theorem toNat_unsignedRecipEstimate (h : 2 ^ 31 ≤ a.toNat) :
    (unsignedRecipEstimate a).toNat = recipEstimate (a.toNat / 2 ^ 23) * 2 ^ 23 := by
  have ha := a.isLt
  rw [unsignedRecipEstimate, if_neg (Nat.not_lt.mpr h)]
  exact toNat_estimate (recipEstimate_bounds _ (by omega) (by omega)).2.1

theorem toNat_unsignedRecipSqrtEstimate (h : 2 ^ 30 ≤ a.toNat) :
    (unsignedRecipSqrtEstimate a).toNat = recipSqrtEstimate (a.toNat / 2 ^ 23) * 2 ^ 23 := by
  have ha := a.isLt
  rw [unsignedRecipSqrtEstimate, if_neg (Nat.not_lt.mpr h)]
  exact toNat_estimate (recipSqrtEstimate_bounds _ (by omega) (by omega)).2.1

end

/-! ## The floating-point forms -/

section
variable {e : Nat} (he : FpWidth e)
include he

/-- The nine leading bits of a normal significand. -/
theorem leadingBits_eq (a : BitVec e) :
    256 + fpFraction8 a = (fpFraction a + 2 ^ fracBits e) / 2 ^ (fracBits e - 8) := by
  have hpow : 2 ^ fracBits e = 2 ^ (fracBits e - 8) * 2 ^ 8 := by
    rw [← Nat.pow_add]; rcases he with rfl | rfl <;> rfl
  rw [hpow, Nat.add_mul_div_left _ _ (Nat.two_pow_pos _), fpFraction, hpow, Nat.mod_mul_right_div_self, Nat.add_comm]
  rfl

/-- A lane with an estimate of nine bits for its significand. -/
theorem estimate_unpacked (sign : Bool) {biased est : Nat} {r : Lane e} {u : FpNumber} (hb : 0 < biased)
    (hb' : biased < 2 ^ expBits e - 1) (hest : 256 ≤ est) (hest' : est < 512)
    (hr : r = plain (fpPack e sign biased ((est - 256) * 2 ^ (fracBits e - 8))))
    (hu : u = (fpUnpack fpStandard r.1).1) :
    r.2 = 0#32 ∧ r.1.toNat % 2 ^ (fracBits e - 8) = 0 ∧ u.kind = .nonzero ∧ u.sign = sign ∧
      u.m = est * 2 ^ (fracBits e - 8) ∧ u.x = biased - expBias e - fracBits e := by
  have hF : 8 ≤ fracBits e := by rcases he with rfl | rfl <;> decide
  have hpow : 2 ^ fracBits e = 256 * 2 ^ (fracBits e - 8) := by
    rw [show 256 = 2 ^ 8 by rfl, ← Nat.pow_add, Nat.add_sub_cancel' hF]
  have hfields : biased * 2 ^ fracBits e + (est - 256) * 2 ^ (fracBits e - 8) =
      (biased - 1) * 2 ^ fracBits e + est * 2 ^ (fracBits e - 8) := by
    obtain ⟨b, rfl⟩ := Nat.exists_eq_add_of_lt hb
    obtain ⟨n, rfl⟩ := Nat.exists_eq_add_of_le hest
    rw [Nat.add_sub_cancel_left, Nat.zero_add, Nat.add_sub_cancel, hpow]
    grind
  have hlow : 2 ^ fracBits e ≤ est * 2 ^ (fracBits e - 8) := hpow ▸ Nat.mul_le_mul_right _ hest
  have hhigh : est * 2 ^ (fracBits e - 8) < 2 ^ (fracBits e + 1) := by
    rw [Nat.pow_succ, hpow, Nat.mul_right_comm]
    exact Nat.mul_lt_mul_of_pos_right hest' (Nat.two_pow_pos _)
  rw [fpPack_eq_signedBits, hfields] at hr
  subst hr
  rw [plain_fst, fpUnpack_signedBits_normal he sign hlow hhigh (by omega)] at hu
  subst hu
  refine ⟨rfl, ?_, rfl, rfl, rfl, ?_⟩
  · have hle : fracBits e - 8 ≤ e - 1 := by rcases he with rfl | rfl <;> decide
    have hdvd : 2 ^ (fracBits e - 8) ∣ 2 ^ e := Nat.pow_dvd_pow 2 (by omega)
    have hfrac : 2 ^ (fracBits e - 8) ∣ 2 ^ fracBits e := Nat.pow_dvd_pow 2 (by omega)
    rw [plain_fst, signedBits, BitVec.toNat_ofNat, Nat.mod_mod_of_dvd _ hdvd]
    apply Nat.mod_eq_zero_of_dvd
    refine Nat.dvd_add ?_ (Nat.dvd_add (Nat.dvd_mul_left_of_dvd hfrac _) (Nat.dvd_mul_left _ _))
    split
    · exact Nat.pow_dvd_pow 2 hle
    · exact Nat.dvd_zero _
  · dsimp only
    omega

variable {a : BitVec e} {ua : FpNumber} {fa : Flags} (hua : (ua, fa) = fpUnpack fpStandard a)
include hua

theorem recipEstimates_of_zero (hk : ua.kind = .zero) :
    fpRecipEstimate a = (infinityBits e ua.sign, flagDZC ||| fa) ∧
      fpRecipSqrtEstimate a = (infinityBits e ua.sign, flagDZC ||| fa) := by
  simp [fpRecipEstimate, fpRecipSqrtEstimate, ← hua, hk, Lane.also, fpInfinity_eq he]

theorem recipEstimates_of_nan (hk : ua.isNaN = true) :
    ∀ r ∈ [fpRecipEstimate a, fpRecipSqrtEstimate a],
      r = (defaultNaNBits e, flagIf (ua.kind == .signallingNaN) flagIOC) := by
  rcases isNaN_iff.mp hk with hk | hk <;>
    simp [fpRecipEstimate, fpRecipSqrtEstimate, ← hua, hk, Lane.also, flags_eq_zero hua (by simp [hk]), fpNaNResult,
      fpDefaultNaN_eq he]

omit he in
theorem fpRecipEstimate_of_infinity (hk : ua.kind = .infinity) :
    fpRecipEstimate a = (signedBits e ua.sign 0, 0#32) := by
  simp [fpRecipEstimate, ← hua, hk, Lane.also, flags_eq_zero hua (by simp [hk]), plain, fpZero_eq]

omit he in
theorem fpRecipEstimate_of_large (hk : ua.kind = .nonzero) (hex : 2 ^ expBits e - 3 ≤ fpExponent a) :
    fpRecipEstimate a = (signedBits e ua.sign 0, flagUFC) := by
  simp [fpRecipEstimate, ← hua, hk, Lane.also, flags_eq_zero hua (by simp [hk]), fpZero_eq, hex]

theorem fpRecipSqrtEstimate_of_negative (hk : ua.kind = .infinity ∨ ua.kind = .nonzero) (hs : ua.sign = true) :
    fpRecipSqrtEstimate a = (defaultNaNBits e, flagIOC) := by
  rcases hk with hk | hk <;>
    simp [fpRecipSqrtEstimate, ← hua, hk, hs, Lane.also, flags_eq_zero hua (by simp [hk]), fpDefaultNaN_eq he]

omit he in
theorem fpRecipSqrtEstimate_of_infinity (hk : ua.kind = .infinity) (hs : ua.sign = false) :
    fpRecipSqrtEstimate a = (signedBits e false 0, 0#32) := by
  simp [fpRecipSqrtEstimate, ← hua, hk, hs, Lane.also, flags_eq_zero hua (by simp [hk]), plain, fpZero_eq]

/-- A normal operand: its exponent field and its nine leading bits. -/
theorem unpacked_normal (hk : ua.kind = .nonzero) :
    0 < fpExponent a ∧ fpExponent a < 2 ^ expBits e - 1 ∧ ua.x = fpExponent a - expBias e - fracBits e ∧
      256 + fpFraction8 a = ua.m / 2 ^ (fracBits e - 8) := by
  obtain rfl : ua = (fpUnpack fpStandard a).1 := congrArg Prod.fst hua
  obtain ⟨h0, htop⟩ := (fpUnpack_kind_nonzero_iff a).mp hk
  have hlt := fpExponent_lt a
  rw [leadingBits_eq he, fpUnpack_of_nonzero a hk]
  exact ⟨Nat.pos_of_ne_zero h0, by omega, rfl, rfl⟩

theorem fpRecipEstimate_of_normal (hk : ua.kind = .nonzero) (hex : fpExponent a < 2 ^ expBits e - 3) {u : FpNumber}
    (hu : u = (fpUnpack fpStandard (fpRecipEstimate a).1).1) :
    (fpRecipEstimate a).2 = 0#32 ∧ u.kind = .nonzero ∧ u.sign = ua.sign ∧
      (fpRecipEstimate a).1.toNat % 2 ^ (fracBits e - 8) = 0 ∧ NearOne (ua.m * u.m) (ua.x + u.x) 8 := by
  obtain ⟨hpos, -, hx, hlead⟩ := unpacked_normal he hua hk
  have hf8 : fpFraction8 a < 2 ^ 8 := Nat.mod_lt _ (by decide)
  obtain ⟨hest, hest', -, -⟩ := recipEstimate_bounds (256 + fpFraction8 a) (by omega) (by omega)
  have hresult : fpRecipEstimate a = plain (fpPack e ua.sign (2 ^ expBits e - 3 - fpExponent a)
      ((recipEstimate (256 + fpFraction8 a) - 256) * 2 ^ (fracBits e - 8))) := by
    simp [fpRecipEstimate, ← hua, hk, Lane.also, plain, flags_eq_zero hua (by simp [hk]), Nat.not_le.mpr hex]
  obtain ⟨hflags, hlow, hkind, hsign, hum, hux⟩ :=
    estimate_unpacked he ua.sign (by omega) (by omega) hest hest' hresult hu
  refine ⟨hflags, hkind, hsign, hlow, ?_⟩
  have hbias := top_eq_bias he
  have hF : 8 ≤ fracBits e := by rcases he with rfl | rfl <;> decide
  rw [hum, hlead]
  exact nearOne_recipEstimate (by omega) (by omega) (by omega)

theorem fpRecipSqrtEstimate_of_normal (hk : ua.kind = .nonzero) (hs : ua.sign = false) {u : FpNumber}
    (hu : u = (fpUnpack fpStandard (fpRecipSqrtEstimate a).1).1) :
    (fpRecipSqrtEstimate a).2 = 0#32 ∧ u.kind = .nonzero ∧ u.sign = false ∧
      (fpRecipSqrtEstimate a).1.toNat % 2 ^ (fracBits e - 8) = 0 ∧
      NearOne (ua.m * u.m ^ 2) (ua.x + 2 * u.x) 7 := by
  obtain ⟨hpos, htop, hx, hlead⟩ := unpacked_normal he hua hk
  have hf8 : fpFraction8 a < 2 ^ 8 := Nat.mod_lt _ (by decide)
  have hbias := top_eq_bias he
  have hF : 8 ≤ fracBits e := by rcases he with rfl | rfl <;> decide
  obtain ⟨hhalf, hodd, hmin⟩ : 2 * 2 ^ (expBits e - 1) = 2 ^ expBits e ∧ expBias e % 2 = 1 ∧ 15 ≤ expBias e := by
    rcases he with rfl | rfl <;> decide
  -- an odd exponent leaves one bit of the significand to the square root
  obtain ⟨j, hscaled, hj⟩ : ∃ j,
      (if fpExponent a % 2 = 0 then 256 + fpFraction8 a else 128 + fpFraction8 a / 2) = ua.m / 2 ^ j ∧
        j = fracBits e - 8 + fpExponent a % 2 := by
    rcases Nat.mod_two_eq_zero_or_one (fpExponent a) with h | h
    · exact ⟨_, by rw [if_pos h, hlead, h, Nat.add_zero], rfl⟩
    · refine ⟨_, ?_, rfl⟩
      rw [if_neg (by omega), h, Nat.pow_succ, ← Nat.div_div_eq_div_mul, ← hlead]
      omega
  have hrange : 128 ≤ ua.m / 2 ^ j ∧ ua.m / 2 ^ j < 512 := by rw [← hscaled]; split <;> omega
  obtain ⟨hest, hest', -, -⟩ := recipSqrtEstimate_bounds _ hrange.2 hrange.1
  have hresult : fpRecipSqrtEstimate a = plain (fpPack e false ((3 * (2 ^ (expBits e - 1) - 1) - 1 - fpExponent a) / 2)
      ((recipSqrtEstimate (ua.m / 2 ^ j) - 256) * 2 ^ (fracBits e - 8))) := by
    rw [← hscaled]
    simp [fpRecipSqrtEstimate, ← hua, hk, hs, Lane.also, plain, flags_eq_zero hua (by simp [hk])]
  obtain ⟨hflags, hlow, hkind, hsign, hum, hux⟩ :=
    estimate_unpacked he false (by omega) (by omega) hest hest' hresult hu
  refine ⟨hflags, hkind, hsign, hlow, ?_⟩
  rw [hum]
  exact nearOne_recipSqrtEstimate hrange.1 hrange.2 (by omega)

end

/-! ## The rows -/

/-- The row shape `twoRegFp`. -/
theorem twoRegFp_flagged {i : Instr} {s : State} {f : FTwoRegMisc} {op : (e : Nat) → BitVec e → Lane e}
    (he : exec i s = twoRegFp f op s) (hz : f.size = 0b10#2 ∨ (f.size = 0b01#2 ∧ s.params.haveFp16 = true))
    (hr : s.SimdReady) (hv : EvenFor f.Q [f.d, f.m]) (hw : ∀ e (x : BitVec e), (op e x).Within fpFlags) :
    GivesFlaggedLanes i s fpFlags (esize f.size) f.d (regCount f.Q) (fun j => op _ (s.laneAt (esize f.size) f.m j)) :=
  twoRegInt_flagged he (noFloat_eq_false hz) hr hv hw

/-- The row shape `estimate` on floating-point lanes. -/
theorem estimate_fp_flagged {i : Instr} {s : State} {f : FTwoRegMisc} {int fp : (e : Nat) → BitVec e → Lane e}
    (he : exec i s = estimate f int fp s) (hx : f.opc2.getLsbD 1 = true)
    (hz : f.size = 0b10#2 ∨ (f.size = 0b01#2 ∧ s.params.haveFp16 = true)) (hr : s.SimdReady)
    (hv : EvenFor f.Q [f.d, f.m]) (hw : ∀ e (x : BitVec e), (fp e x).Within fpFlags) :
    GivesFlaggedLanes i s fpFlags (esize f.size) f.d (regCount f.Q) (fun j => fp _ (s.laneAt (esize f.size) f.m j)) :=
  twoRegInt_flagged (by rw [he, estimate, if_pos hx]) (by rw [noFloat_eq_false hz, hx]; rfl) hr hv hw

/-- The row shape `estimate` on integer lanes. -/
theorem estimate_int_flagged {i : Instr} {s : State} {A : Flags} {f : FTwoRegMisc}
    {int fp : (e : Nat) → BitVec e → Lane e} (he : exec i s = estimate f int fp s) (hx : f.opc2.getLsbD 1 = false)
    (hz : f.size = 0b10#2) (hr : s.SimdReady) (hv : EvenFor f.Q [f.d, f.m])
    (hw : ∀ e (x : BitVec e), (int e x).Within A) :
    GivesFlaggedLanes i s A (esize f.size) f.d (regCount f.Q) (fun j => int _ (s.laneAt (esize f.size) f.m j)) :=
  twoRegInt_flagged (by rw [he, estimate, if_neg (Bool.eq_false_iff.mp hx)])
    (by rw [noFloat_eq_false (.inl hz), hx, hz]; rfl) hr hv hw

/-- Settles O43: each row is its shape; the estimates are near on the whole interval that each scaled operand stands
for, and the special operands are given by their kind. -/
theorem floatingOneOperand : Obligations.FloatingOneOperand := by
  refine ⟨?rows, ?floatingEstimates, ?integerEstimates⟩
  case rows =>
    rintro f s _ _ hr hv hz rfl rfl
    simp only [List.forall_mem_cons]
    refine ⟨⟨
      twoRegFp_flagged (exec_vrintnAsimd f s) hz hr hv fun _ _ => fpRoundInt_within _ _ _,
      twoRegFp_flagged (exec_vrintxAsimd f s) hz hr hv fun _ _ => fpRoundInt_within _ _ _,
      twoRegFp_flagged (exec_vrintaAsimd f s) hz hr hv fun _ _ => fpRoundInt_within _ _ _,
      twoRegFp_flagged (exec_vrintzAsimd f s) hz hr hv fun _ _ => fpRoundInt_within _ _ _,
      twoRegFp_flagged (exec_vrintmAsimd f s) hz hr hv fun _ _ => fpRoundInt_within _ _ _,
      twoRegFp_flagged (exec_vrintpAsimd f s) hz hr hv fun _ _ => fpRoundInt_within _ _ _,
      twoRegFp_flagged (exec_vcvtaAsimd f s) hz hr hv fun _ _ => fpToFixed_within _ _ _ _,
      twoRegFp_flagged (exec_vcvtnAsimd f s) hz hr hv fun _ _ => fpToFixed_within _ _ _ _,
      twoRegFp_flagged (exec_vcvtpAsimd f s) hz hr hv fun _ _ => fpToFixed_within _ _ _ _,
      twoRegFp_flagged (exec_vcvtmAsimd f s) hz hr hv fun _ _ => fpToFixed_within _ _ _ _,
      twoRegFp_flagged (exec_vcvtFpIntAsimd f s) hz hr hv fun _ _ => ?convert,
      List.forall_mem_nil _⟩, fun hx => ⟨?_, ?_⟩, fun hx hz => ⟨?_, ?_⟩⟩
    case convert =>
      split
      · exact fpToFixed_within _ _ _ _
      · exact fpFromFixed_within _ _ _
    · exact estimate_fp_flagged (exec_vrecpe f s) hx hz hr hv fun _ _ => fpRecipEstimate_within _
    · exact estimate_fp_flagged (exec_vrsqrte f s) hx hz hr hv fun _ _ => fpRecipSqrtEstimate_within _
    · exact (estimate_int_flagged (exec_vrecpe f s) hx hz hr hv fun _ _ => plain_within _ _).plainLanes fun _ => rfl
    · exact (estimate_int_flagged (exec_vrsqrte f s) hx hz hr hv fun _ _ => plain_within _ _).plainLanes fun _ => rfl
  case floatingEstimates =>
    intro e a ua ur uq fa F top ex he hua hF htop hex hur huq
    obtain rfl : F = fracBits e := hF
    obtain rfl : top = 2 ^ expBits e - 1 := htop.trans (top_eq he).symm
    obtain rfl : ex = fpExponent a := by rw [hex, Nat.sub_add_cancel Nat.one_le_two_pow]; rfl
    exact ⟨recipEstimates_of_zero he hua, recipEstimates_of_nan he hua, fpRecipEstimate_of_infinity hua,
      fun hk h => fpRecipEstimate_of_large hua hk h, fun hk h => fpRecipEstimate_of_normal he hua hk h hur,
      fpRecipSqrtEstimate_of_negative he hua, fpRecipSqrtEstimate_of_infinity hua,
      fun hk hs => fpRecipSqrtEstimate_of_normal he hua hk hs huq⟩
  case integerEstimates =>
    rintro a _ _ rfl rfl
    have ha := a.isLt
    refine ⟨fun h => if_pos h, fun h => ?_, fun h => if_pos h, fun h => ?_⟩
    · rw [toNat_unsignedRecipEstimate a h]
      exact ⟨Nat.mul_mod_left _ _, nearOne_recipEstimate (by omega) (by omega) (by omega)⟩
    · rw [toNat_unsignedRecipSqrtEstimate a h]
      exact ⟨Nat.mul_mod_left _ _, nearOne_recipSqrtEstimate (by omega) (by omega) (by omega)⟩

end Sys2Proof.Machine
end

section
/-! Special operands of floating-point arithmetic (rule R198): NaNs, infinities and zeros by the kind of each operand,
the order of numbers, and the operations that choose between their operands. -/

namespace Sys2Proof.Machine

/-! ## NaN results -/

@[simp] theorem FpNumber.kind_neg (v : FpNumber) : v.neg.kind = v.kind := rfl

@[simp] theorem FpNumber.sign_neg (v : FpNumber) : v.neg.sign = !v.sign := rfl

theorem isNaN_of_kind {v : FpNumber} (h : v.kind = .zero ∨ v.kind = .infinity ∨ v.kind = .nonzero) :
    v.isNaN = false := by
  rcases h with h | h | h <;> simp [FpNumber.isNaN, h]

/-- Reading a lane never sets IOC. -/
theorem getLsbD_fpUnpack_flags {e : Nat} (a : BitVec e) : (fpUnpack fpStandard a).2.getLsbD 0 = false := by
  by_cases h : fpExponent a = 0
  · rw [fpUnpack_of_exponent_zero a h]
    exact (by decide : ∀ b, (flagIf b flagIDC).getLsbD 0 = false) _
  · rw [fpUnpack_flags_of_kind_ne_zero a (mt (fpUnpack_kind_zero_iff a).mp h)]
    rfl

/-- A NaN result: the default NaN, with IOC where an operand is signalling. -/
theorem fpNaNResult_also {e : Nat} (he : FpWidth e) (vs : List FpNumber) {fl : Flags} (hfl : fl.getLsbD 0 = false) :
    ((fpNaNResult e vs).also fl).1 = defaultNaNBits e ∧
      (((fpNaNResult e vs).also fl).2.getLsbD 0 = true ↔ ∃ v ∈ vs, v.kind = .signallingNaN) := by
  refine ⟨fpDefaultNaN_eq he, ?_⟩
  rw [Lane.also, BitVec.getLsbD_or, hfl, Bool.or_false]
  refine (getLsbD_flagIOC _).trans ?_
  simp

theorem exists_pair_iff {α : Type} {x y : α} {P : α → Prop} : (∃ v ∈ [x, y], P v) ↔ P x ∨ P y := by simp

/-! ## Infinities -/

/-- The fields of an infinity. -/
theorem fpUnpack_of_infinity {e : Nat} (a : BitVec e) (h : (fpUnpack fpStandard a).1.kind = .infinity) :
    fpExponent a ≠ 0 ∧ fpExponent a = 2 ^ expBits e - 1 ∧ fpFraction a = 0 ∧
      fpUnpack fpStandard a = ({ sign := a.msb, kind := .infinity, m := 0, x := 0 }, 0#32) := by
  have h0 : fpExponent a ≠ 0 := fun h0 => by simp [(fpUnpack_kind_zero_iff a).mpr h0] at h
  have htop : fpExponent a = 2 ^ expBits e - 1 := by
    refine Decidable.byContradiction fun htop => ?_
    simp [(fpUnpack_kind_nonzero_iff a).mpr ⟨h0, htop⟩] at h
  have hf : fpFraction a = 0 := by
    refine Decidable.byContradiction fun hf => ?_
    rw [fpUnpack_eq, if_neg h0, if_pos htop] at h
    dsimp only at h
    rw [if_neg hf] at h
    split at h <;> exact absurd h nofun
  refine ⟨h0, htop, hf, ?_⟩
  rw [fpUnpack_eq, if_neg h0, if_pos htop, if_pos hf]

theorem unpacked_infinity {e : Nat} {a : BitVec e} {ua : FpNumber} {fa : Flags} (hua : (ua, fa) = fpUnpack fpStandard a)
    (h : ua.kind = .infinity) : ua.m = 0 ∧ ua.x = 0 := by
  obtain rfl : ua = (fpUnpack fpStandard a).1 := congrArg Prod.fst hua
  rw [(fpUnpack_of_infinity a h).2.2.2]
  exact ⟨rfl, rfl⟩

/-- What is no NaN and no infinity is finite. -/
theorem finite_of_kind {v : FpNumber} (hn : v.isNaN = false) (hi : v.kind ≠ .infinity) : v.Finite := by
  unfold FpNumber.Finite
  cases hk : v.kind <;> simp [FpNumber.isNaN, hk] at hn hi ⊢

/-! ## Sums with a NaN or an infinity -/

section
variable (e halve : Nat) {a b : FpNumber}

theorem fpAddNumbers_of_nan (h : a.isNaN = true ∨ b.isNaN = true) :
    fpAddNumbers e halve a b = fpNaNResult e [a, b] := by
  rw [fpAddNumbers, if_pos (by simpa using h)]

variable {e}

theorem fpAddNumbers_of_opposite (he : FpWidth e) (ha : a.kind = .infinity) (hb : b.kind = .infinity)
    (hs : a.sign ≠ b.sign) : fpAddNumbers e halve a b = (defaultNaNBits e, flagIOC) := by
  simp [fpAddNumbers, isNaN_of_kind, ha, hb, hs, fpDefaultNaN_eq he]

theorem fpAddNumbers_of_left (he : FpWidth e) (ha : a.kind = .infinity) (hb : b.isNaN = false)
    (hs : b.kind = .infinity → a.sign = b.sign) : fpAddNumbers e halve a b = plain (infinityBits e a.sign) := by
  have hcond : ¬(b.kind = .infinity ∧ a.sign ≠ b.sign) := fun h => h.2 (hs h.1)
  simp only [fpAddNumbers, isNaN_of_kind (v := a) (.inr (.inl ha)), hb, ha, true_and, fpInfinity_eq he, if_neg hcond]
  simp

theorem fpAddNumbers_of_right (he : FpWidth e) (ha : a.isNaN = false) (hb : b.kind = .infinity)
    (hs : a.kind = .infinity → a.sign = b.sign) : fpAddNumbers e halve a b = plain (infinityBits e b.sign) := by
  by_cases hinf : a.kind = .infinity
  · rw [fpAddNumbers_of_left halve he hinf (isNaN_of_kind (.inr (.inl hb))) fun _ => hs hinf, hs hinf]
  · simp [fpAddNumbers, ha, isNaN_of_kind, hb, hinf, fpInfinity_eq he]

end

/-! ## Products with a NaN or an infinity -/

/-- Zero times infinity in the order in which the model tests it. -/
theorem zeroTimesInfinity_iff {a b : FpNumber} :
    ZeroTimesInfinity a b ↔ a.kind = .infinity ∧ b.kind = .zero ∨ a.kind = .zero ∧ b.kind = .infinity := Or.comm

theorem ZeroTimesInfinity.not_nan {a b : FpNumber} (h : ZeroTimesInfinity a b) : a.isNaN = false ∧ b.isNaN = false := by
  rcases h with ⟨ha, hb⟩ | ⟨ha, hb⟩ <;> exact ⟨isNaN_of_kind (by simp [ha]), isNaN_of_kind (by simp [hb])⟩

section
variable {e : Nat} {a b c : BitVec e} {ua ub uc : FpNumber} {fa fb fc : Flags}
  (hua : (ua, fa) = fpUnpack fpStandard a) (hub : (ub, fb) = fpUnpack fpStandard b)

include hua in
theorem unpacked_ioc : fa.getLsbD 0 = false := by
  obtain rfl : fa = (fpUnpack fpStandard a).2 := congrArg Prod.snd hua
  exact getLsbD_fpUnpack_flags a

include hua hub

theorem pair_ioc : (fa ||| fb).getLsbD 0 = false := by
  rw [BitVec.getLsbD_or, unpacked_ioc hua, unpacked_ioc hub]; rfl

theorem fpMul_of_nan (h : ua.isNaN = true ∨ ub.isNaN = true) :
    fpMul a b = (fpNaNResult e [ua, ub]).also (fa ||| fb) := by
  simp only [fpMul, ← hua, ← hub]
  rw [if_pos (by simpa using h)]

theorem fpMul_of_invalid (he : FpWidth e) (h : ZeroTimesInfinity ua ub) :
    fpMul a b = (defaultNaNBits e, flagIOC ||| (fa ||| fb)) := by
  obtain ⟨ha, hb⟩ := h.not_nan
  simp only [fpMul, ← hua, ← hub]
  rw [if_neg (by simp [ha, hb]), if_pos (zeroTimesInfinity_iff.mp h), fpDefaultNaN_eq he]
  rfl

theorem fpMul_of_infinity (he : FpWidth e) (ha : ua.isNaN = false) (hb : ub.isNaN = false)
    (h : ua.kind = .infinity ∧ ub.kind ≠ .zero ∨ ub.kind = .infinity ∧ ua.kind ≠ .zero) :
    fpMul a b = (infinityBits e (ua.sign != ub.sign), fa ||| fb) := by
  have hvalid : ¬((ua.kind = .infinity ∧ ub.kind = .zero) ∨ (ua.kind = .zero ∧ ub.kind = .infinity)) := by
    rintro (⟨h1, h2⟩ | ⟨h1, h2⟩) <;> simp [h1, h2] at h
  simp only [fpMul, ← hua, ← hub]
  rw [if_neg (by simp [ha, hb]), if_neg hvalid, if_pos (h.imp And.left And.left), fpInfinity_eq he]
  simp [Lane.also, plain]

/-- The five operations that answer a NaN operand alike. -/
theorem nanOperand_result (he : FpWidth e) (least : Bool) (h : ua.isNaN = true ∨ ub.isNaN = true) :
    ∀ r ∈ [fpAdd a b, fpSub a b, fpMul a b, fpMaxMin least a b, fpStep least a b],
      r.1 = defaultNaNBits e ∧ (r.2.getLsbD 0 = true ↔ ua.kind = .signallingNaN ∨ ub.kind = .signallingNaN) := by
  have hresult : ∀ {v : FpNumber} {r : Lane e}, v.kind = ub.kind → r = (fpNaNResult e [ua, v]).also (fa ||| fb) →
      r.1 = defaultNaNBits e ∧ (r.2.getLsbD 0 = true ↔ ua.kind = .signallingNaN ∨ ub.kind = .signallingNaN) := by
    rintro v _ hv rfl
    obtain ⟨h1, h2⟩ := fpNaNResult_also he [ua, v] (pair_ioc hua hub)
    exact ⟨h1, h2.trans (by rw [exists_pair_iff, hv])⟩
  have hor : (ua.isNaN || ub.isNaN) = true := by simpa using h
  simp only [List.forall_mem_cons]
  refine ⟨hresult rfl ?_, hresult ub.kind_neg ?_, hresult rfl (fpMul_of_nan hua hub h), hresult rfl ?_,
    hresult rfl ?_, List.forall_mem_nil _⟩
  · rw [fpAdd_eq hua hub, fpAddNumbers_of_nan e 0 h]
  · rw [fpSub_eq hua hub, fpAddNumbers_of_nan e 0 (b := ub.neg) h]
  · simp only [fpMaxMin, ← hua, ← hub, hor, if_true]
  · simp only [fpStep, ← hua, ← hub, hor, if_true]

theorem fpCompare_of_nan (rel : FpRelation) (h : ua.isNaN = true ∨ ub.isNaN = true) :
    (fpCompare rel a b).1 = 0 ∧
      ((fpCompare rel a b).2.getLsbD 0 = true ↔
        rel ≠ .equal ∨ ua.kind = .signallingNaN ∨ ub.kind = .signallingNaN) := by
  have hor : (ua.isNaN || ub.isNaN) = true := by simpa using h
  simp only [fpCompare, ← hua, ← hub, hor, if_true, Lane.also, true_and]
  rw [BitVec.getLsbD_or, pair_ioc hua hub, Bool.or_false]
  refine (getLsbD_flagIOC _).trans ?_
  simp [or_assoc]

/-! ## The fused sum with a NaN or an infinity -/

section
variable (huc : (uc, fc) = fpUnpack fpStandard c) (he : FpWidth e)
include huc

theorem triple_ioc : (fc ||| fa ||| fb).getLsbD 0 = false := by
  rw [BitVec.getLsbD_or, pair_ioc huc hua, unpacked_ioc hub]; rfl

theorem fpMulAdd_of_nan (h : uc.isNaN = true ∨ ua.isNaN = true ∨ ub.isNaN = true)
    (hvalid : ¬(uc.kind = .quietNaN ∧ ZeroTimesInfinity ua ub)) :
    fpMulAdd c a b = (fpNaNResult e [uc, ua, ub]).also (fc ||| fa ||| fb) := by
  rw [zeroTimesInfinity_iff] at hvalid
  simp only [fpMulAdd, ← hua, ← hub, ← huc, decide_eq_true_eq]
  rw [if_neg hvalid, if_pos (by simpa [or_assoc] using h)]

include he

/-- Zero times infinity, which only a signalling addend hides. -/
theorem fpMulAdd_of_invalid (hz : ZeroTimesInfinity ua ub) (hc : uc.kind ≠ .signallingNaN) :
    fpMulAdd c a b = (defaultNaNBits e, flagIOC ||| (fc ||| fa ||| fb)) := by
  obtain ⟨ha, hb⟩ := hz.not_nan
  simp only [fpMulAdd, ← hua, ← hub, ← huc, decide_eq_true_eq, if_pos (zeroTimesInfinity_iff.mp hz), fpDefaultNaN_eq he]
  by_cases hq : uc.kind = .quietNaN
  · rw [if_pos ⟨hq, zeroTimesInfinity_iff.mp hz⟩]; rfl
  · have hn : uc.isNaN = false := by simp [FpNumber.isNaN, hq, hc]
    rw [if_neg fun h => hq h.1, if_neg (by simp [ha, hb, hn])]; rfl

section
variable (hc : uc.isNaN = false) (ha : ua.isNaN = false) (hb : ub.isNaN = false) (hz : ¬ZeroTimesInfinity ua ub)
include hc ha hb hz

/-- The fused sum of numbers, one of them infinite. -/
theorem fpMulAdd_of_infinity (hinf : uc.kind = .infinity ∨ ua.kind = .infinity ∨ ub.kind = .infinity) :
    fpMulAdd c a b = Lane.also
      (if uc.kind = .infinity ∧ (ua.kind = .infinity ∨ ub.kind = .infinity) ∧ uc.sign ≠ (ua.sign != ub.sign) then
        (defaultNaNBits e, flagIOC)
      else if uc.kind = .infinity then plain (infinityBits e uc.sign)
      else plain (infinityBits e (ua.sign != ub.sign))) (fc ||| fa ||| fb) := by
  have hq : uc.kind ≠ .quietNaN := fun h => by simp [FpNumber.isNaN, h] at hc
  rw [zeroTimesInfinity_iff] at hz
  simp only [fpMulAdd, ← hua, ← hub, ← huc, decide_eq_true_eq, fpDefaultNaN_eq he, fpInfinity_eq he]
  rw [if_neg fun h => hq h.1, if_neg (by simp [ha, hb, hc]), if_neg hz]
  congr 2
  split
  · rfl
  · next h => rw [if_pos (hinf.resolve_left h)]

end

/-- A NaN or an infinity among the operands of the fused sum. -/
theorem fusedSpecial : FusedSpecial c a b uc ua ub (fc ||| fa ||| fb) := by
  refine ⟨fun hnan => ?nan, fun hc ha hb => ⟨fun hz => ?invalid, fun hz => ⟨fun hk hp hs => ?difference,
    fun hk hs => ?addend, fun hk hp => ?product⟩⟩⟩
  case nan =>
    by_cases hq : uc.kind = .quietNaN ∧ ZeroTimesInfinity ua ub
    · rw [fpMulAdd_of_invalid hua hub huc he hq.2 (by simp [hq.1])]
      exact ⟨rfl, fun _ => .inr hq, fun _ => by simp [flagIOC]⟩
    · rw [fpMulAdd_of_nan hua hub huc hnan hq]
      obtain ⟨h1, h2⟩ := fpNaNResult_also he [uc, ua, ub] (triple_ioc hua hub huc)
      exact ⟨h1, h2.trans (or_iff_left hq).symm⟩
  case invalid =>
    exact fpMulAdd_of_invalid hua hub huc he hz fun h => by simp [FpNumber.isNaN, h] at hc
  case difference =>
    rw [fpMulAdd_of_infinity hua hub huc he hc ha hb hz (.inl hk), if_pos ⟨hk, hp, hs⟩]
    rfl
  case addend =>
    rw [fpMulAdd_of_infinity hua hub huc he hc ha hb hz (.inl hk), if_neg fun h => h.2.2 (hs h.2.1), if_pos hk]
    simp [Lane.also, plain]
  case product =>
    rw [fpMulAdd_of_infinity hua hub huc he hc ha hb hz (.inr hp), if_neg fun h => hk h.1, if_neg hk]
    simp [Lane.also, plain]

end

end

/-! ## The order of numbers -/

theorem fpLess_iff (a b : FpNumber) : fpLess a b = true ↔ a.Below b := by
  unfold fpLess FpNumber.Below FpNumber.inUnits fpScaled
  rw [← Int.min_def]
  by_cases ha : a.kind = .infinity <;> by_cases hb : b.kind = .infinity
  · cases hsa : a.sign <;> cases hsb : b.sign <;> simp [ha, hb, hsa, hsb]
  · cases hsa : a.sign <;> simp [ha, hb, hsa]
  · cases hsb : b.sign <;> simp [ha, hb, hsb]
  · simp [ha, hb]

/-- Two numbers are not both below each other. -/
theorem FpNumber.Below.asymm {a b : FpNumber} (h : a.Below b) : ¬b.Below a := by
  unfold FpNumber.Below at *
  rw [Int.min_comm b.x]
  rcases h with ⟨ha, hs, h⟩ | ⟨hb, hs, h⟩ | ⟨ha, hb, h⟩
  · simp_all
  · simp_all
  · simp [ha, hb, Int.le_of_lt h]

/-- An infinity that is neither below nor above a number is that number. -/
theorem FpNumber.infinity_of_not_below {a b : FpNumber} (ha : a.kind = .infinity) (h1 : ¬a.Below b) (h2 : ¬b.Below a) :
    b.kind = .infinity ∧ a.sign = b.sign := by
  unfold FpNumber.Below at h1 h2
  by_cases hb : b.kind = .infinity
  · cases hsa : a.sign <;> cases hsb : b.sign <;> simp [ha, hb, hsa, hsb] at h1 h2 ⊢
  · cases hsa : a.sign <;> simp [ha, hb, hsa] at h1 h2

/-- Two finite numbers of which none is below the other are one value. -/
theorem FpNumber.inUnits_eq_of_not_below {a b : FpNumber} (ha : a.kind ≠ .infinity) (hb : b.kind ≠ .infinity)
    (h1 : ¬a.Below b) (h2 : ¬b.Below a) : a.inUnits (min a.x b.x) = b.inUnits (min a.x b.x) := by
  simp only [FpNumber.Below, ha, hb, false_and, false_or, not_false_eq_true, ne_eq, true_and, Int.min_comm b.x,
    Int.not_lt] at h1 h2
  exact Int.le_antisymm h2 h1

theorem FpNumber.natAbs_inUnits (v : FpNumber) (x0 : Int) : (v.inUnits x0).natAbs = v.m * 2 ^ (v.x - x0).toNat :=
  natAbs_signed _ _

/-- A significand and its power of two are determined by their product. -/
theorem significand_unique {F m m' d d' : Nat} (hm : 2 ^ F ≤ m ∧ m < 2 ^ (F + 1)) (hm' : 2 ^ F ≤ m' ∧ m' < 2 ^ (F + 1))
    (h : m * 2 ^ d = m' * 2 ^ d') : d = d' ∧ m = m' := by
  have hpos : m ≠ 0 := Nat.ne_of_gt (Nat.lt_of_lt_of_le (Nat.two_pow_pos F) hm.1)
  have hpos' : m' ≠ 0 := Nat.ne_of_gt (Nat.lt_of_lt_of_le (Nat.two_pow_pos F) hm'.1)
  have hlog := congrArg Nat.log2 h
  rw [log2_mul_two_pow hpos, log2_mul_two_pow hpos', (Nat.log2_eq_iff hpos).mpr hm,
    (Nat.log2_eq_iff hpos').mpr hm'] at hlog
  obtain rfl : d = d' := Nat.add_left_cancel hlog
  exact ⟨rfl, Nat.eq_of_mul_eq_mul_right (Nat.two_pow_pos d) h⟩

theorem FpNumber.eq_of_fields {a b : FpNumber} (hs : a.sign = b.sign) (hk : a.kind = b.kind) (hm : a.m = b.m)
    (hx : a.x = b.x) : a = b := by
  cases a
  cases b
  simp_all

/-- `a` is not the one to choose of the two. -/
def FpNumber.LosesTo (least : Bool) (a b : FpNumber) : Prop := if least then b.Below a else a.Below b

section
variable {e : Nat} {a b : BitVec e} {ua ub : FpNumber} {fa fb : Flags} (he : FpWidth e)
  (hua : (ua, fa) = fpUnpack fpStandard a)
include he hua

/-- A lane that is no NaN, put together again. -/
theorem fpRepack_unpacked (ha : ua.isNaN = false) : fpRepack e ua = plain (flushed a) := by
  have hsign : ua.sign = a.msb := (congrArg (FpNumber.sign ∘ Prod.fst) hua).trans (fpUnpack_sign a)
  obtain hu : ua = (fpUnpack fpStandard a).1 := congrArg Prod.fst hua
  cases hk : ua.kind with
  | zero =>
    have h0 := (fpUnpack_kind_zero_iff a).mp (hu ▸ hk)
    simp only [fpRepack, hk, flushed, h0, if_true, fpZero_eq, hsign]
  | quietNaN => simp [FpNumber.isNaN, hk] at ha
  | signallingNaN => simp [FpNumber.isNaN, hk] at ha
  | infinity =>
    obtain ⟨h0, htop, hf, -⟩ := fpUnpack_of_infinity a (hu ▸ hk)
    have hlane := eq_signedBits he a
    rw [htop, hf, ← hsign, Nat.add_zero] at hlane
    simp only [fpRepack, hk, flushed, if_neg h0, fpInfinity_eq_signedBits]
    rw [← hlane]
  | nonzero =>
    obtain ⟨hm, hm', hx, hx'⟩ := fpUnpack_nonzero_range a he hu hk
    obtain ⟨h0, -⟩ := (fpUnpack_kind_nonzero_iff a).mp (hu ▸ hk)
    have hm0 : ua.m ≠ 0 := unpacked_nonzero he hua hk
    have hlog : Nat.log2 ua.m = fracBits e := (Nat.log2_eq_iff hm0).mpr ⟨hm, hm'⟩
    obtain ⟨q, hq, -, -, hround, -⟩ := fpRound_exact he ua.sign (x := ua.x) hm0 (significant_of_lt hm0 hm') (by omega)
      (by omega)
    rw [hlog, Nat.sub_self, Nat.pow_zero, Nat.mul_one, Nat.mul_one] at hq
    have hvalue : ua.m = fpFraction a + 2 ^ fracBits e ∧ ua.x = fpExponent a - expBias e - fracBits e := by
      rw [hu, fpUnpack_of_nonzero a (hu ▸ hk)]
      exact ⟨rfl, rfl⟩
    obtain ⟨hfrac, hexp⟩ := hvalue
    have hfields : (Nat.log2 ua.m + ua.x - (1 - expBias e)).toNat * 2 ^ fracBits e + q =
        fpExponent a * 2 ^ fracBits e + fpFraction a := by
      rw [hlog, hexp, hq, hfrac,
        show ((fracBits e : Int) + (fpExponent a - expBias e - fracBits e) - (1 - expBias e)).toNat =
          fpExponent a - 1 by omega,
        Nat.sub_mul, Nat.one_mul]
      have hle : 2 ^ fracBits e ≤ fpExponent a * 2 ^ fracBits e := Nat.le_mul_of_pos_left _ (Nat.pos_of_ne_zero h0)
      omega
    have hlane := eq_signedBits he a
    rw [← hsign] at hlane
    simp only [fpRepack, hk, flushed, if_neg h0]
    rw [hround, hfields, ← hlane]
    rfl

variable (hub : (ub, fb) = fpUnpack fpStandard b)
include hub

/-- Two numbers of which none is below the other are one and the same, but for two zeros. -/
theorem eq_of_not_below (ha : ua.isNaN = false) (hb : ub.isNaN = false) (hz : ua.kind ≠ .zero ∨ ub.kind ≠ .zero)
    (h1 : ¬ua.Below ub) (h2 : ¬ub.Below ua) : ua = ub := by
  by_cases hinf : ua.kind = .infinity ∨ ub.kind = .infinity
  · obtain ⟨hka, hkb, hs⟩ : ua.kind = .infinity ∧ ub.kind = .infinity ∧ ua.sign = ub.sign := by
      rcases hinf with hk | hk
      · exact ⟨hk, FpNumber.infinity_of_not_below hk h1 h2⟩
      · obtain ⟨hk', hs⟩ := FpNumber.infinity_of_not_below hk h2 h1
        exact ⟨hk', hk, hs.symm⟩
    obtain ⟨hma, hxa⟩ := unpacked_infinity hua hka
    obtain ⟨hmb, hxb⟩ := unpacked_infinity hub hkb
    exact FpNumber.eq_of_fields hs (hka.trans hkb.symm) (hma.trans hmb.symm) (hxa.trans hxb.symm)
  · obtain ⟨hia, hib⟩ := not_or.mp hinf
    have hvalue := FpNumber.inUnits_eq_of_not_below hia hib h1 h2
    have hmagnitude := congrArg Int.natAbs hvalue
    rw [FpNumber.natAbs_inUnits, FpNumber.natAbs_inUnits] at hmagnitude
    have hfa : ua.Finite := finite_of_kind ha hia
    have hfb : ub.Finite := finite_of_kind hb hib
    have hzero : ua.m = 0 ↔ ub.m = 0 := by
      have hscaled : ∀ m k : Nat, m * 2 ^ k = 0 ↔ m = 0 := fun m k => by
        rw [Nat.mul_eq_zero]
        exact or_iff_left (Nat.ne_of_gt (Nat.two_pow_pos k))
      rw [← hscaled ua.m (ua.x - min ua.x ub.x).toNat, hmagnitude, hscaled]
    rw [unpacked_m_eq_zero_iff he hua hfa, unpacked_m_eq_zero_iff he hub hfb] at hzero
    have hka : ua.kind = .nonzero := hfa.resolve_left fun h => hz.elim (· h) (· (hzero.mp h))
    have hkb : ub.kind = .nonzero := hfb.resolve_left fun h => hz.elim (· (hzero.mpr h)) (· h)
    obtain ⟨hma, hma', -, -⟩ := fpUnpack_nonzero_range a he (congrArg Prod.fst hua) hka
    obtain ⟨hmb, hmb', -, -⟩ := fpUnpack_nonzero_range b he (congrArg Prod.fst hub) hkb
    obtain ⟨hd, hm⟩ := significand_unique ⟨hma, hma'⟩ ⟨hmb, hmb'⟩ hmagnitude
    have hpos : 0 < ua.m * 2 ^ (ua.x - min ua.x ub.x).toNat :=
      Nat.mul_pos (Nat.lt_of_lt_of_le (Nat.two_pow_pos _) hma) (Nat.two_pow_pos _)
    have hs : ua.sign = ub.sign := by
      unfold FpNumber.inUnits at hvalue
      rw [← hmagnitude] at hvalue
      generalize ua.m * 2 ^ (ua.x - min ua.x ub.x).toNat = n at hvalue hpos
      cases hsa : ua.sign <;> cases hsb : ub.sign <;> simp [hsa, hsb] at hvalue ⊢ <;> omega
    exact FpNumber.eq_of_fields hs (hka.trans hkb.symm) hm (by omega)

section
variable (ha : ua.isNaN = false) (hb : ub.isNaN = false) (hz : ua.kind ≠ .zero ∨ ub.kind ≠ .zero) (least : Bool)
include ha hb hz

omit he in
/-- The choice between two numbers that are not both zero. -/
theorem fpMaxMin_eq :
    (ub.LosesTo least ua → (fpMaxMin least a b).1 = (fpRepack e ua).1) ∧
      (¬ub.LosesTo least ua → (fpMaxMin least a b).1 = (fpRepack e ub).1) := by
  have hzero : ¬(ua.kind = .zero ∧ ub.kind = .zero) := fun h => hz.elim (· h.1) (· h.2)
  have hloses : (if least then fpLess ua ub else fpLess ub ua) = true ↔ ub.LosesTo least ua := by
    unfold FpNumber.LosesTo
    cases least
    · exact fpLess_iff ub ua
    · exact fpLess_iff ua ub
  have hresult : (fpMaxMin least a b).1 =
      (fpRepack e (if (if least then fpLess ua ub else fpLess ub ua) = true then ua else ub)).1 := by
    simp only [fpMaxMin, ← hua, ← hub, ha, hb, Lane.also]
    rw [if_neg (by decide), if_neg hzero]
  exact ⟨fun h => by rw [hresult, if_pos (hloses.mpr h)], fun h => by rw [hresult, if_neg (mt hloses.mp h)]⟩

/-- The second operand is chosen where it does not lose. -/
theorem fpMaxMin_second (h : ¬ub.LosesTo least ua) : (fpMaxMin least a b).1 = flushed b := by
  rw [(fpMaxMin_eq hua hub ha hb hz least).2 h, fpRepack_unpacked he hub hb, plain_fst]

/-- The first operand is chosen where it does not lose: of two equal numbers the second stands for both. -/
theorem fpMaxMin_first (h : ¬ua.LosesTo least ub) : (fpMaxMin least a b).1 = flushed a := by
  obtain ⟨hfirst, hsecond⟩ := fpMaxMin_eq hua hub ha hb hz least
  by_cases hloses : ub.LosesTo least ua
  · rw [hfirst hloses, fpRepack_unpacked he hua ha, plain_fst]
  · have heq : ua = ub := by
      unfold FpNumber.LosesTo at h hloses
      cases least with
      | true => exact eq_of_not_below he hua hub ha hb hz hloses h
      | false => exact eq_of_not_below he hua hub ha hb hz h hloses
    rw [hsecond hloses, ← heq, fpRepack_unpacked he hua ha, plain_fst]

end

end

end Sys2Proof.Machine
end

section
/-! Comparisons, maximum and minimum, and the reciprocal steps (rules R124 to R126, R142, R162 to R165, R174 to R177,
R198), and the statement about special operands. -/

namespace Sys2Proof.Machine

theorem mask_cases {e : Nat} {b : Bool} {p : Prop} (h : b = true ↔ p) :
    (p → (mask b : BitVec e) = BitVec.allOnes e) ∧ (¬p → (mask b : BitVec e) = 0) :=
  ⟨fun hp => if_pos (h.mpr hp), fun hp => if_neg (mt h.mp hp)⟩

/-- Infinity taken apart. -/
theorem fpUnpack_fpInfinity {e : Nat} (he : FpWidth e) (sign : Bool) :
    fpUnpack fpStandard (fpInfinity e sign) = ({ sign := sign, kind := .infinity, m := 0, x := 0 }, 0#32) := by
  rcases he with rfl | rfl <;> cases sign <;> decide

/-! ## Comparisons, maximum and minimum of two numbers -/

section
variable {e : Nat} {a b : BitVec e} {ua ub : FpNumber} {fa fb : Flags}
  (hua : (ua, fa) = fpUnpack fpStandard a) (hub : (ub, fb) = fpUnpack fpStandard b)
include hua hub

/-- The comparisons by the order of the numbers. -/
theorem fpCompare_of_numbers (ha : ua.isNaN = false) (hb : ub.isNaN = false) :
    ∀ p ∈ [(FpRelation.greater, ub.Below ua), (.greaterEqual, ¬ua.Below ub), (.equal, ¬ua.Below ub ∧ ¬ub.Below ua)],
      (p.2 → (fpCompare p.1 a b).1 = BitVec.allOnes e) ∧ (¬p.2 → (fpCompare p.1 a b).1 = 0) := by
  have hnum : ¬(ua.isNaN || ub.isNaN) = true := by simp [ha, hb]
  simp only [fpCompare, ← hua, ← hub, if_neg hnum, Lane.also, List.forall_mem_cons, plain_fst]
  refine ⟨mask_cases (fpLess_iff _ _), mask_cases ?_, mask_cases ?_, List.forall_mem_nil _⟩
  · simp [← fpLess_iff]
  · simp [← fpLess_iff]

theorem fpMaxMin_of_zeros (least : Bool) (ha : ua.kind = .zero) (hb : ub.kind = .zero) :
    (fpMaxMin least a b).1 = signedBits e (if least then ua.sign || ub.sign else ua.sign && ub.sign) 0 := by
  simp [fpMaxMin, ← hua, ← hub, isNaN_of_kind, ha, hb, Lane.also, fpZero_eq]

omit hub in
/-- A number beats the infinity that stands for a quiet NaN, in either order. -/
theorem fpMaxMin_loser (he : FpWidth e) (least : Bool) (ha : ua.isNaN = false) :
    (fpMaxMin least (fpInfinity e (!least)) a).1 = flushed a ∧
      (fpMaxMin least a (fpInfinity e (!least))).1 = flushed a := by
  have hloser := (fpUnpack_fpInfinity he (!least)).symm
  have hnot : ¬ua.LosesTo least { sign := !least, kind := .infinity, m := 0, x := 0 } := by
    unfold FpNumber.LosesTo FpNumber.Below
    cases least <;> simp +contextual
  exact ⟨fpMaxMin_second he hloser hua rfl ha (.inl nofun) least hnot,
    fpMaxMin_first he hua hloser ha rfl (.inr nofun) least hnot⟩

/-! ## Maximum and minimum with NaNs -/

theorem fpMaxMinNum_of_not_quiet (least : Bool) (h : ua.kind = .quietNaN ↔ ub.kind = .quietNaN) :
    fpMaxMinNum least a b = fpMaxMin least a b := by
  simp only [fpMaxMinNum, ← hua, ← hub]
  by_cases hq : ub.kind = .quietNaN
  · rw [if_neg fun hc => hc.2 hq, if_neg fun hc => hc.1 (h.mpr hq)]
  · rw [if_neg fun hc => hq (h.mp hc.1), if_neg fun hc => hq hc.2]

theorem fpMaxMinNum_of_left (least : Bool) (ha : ua.kind = .quietNaN) (hb : ub.kind ≠ .quietNaN) :
    fpMaxMinNum least a b = fpMaxMin least (fpInfinity e (!least)) b := by
  simp only [fpMaxMinNum, ← hua, ← hub]
  rw [if_pos ⟨ha, hb⟩]

theorem fpMaxMinNum_of_right (least : Bool) (ha : ua.kind ≠ .quietNaN) (hb : ub.kind = .quietNaN) :
    fpMaxMinNum least a b = fpMaxMin least a (fpInfinity e (!least)) := by
  simp only [fpMaxMinNum, ← hua, ← hub]
  rw [if_neg fun hc => ha hc.1, if_pos ⟨ha, hb⟩]

/-- A NaN operand of the maximum or the minimum. -/
theorem fpMaxMin_of_nan (he : FpWidth e) (least : Bool) (h : ua.isNaN = true ∨ ub.isNaN = true) :
    (fpMaxMin least a b).1 = defaultNaNBits e ∧
      ((fpMaxMin least a b).2.getLsbD 0 = true ↔ ua.kind = .signallingNaN ∨ ub.kind = .signallingNaN) :=
  nanOperand_result hua hub he least h _ (by simp)

/-- A signalling NaN, or two quiet ones, is not ignored. -/
theorem fpMaxMinNum_of_nan (he : FpWidth e) (least : Bool)
    (h : ua.kind = .quietNaN ∧ ub.kind = .quietNaN ∨ ua.kind = .signallingNaN ∨ ub.kind = .signallingNaN) :
    (fpMaxMinNum least a b).1 = defaultNaNBits e ∧
      ((fpMaxMinNum least a b).2.getLsbD 0 = true ↔ ua.kind = .signallingNaN ∨ ub.kind = .signallingNaN) := by
  have hloser := (fpUnpack_fpInfinity he (!least)).symm
  by_cases hqa : ua.kind = .quietNaN <;> by_cases hqb : ub.kind = .quietNaN
  · rw [fpMaxMinNum_of_not_quiet hua hub least (by simp [hqa, hqb])]
    exact fpMaxMin_of_nan hua hub he least (.inl (isNaN_iff.mpr (.inl hqa)))
  · have hs : ub.kind = .signallingNaN := by simpa [hqa, hqb] using h
    rw [fpMaxMinNum_of_left hua hub least hqa hqb]
    simpa [hqa] using fpMaxMin_of_nan hloser hub he least (.inr (isNaN_iff.mpr (.inr hs)))
  · have hs : ua.kind = .signallingNaN := by simpa [hqa, hqb] using h
    rw [fpMaxMinNum_of_right hua hub least hqa hqb]
    simpa [hqb] using fpMaxMin_of_nan hua hloser he least (.inl (isNaN_iff.mpr (.inr hs)))
  · have hs : ua.kind = .signallingNaN ∨ ub.kind = .signallingNaN := by simpa [hqa] using h
    rw [fpMaxMinNum_of_not_quiet hua hub least (by simp [hqa, hqb])]
    exact fpMaxMin_of_nan hua hub he least (hs.imp (isNaN_iff.mpr <| .inr ·) (isNaN_iff.mpr <| .inr ·))

end

/-! ## The reciprocal steps -/

/-- 2.0, or 3.0 for the square root. -/
def stepConstant (e : Nat) (sqrt : Bool) : BitVec e :=
  fpPack e false (2 ^ (expBits e - 1)) (if sqrt then 2 ^ (fracBits e - 1) else 0)

/-- 3.0 taken apart. -/
def threeNumber (e : Nat) : FpNumber :=
  { sign := false, kind := .nonzero, m := 3 * 2 ^ (fracBits e - 1), x := 1 - fracBits e }

section
variable {e : Nat} (he : FpWidth e)
include he

theorem stepConstant_two : stepConstant e false = BitVec.ofNat e (if e = 16 then 0x4000 else 0x40000000) := by
  rcases he with rfl | rfl <;> rfl

theorem fpUnpack_stepConstant_three : fpUnpack fpStandard (stepConstant e true) = (threeNumber e, 0#32) := by
  rcases he with rfl | rfl <;> decide

/-- 2.0 - 0 and (3.0 - 0) / 2.0. -/
theorem step_of_zero :
    (fpSub (stepConstant e false) (fpZero e false)).1 = BitVec.ofNat e (if e = 16 then 0x4000 else 0x40000000) ∧
      (fpHalvedSub (stepConstant e true) (fpZero e false)).1 =
        BitVec.ofNat e (if e = 16 then 0x3E00 else 0x3FC00000) := by
  rcases he with rfl | rfl <;> decide

end

section
variable {e : Nat} {a b : BitVec e} {ua ub : FpNumber} {fa fb : Flags}
  (hua : (ua, fa) = fpUnpack fpStandard a) (hub : (ub, fb) = fpUnpack fpStandard b)
include hua hub

theorem fpStep_of_invalid (sqrt : Bool) (h : ZeroTimesInfinity ua ub) :
    (fpStep sqrt a b).1 =
      (if sqrt then fpHalvedSub (stepConstant e sqrt) (fpZero e false)
        else fpSub (stepConstant e sqrt) (fpZero e false)).1 := by
  obtain ⟨ha, hb⟩ := h.not_nan
  simp only [fpStep, ← hua, ← hub, decide_eq_true_eq, if_pos (zeroTimesInfinity_iff.mp h)]
  rw [if_neg (by simp [ha, hb])]
  rfl

theorem fpStep_of_product (sqrt : Bool) (ha : ua.isNaN = false) (hb : ub.isNaN = false) (h : ¬ZeroTimesInfinity ua ub) :
    (fpStep sqrt a b).1 =
      (if sqrt then fpHalvedSub (stepConstant e sqrt) (fpMul a b).1
        else fpSub (stepConstant e sqrt) (fpMul a b).1).1 := by
  rw [zeroTimesInfinity_iff] at h
  simp only [fpStep, ← hua, ← hub, decide_eq_true_eq, if_neg h]
  rw [if_neg (by simp [ha, hb])]
  rfl

end

section
variable {e : Nat} (he : FpWidth e) (p : BitVec e) {up : FpNumber} (hup : up = (fpUnpack fpStandard p).1)
include he hup

/-- (3.0 - p) / 2.0 of a finite number. -/
theorem halvedStep_givesSum (hfin : up.Finite) {x0 : Int} (hx0 : x0 = min (1 - (fracBits e : Int)) up.x) :
    ∃ r : Lane e, GivesSum (3 * 2 ^ (-x0).toNat - up.inUnits x0) (x0 - 1) (signedBits e false 0) 0#32 r ∧
      (fpHalvedSub (stepConstant e true) p).1 = r.1 := by
  have hp : (up, (fpUnpack fpStandard p).2) = fpUnpack fpStandard p := by rw [hup]
  have hthree := (fpUnpack_stepConstant_three he).symm
  have hF : 1 ≤ fracBits e := by rcases he with rfl | rfl <;> decide
  have hexp : (-x0).toNat = fracBits e - 1 + (1 - (fracBits e : Int) - x0).toNat := by omega
  have hunits : (threeNumber e).inUnits x0 = 3 * 2 ^ (-x0).toNat := by
    rw [FpNumber.inUnits, threeNumber, if_neg Bool.false_ne_true, Nat.mul_assoc, ← Nat.pow_add, ← hexp, Int.one_mul]
    push_cast
    rfl
  have hsum := fpAddNumbers_givesSum he 1 (a := threeNumber e) (b := up.neg) (.inr rfl) hfin.neg nofun
    (fun h => (unpacked_zero hp h).1) hx0 rfl
  rw [hunits, FpNumber.inUnits_neg, ← Int.sub_eq_add_neg] at hsum
  exact ⟨_, hsum, by rw [fpHalvedSub_eq hthree hp]; rfl⟩

/-- (3.0 - p) / 2.0 of an infinity. -/
theorem halvedStep_of_infinity (hk : up.kind = .infinity) :
    (fpHalvedSub (stepConstant e true) p).1 = infinityBits e (!up.sign) := by
  have hp : (up, (fpUnpack fpStandard p).2) = fpUnpack fpStandard p := by rw [hup]
  rw [fpHalvedSub_eq (fpUnpack_stepConstant_three he).symm hp,
    fpAddNumbers_of_right 1 he (b := up.neg) rfl hk fun h => absurd h (by simp [threeNumber])]
  rfl

end

/-! ## The fields of a lane -/

section
variable {e : Nat} {a : BitVec e} {ua : FpNumber} {fa : Flags}
  (hua : (ua, fa) = fpUnpack fpStandard a)
include hua

theorem unpacked_of_exponent_zero (h : fpExponent a = 0) :
    ua.kind = .zero ∧ ua.m = 0 ∧ (fpUnpack fpStandard a).2 = if e = 32 ∧ fpFraction a ≠ 0 then flagIDC else 0#32 := by
  obtain rfl : ua = (fpUnpack fpStandard a).1 := congrArg Prod.fst hua
  rw [fpUnpack_of_exponent_zero a h]
  refine ⟨rfl, rfl, ?_⟩
  by_cases he : e = 32 <;> by_cases hf : fpFraction a = 0 <;> simp [flagIf, he, hf]

theorem unpacked_of_exponent_normal (h0 : fpExponent a ≠ 0) (htop : fpExponent a ≠ 2 ^ expBits e - 1) :
    ua.kind = .nonzero ∧ ua.m = 2 ^ fracBits e + fpFraction a ∧ ua.x = fpExponent a - expBias e - fracBits e := by
  have hk := (fpUnpack_kind_nonzero_iff a).mpr ⟨h0, htop⟩
  obtain rfl : ua = (fpUnpack fpStandard a).1 := congrArg Prod.fst hua
  rw [fpUnpack_of_nonzero a hk]
  exact ⟨rfl, Nat.add_comm _ _, rfl⟩

theorem unpacked_of_exponent_top (he : FpWidth e) (htop : fpExponent a = 2 ^ expBits e - 1) :
    ua.kind = if fpFraction a = 0 then .infinity
      else if a.getLsbD (fracBits e - 1) then .quietNaN else .signallingNaN := by
  have hpos : 2 ^ expBits e - 1 ≠ 0 ∧ fracBits e - 1 < fracBits e := by rcases he with rfl | rfl <;> decide
  have hbit : (fpFraction a).testBit (fracBits e - 1) = a.getLsbD (fracBits e - 1) := by
    rw [fpFraction, Nat.testBit_mod_two_pow, decide_eq_true hpos.2, Bool.true_and]
    rfl
  obtain rfl : ua = (fpUnpack fpStandard a).1 := congrArg Prod.fst hua
  rw [fpUnpack_eq, if_neg (htop ▸ hpos.1), if_pos htop, hbit]

end

/-! ## Infinite terms -/

section
variable {e : Nat} {a b : BitVec e} {ua ub : FpNumber} {fa fb : Flags} (he : FpWidth e)
  (hua : (ua, fa) = fpUnpack fpStandard a) (hub : (ub, fb) = fpUnpack fpStandard b)
include he hua hub

/-- A sum of opposite infinities, as a sum or as a difference. -/
theorem oppositeInfinities (ha : ua.kind = .infinity) (hb : ub.kind = .infinity) :
    (ua.sign = ub.sign → fpSub a b = (defaultNaNBits e, flagIOC)) ∧
      (ua.sign ≠ ub.sign → fpAdd a b = (defaultNaNBits e, flagIOC)) := by
  have hfa : fa = 0#32 := flags_eq_zero hua (by simp [ha])
  have hfb : fb = 0#32 := flags_eq_zero hub (by simp [hb])
  have hflags : Lane.also (defaultNaNBits e, flagIOC) (0#32 ||| 0#32) = (defaultNaNBits e, flagIOC) := by
    simp [Lane.also]
  refine ⟨fun hs => ?_, fun hs => ?_⟩
  · rw [fpSub_eq hua hub, fpAddNumbers_of_opposite 0 he (b := ub.neg) ha hb (by simp [hs]), hfa, hfb, hflags]
  · rw [fpAdd_eq hua hub, fpAddNumbers_of_opposite 0 he ha hb hs, hfa, hfb, hflags]

/-- Sums and differences with one infinite term, or two that agree. -/
theorem infiniteTerms (ha : ua.isNaN = false) (hb : ub.isNaN = false) :
    (ua.kind = .infinity → (ub.kind = .infinity → ua.sign = ub.sign) →
        fpAdd a b = (infinityBits e ua.sign, fa ||| fb)) ∧
      (ub.kind = .infinity → (ua.kind = .infinity → ua.sign = ub.sign) →
        fpAdd a b = (infinityBits e ub.sign, fa ||| fb)) ∧
      (ua.kind = .infinity → (ub.kind = .infinity → ua.sign ≠ ub.sign) →
        fpSub a b = (infinityBits e ua.sign, fa ||| fb)) ∧
      (ub.kind = .infinity → (ua.kind = .infinity → ua.sign ≠ ub.sign) →
        fpSub a b = (infinityBits e (!ub.sign), fa ||| fb)) := by
  have halso : ∀ x : BitVec e, (plain x).also (fa ||| fb) = (x, fa ||| fb) := fun x => by simp [Lane.also, plain]
  refine ⟨fun hk hs => ?_, fun hk hs => ?_, fun hk hs => ?_, fun hk hs => ?_⟩
  · rw [fpAdd_eq hua hub, fpAddNumbers_of_left 0 he hk hb hs, halso]
  · rw [fpAdd_eq hua hub, fpAddNumbers_of_right 0 he ha hk hs, halso]
  · rw [fpSub_eq hua hub, fpAddNumbers_of_left 0 he (b := ub.neg) hk hb fun h => Bool.eq_not_of_ne (hs h), halso]
  · rw [fpSub_eq hua hub, fpAddNumbers_of_right 0 he (b := ub.neg) ha hk fun h => Bool.eq_not_of_ne (hs h), halso]
    rfl

end

/-- Settles O35: the fields by `fpUnpack_eq`, each operation by the kinds of its operands, and the choices by the order
of the numbers, where numbers of which none is below the other are one and the same. -/
theorem floatingSpecialOperands : Obligations.FloatingSpecialOperands := by
  intro e a b c ua ub uc up fa fb fc least F top ex fr bias x0 he hua hub huc hF htop hbias hex hfr
  obtain rfl : F = fracBits e := hF
  obtain rfl : top = 2 ^ expBits e - 1 := htop.trans (top_eq he).symm
  obtain rfl : bias = expBias e := hbias.trans (expBias_eq he).symm
  obtain rfl : ex = fpExponent a := by rw [hex, Nat.sub_add_cancel Nat.one_le_two_pow]; rfl
  obtain rfl : fr = fpFraction a := hfr
  refine ⟨(congrArg (FpNumber.sign ∘ Prod.fst) hua).trans (fpUnpack_sign a), unpacked_of_exponent_zero hua,
    fun h => fpUnpack_flags_of_kind_ne_zero a (mt (fpUnpack_kind_zero_iff a).mp h), unpacked_of_exponent_normal hua,
    unpacked_of_exponent_top hua he,
    fun h => ⟨nanOperand_result hua hub he least h, fun rel _ => fpCompare_of_nan hua hub rel h⟩, fun hz => ?invalid,
    oppositeInfinities he hua hub, fun ha hb => ⟨fpMul_of_infinity hua hub he ha hb, infiniteTerms he hua hub ha hb⟩,
    fusedSpecial hua hub huc he, rfl, fun ha hb => ?numbers, fun ha hb => ?quiet, fpMaxMinNum_of_nan hua hub he least⟩
  case invalid =>
    rw [fpMul_of_invalid hua hub he hz, fpStep_of_invalid hua hub false hz, fpStep_of_invalid hua hub true hz]
    exact ⟨rfl, by simp [flagIOC], step_of_zero he⟩
  case quiet =>
    have hnot : ub.kind ≠ .quietNaN := fun h => by simp [FpNumber.isNaN, h] at hb
    rw [fpMaxMinNum_of_left hua hub least ha hnot, fpMaxMinNum_of_right hub hua least hnot ha]
    exact fpMaxMin_loser hub he least hb
  case numbers =>
    have hqa : ua.kind ≠ .quietNaN := fun h => by simp [FpNumber.isNaN, h] at ha
    have hqb : ub.kind ≠ .quietNaN := fun h => by simp [FpNumber.isNaN, h] at hb
    refine ⟨fpCompare_of_numbers hua hub ha hb,
      fun hza hzb => ⟨fpMaxMin_of_zeros hua hub false hza hzb, fpMaxMin_of_zeros hua hub true hza hzb⟩,
      fun hz => ⟨fun h => ⟨?_, ?_⟩, fun h => ⟨?_, ?_⟩⟩, fpMaxMinNum_of_not_quiet hua hub least (by simp [hqa, hqb]),
      fun hz => ⟨?_, ?_, ?_⟩⟩
    · exact fpMaxMin_second he hua hub ha hb hz false h.asymm
    · exact fpMaxMin_first he hua hub ha hb hz true h.asymm
    · exact fpMaxMin_first he hua hub ha hb hz false h
    · exact fpMaxMin_second he hua hub ha hb hz true h
    · rw [fpStep_of_product hua hub false ha hb hz, ← stepConstant_two he]
      rfl
    · intro hup hfin hx0
      rw [fpStep_of_product hua hub true ha hb hz]
      exact halvedStep_givesSum he _ hup hfin hx0
    · intro hup hk
      rw [fpStep_of_product hua hub true ha hb hz]
      exact halvedStep_of_infinity he _ hup hk

end Sys2Proof.Machine
end
